-- ==== Sys2Proof/Word.lean ====
section
/-! DEFINITION. The word types of the part: bytes of the links, and web positions (R2). -/

namespace Sys2Proof

/-- One byte of a frame on SV, HB or LL. -/
abbrev Byte := BitVec 8

/-- A web position in counts: 32 bits, wrapping (R2). -/
abbrev Pos := BitVec 32

end Sys2Proof
end

