-- ==== Sys2Proof/Machine/Bytes.lean ====
section
/-! DEFINITION. Byte order, frame forms and the frame check (R184, R191): multi-byte fields are
little-endian, signed fields two's complement, and every frame carries a CRC-16. -/

namespace Sys2Proof.Machine

/-- One byte. -/
def le1 (n : Nat) : List Byte := [BitVec.ofNat 8 n]

/-- Two bytes, little-endian. -/
def le2 (n : Nat) : List Byte := [BitVec.ofNat 8 n, BitVec.ofNat 8 (n / 256)]

/-- Four bytes, little-endian. -/
def le4 (n : Nat) : List Byte := le2 n ++ le2 (n / 65536)

/-- Eight bytes, little-endian. -/
def le8 (n : Nat) : List Byte := le4 n ++ le4 (n / 4294967296)

/-- A signed field of two bytes. -/
def sle2 (i : Int) : List Byte := le2 (BitVec.ofInt 16 i).toNat

/-- A signed field of four bytes. -/
def sle4 (i : Int) : List Byte := le4 (BitVec.ofInt 32 i).toNat

/-- A mark or flag: 1 set, 0 clear (log 11). -/
def mark (b : Bool) : List Byte := le1 (if b then 1 else 0)

/-- A field of two named values, the rule's first value coded 0 (R191): `isFirst` says it holds the first. -/
def coded2 (isFirst : Bool) : List Byte := le1 (if isFirst then 0 else 1)

/-- A field present in some cases only (R191): a presence byte, then `room` bytes, 0 where absent. -/
def optional (room : Nat) : Option (List Byte) → List Byte
  | some bs => le1 1 ++ bs ++ List.replicate (room - bs.length) 0
  | none => le1 0 ++ List.replicate room 0

/-- A set of members below 8 as one byte with a bit for each (R191). -/
def setByte (members : List Nat) : Byte := members.foldl (fun m i => m ||| (1#8 <<< i)) 0

/-- The number a little-endian field holds. -/
def ofLe : List Byte → Nat
  | [] => 0
  | b :: bs => b.toNat + 256 * ofLe bs

/-- The number of `size` bytes at offset `at_`. -/
def field (bs : List Byte) (at_ size : Nat) : Nat := ofLe ((bs.drop at_).take size)

/-- The signed number of two bytes at offset `at_`. -/
def sfield2 (bs : List Byte) (at_ : Nat) : Int := (BitVec.ofNat 16 (field bs at_ 2)).toInt

/-- One bit of the CRC-16 of polynomial 0x1021 (R184). -/
def crcBit (c : BitVec 16) : BitVec 16 := if c.msb then (c <<< 1) ^^^ 0x1021#16 else c <<< 1

/-- One byte of the CRC-16, most significant bit first: no reflection (R184). -/
def crcByte (c : BitVec 16) (b : Byte) : BitVec 16 :=
  crcBit (crcBit (crcBit (crcBit (crcBit (crcBit (crcBit (crcBit (c ^^^ (b.setWidth 16 <<< 8)))))))))

/-- The CRC-16 of R184: initial value 0xFFFF, no final inversion. -/
def crc16 (bs : List Byte) : BitVec 16 := bs.foldl crcByte 0xFFFF#16

/-- The start byte of every frame (R184, R191). -/
def startByte : Byte := 0xC3#8

/-- LEN, the bytes it counts, and CHECK worked over both (R184, R191). -/
def lenAndCheck (payload : List Byte) : List Byte :=
  let counted := le2 payload.length ++ payload
  counted ++ le2 (crc16 counted).toNat

/-- A Supervisor Link frame (R191). -/
def supervisorFrame (tag type : Byte) (body : List Byte) : List Byte :=
  startByte :: lenAndCheck (tag :: type :: body)

/-- A frame of the label link or the head bus: the Supervisor Link form without the TAG (R191). -/
def linkFrame (type : Byte) (body : List Byte) : List Byte :=
  startByte :: lenAndCheck (type :: body)

/-- The TYPE and BODY of a link frame that arrives whole and passes its check, else none. -/
def parseLink : List Byte → Option (Byte × List Byte)
  | c :: l0 :: l1 :: type :: rest =>
    let len := ofLe [l0, l1]
    let body := rest.take (len - 1)
    if c = startByte ∧ 1 ≤ len ∧ rest.length = len + 1 ∧
        rest.drop (len - 1) = le2 (crc16 (l0 :: l1 :: type :: body)).toNat then
      some (type, body)
    else none
  | _ => none

end Sys2Proof.Machine
end

