-- ==== Sys2Proof/Config.lean ====
section
/-! DEFINITION. What the part fixes (Table 1 of spec/00_scope.md and the key figures of the chapters), and
the free values: the values the spec leaves open after which the part goes on. A free value is an opaque
constant, so that a proof about it holds whatever it is. -/

namespace Sys2Proof.Config

/-- Records the repeat track holds (R29, R43). -/
def trackCapacity : Nat := 512
/-- Entries of the pending splice list (R44). -/
def spliceCapacity : Nat := 4
/-- Pending spot contexts (R111). -/
def spotCapacity : Nat := 4
/-- Spot results held (R116). -/
def resultCapacity : Nat := 4
/-- Roll records in the history (R143). -/
def historyCapacity : Nat := 64
/-- Open batches (R152). -/
def batchCapacity : Nat := 16
/-- Sequences of one job (R152). -/
def lastSequence : Nat := 999
/-- Jobs in one label list (R167). -/
def labelCapacity : Nat := 4
/-- Notices queued (R180). -/
def noticeCapacity : Nat := 32
/-- Request frames waiting (R185). -/
def inputCapacity : Nat := 4
/-- Entries of one shade list (R107). -/
def shadeListCapacity : Nat := 6
/-- Consecutive INVALID measurements that fail a head (R94). -/
def headFaultLimit : Nat := 8
/-- Consecutive qualifying indexes that engage the nip (R80). -/
def engageTarget : Nat := 3
/-- Consecutive MISSING entries that raise MARK-LOST (R58). -/
def missingLimit : Nat := 4
/-- Greatest owed trim (R65). -/
def owedLimit : Int := 4095
/-- Samples of one slot's part of a calibration run (R123). -/
def calSamples : Nat := 16
/-- Where the 16-bit counts of rolls, strays and discarded frames saturate (R33, R130, R184). -/
def countLimit : Nat := 65535

/-- FREE VALUE. The repeat number the counter holds after it has given 4,294,967,295: repeat numbers are
32-bit and count from 1 (00_scope.md), and no rule says what follows the last (log 16). -/
opaque repeatAfterLast : BitVec 32

/-- FREE VALUE. The length in cm printed for a roll whose length in counts is negative, which R165 bounds
to 0..65,535 without saying what it is then (log 17). -/
opaque labelLengthOfNegative : Int → BitVec 16

end Sys2Proof.Config
end

