-- ==== Sys2Proof/Syntax.lean ====
section
/-! DEFINITION. The commands of the part: one constructor of `Instr` per row of spec/opcode_table.json.

A request's constructor is the TAKING of that request (R186) with its tag and the fields its owner's rule
names, as they arrive: numbers unchecked, and a named value as `Coded`, `none` where the code on the link
names no value, so that the owner's BAD-VALUE is part of the meaning. A line-side row carries what the row
reads. -/

namespace Sys2Proof

/-- The two half-width lanes (00_scope.md). -/
inductive Lane | a | b
deriving DecidableEq, Repr

/-- The three channels of a shade value. -/
inductive Colour | r | g | b
deriving DecidableEq, Repr

/-- Station modes (R50), in the rule's order. -/
inductive StationMode | off | monitor | auto | master
deriving DecidableEq, Repr

/-- The two encoder channels (R1). -/
inductive EncChannel | a | b
deriving DecidableEq, Repr

/-- The points of a running track (R40, R42). -/
inductive Point | emboss | shade | knife (l : Lane)
deriving DecidableEq, Repr

/-- Assignment modes of the batch table (R153). -/
inductive BatchMode | nearest | currentOnly
deriving DecidableEq, Repr

/-- What TRACK SEEK and ROLL SEEK name (R48, R144). -/
inductive SeekTarget | number (n : Nat) | oldest | newest
deriving DecidableEq, Repr

/-- The target of a spot (R109, R112). -/
inductive SpotTarget | next | number (n : Nat) | immediate
deriving DecidableEq, Repr

/-- A named value as it arrives on the link: `none` where the code names none of the rule's values. -/
abbrev Coded (α : Type) := Option α

/-- The context template of a SPOT route action (R176), unchecked. -/
structure SpotTemplate where
  slot : Nat
  k    : Nat
  tag  : Nat
deriving DecidableEq, Repr

/-- The lane parameter of a CUT route action (R176): a lane, or EVENT. -/
inductive CutTarget | lane (l : Lane) | event
deriving DecidableEq, Repr

/-- A route action with its parameter (R176). `spot none` is the mark NO TEMPLATE. -/
inductive RouteAction
  | spot (template : Option SpotTemplate)
  | cut (target : CutTarget)
  | holdLine
  | releaseEmboss
  | newBatch
deriving DecidableEq, Repr

/-- The fields of INPUT SET (R21): for each input whether it is INVERTED, and whether the count direction
is REVERSED. -/
structure InputFields where
  est : Coded Bool
  npf : Coded Bool
  prk : Coded Bool
  wra : Coded Bool
  wrb : Coded Bool
  scn : Coded Bool
  eix : Coded Bool
  spl : Coded Bool
  tda : Coded Bool
  tdb : Coded Bool
  reversed : Coded Bool
deriving DecidableEq, Repr

/-- The fields of REPEAT SET (R39), which are also the repeat parameters held. -/
structure RepeatParams where
  n  : Nat
  g  : Nat
  f  : Nat
  wMaster : Nat
  masterWidth : Nat
  stationWidth : Nat
  widthTol : Nat
  c  : Nat
deriving DecidableEq, Repr

/-- The path table of PATH SET (R40). -/
structure PathTable where
  d  : Vector Nat 8
  de : Nat
  ds : Nat
  dka : Nat
  dkb : Nat
  du : Nat
deriving DecidableEq, Repr

/-- The fields of STATION SET but for the station number (R52), which are also those held. -/
structure StationParams where
  d : Nat
  w : Nat
  tol : Nat
  alarmCount : Nat
  deadband : Nat
  gain : Nat
  maxStep : Nat
  rate : Nat
deriving DecidableEq, Repr

/-- The fields of EMBOSS SET (R74), which are also those held once each coded field is known. -/
structure EmbossFields where
  configured : Coded Bool
  ratio : Nat
  offset : Nat
  required : Coded Bool
  gain : Nat
  deadband : Nat
  maxStep : Nat
  engageWindow : Nat
  faultLimit : Nat
  tol : Nat
  nipTimeout : Nat
  autoReengage : Coded Bool
  rate : Nat
deriving DecidableEq, Repr

/-- The fields of SHADE SET (R95, R119). `keep` is queue mode KEEP, `overwrite` the overrun mode
OVERWRITE. -/
structure ShadeFields where
  scanList : List Nat
  nscan : Nat
  kreg : Nat
  offset : Nat
  keep : Coded Bool
  overwrite : Coded Bool
  whiteTarget : Nat
deriving DecidableEq, Repr

/-- The fields of GUARD SET but for the channel (R105). `all` is mode ALL. -/
structure GuardFields where
  low : Nat
  high : Nat
  all : Coded Bool
  slot : Nat
  spots : Coded Bool
deriving DecidableEq, Repr

/-- The six factors of a slot (R120): a gain and a black level for each channel. -/
structure Factors where
  gainR : Nat
  gainG : Nat
  gainB : Nat
  blackR : Nat
  blackG : Nat
  blackB : Nat
deriving DecidableEq, Repr

/-- The fields of LANE SET but for the lane (R127). -/
structure LaneFields where
  enabled : Coded Bool
  cutOffset : Nat
  target : Nat
  minLength : Nat
  defectLimit : Nat
  knifeLead : Nat
  maxDeferrals : Nat
  turretTimeout : Nat
deriving DecidableEq, Repr

/-- The fields of BATCH SET (R153); the prefix is its two characters. -/
structure BatchFields where
  char1 : Byte
  char2 : Byte
  tol : Nat
  wR : Nat
  wG : Nat
  wB : Nat
  rollsPerBatch : Nat
  mode : Coded BatchMode
deriving DecidableEq, Repr

/-- The fields of LABEL SET (R166). -/
structure LabelFields where
  enabledA : Coded Bool
  enabledB : Coded Bool
  templateA : Nat
  templateB : Nat
  timeout : Nat
  retries : Nat
deriving DecidableEq, Repr

/-- The commands. A request carries `tag`, the TAG of its frame. -/
inductive Instr
  | powerOn
  | jobOpen (tag : Byte)
  | jobStart (tag : Byte)
  | jobHold (tag : Byte)
  | jobResume (tag : Byte)
  | jobStop (tag : Byte)
  | jobEnd (tag : Byte)
  | recover (tag : Byte)
  | stopAck (tag : Byte) (code : Nat)
  | inputSet (tag : Byte) (fields : InputFields)
  | lineSet (tag : Byte) (crawl : Nat) (autoHold : Coded Bool)
  | repeatSet (tag : Byte) (fields : RepeatParams)
  | pathSet (tag : Byte) (fields : PathTable)
  | trackSeek (tag : Byte) (target : Coded SeekTarget)
  | trackRead (tag : Byte) (count : Nat)
  | stationSet (tag : Byte) (station : Nat) (fields : StationParams)
  | stationMode (tag : Byte) (station : Nat) (mode : Coded StationMode)
  | trim (tag : Byte) (channel : Nat) (count : Int)
  | embossSet (tag : Byte) (fields : EmbossFields)
  | embossEngage (tag : Byte)
  | embossRelease (tag : Byte)
  | shadeSet (tag : Byte) (fields : ShadeFields)
  | slotEnable (tag : Byte) (mask : Byte)
  | guardSet (tag : Byte) (channel : Coded Colour) (fields : GuardFields)
  | spot (tag : Byte) (slot : Nat) (k : Nat) (target : Coded SpotTarget) (spotTag : Nat)
  | spotTrigger (tag : Byte)
  | spotStop (tag : Byte)
  | spotRead (tag : Byte) (count : Nat)
  | calWrite (tag : Byte) (slot : Nat) (factors : Factors)
  | calRead (tag : Byte) (slot : Nat)
  | calibrate (tag : Byte) (mask : Byte)
  | laneSet (tag : Byte) (lane : Coded Lane) (fields : LaneFields)
  | cut (tag : Byte) (lane : Coded Lane)
  | rollSeek (tag : Byte) (target : Coded SeekTarget)
  | rollRead (tag : Byte) (count : Nat)
  | batchSet (tag : Byte) (fields : BatchFields)
  | batchList (tag : Byte)
  | batchClose (tag : Byte) (code : List Byte)
  | batchBreak (tag : Byte)
  | labelSet (tag : Byte) (fields : LabelFields)
  | labelReprint (tag : Byte) (roll : Nat)
  | labelDiscard (tag : Byte) (roll : Nat)
  | eventLevel (tag : Byte) (code : Nat) (level : Nat)
  | noticeFloor (tag : Byte) (floor : Nat)
  | noticeClear (tag : Byte) (code : Nat)
  | routeBind (tag : Byte) (slot : Nat) (code : Nat) (action : Coded RouteAction) (count : Nat)
  | routeUnbind (tag : Byte) (slot : Nat)
  | routeFire (tag : Byte) (slot : Nat)
  | identify (tag : Byte)
  | status (tag : Byte)
  | reset (tag : Byte)
  /-- The bytes that arrive on SV, without a gap above 1 ms between two of them (R184, R185). -/
  | frameReceived (bytes : List Byte)
  | interByteTimeout
  | requestTake
  | frameSent
  /-- A level change of one encoder channel (R1). -/
  | encoderCount (channel : EncChannel)
  | illegalTransition
  | speedSample
  /-- EST is read at this field level; the row's effect comes where that reads active (R16; log 4). -/
  | estActive (energised : Bool)
  | markLeadingEdge
  | markTrailingEdge
  | windowClose (repeatNo : Nat) (station : Nat)
  | masterCoast
  /-- SPL changes to this field level; the change to active is the edge (R44; log 4). -/
  | splEdge (energised : Bool)
  /-- The point crosses what WP has reached; `winder` is the field level of the winder-ready input of a
  knife point's lane, read if a cut is attempted (R41, R133, R135). -/
  | pointCrossing (point : Point) (winder : Bool)
  /-- EIX is read at this field level; an index is an active reading after an inactive one (R76). -/
  | embossIndex (energised : Bool)
  /-- The loss test of one new-web advance; EIX is read there first, at this field level (R82; log 4). -/
  | indexLost (energised : Bool := false)
  | npfClosed
  | npfOpen
  /-- NPF shows this field level as the close timer runs out (R81; log 4). -/
  | closeTimerExpiry (energised : Bool := false)
  | releaseWatchExpiry
  | trimPulse (channel : Nat)
  | frameSlotStart
  /-- The bytes of an answer on HB (R91, R191). -/
  | headAnswer (frame : List Byte)
  | frameSlotEnd
  | prkActive
  | prkInactive
  /-- `winder` is the field level of the lane's winder-ready input (R133, R135). -/
  | firePosition (lane : Lane) (winder : Bool)
  /-- TDA or TDB changes to this field level; the change to active is the edge (R139; log 4). -/
  | turretDone (lane : Lane) (energised : Bool)
  | turretTimeout (lane : Lane)
  /-- The bytes of an answer on LL that the printer sends as DONE (R169, R170, R191). -/
  | printerDone (frame : List Byte)
  /-- The bytes of an answer on LL that the printer sends as FAULT (R169, R170, R191). -/
  | printerFault (frame : List Byte)
  | labelTimeout
  | printSent
deriving DecidableEq, Repr

end Sys2Proof
end

