-- ==== Sys2Proof/Machine/State.lean ====
section
/-! DEFINITION. The state of the Balpret 7160 as plain data: one structure per unit of Figure 1
(spec/00_scope.md), the line-side inputs as last seen, and the queue of waiting commands; with the values
after reset that the chapters give. -/

namespace Sys2Proof.Machine

/-- No meaning of this model ends in a fault: the spec answers a request it cannot do with a status code,
and its stop causes put the LINE in FAULT, which is a line state (R16). So there is no constructor. -/
inductive Fault
deriving DecidableEq, Repr

/-- The reasons a command has no meaning. -/
inductive Refusal
  /-- The command has no meaning yet; raised by no arm of this model. Safe: a refused run proves nothing. -/
  | notModelled (mnemonic : String)
deriving DecidableEq, Repr

/-! ### Named values -/

/-- Line states (R7). -/
inductive LineState | idle | thread | run | hold | fault
deriving DecidableEq, Repr

/-- Stop causes (section 1.4). -/
inductive StopCause | estop | encoder | trackOverflow | winder | nipStuck
deriving DecidableEq, Repr

/-- Scanner states (R24). -/
inductive ScannerState | off | acquire | tracking
deriving DecidableEq, Repr

/-- Emboss states (R75). -/
inductive EmbossState | none | opened | syncing | engaged | releasing
deriving DecidableEq, Repr

/-- Outcome of an index (R77). -/
inductive IndexOutcome | valid | noReference
deriving DecidableEq, Repr

/-- Lane states (R126). -/
inductive LaneState | off | leader | winding | armed | indexing
deriving DecidableEq, Repr

/-- Dispositions of a finalised roll (R141), in the order of the roll record's codes (R191). -/
inductive Disposition | good | holdUnbatched | holdGap | holdUnshaded | rejectShort | rejectDefect | partialRoll
deriving DecidableEq, Repr

/-- Label states of a roll (chapter 9), in the order of the roll record's codes (R191). -/
inductive LabelState | none | queued | printing | done | failed | discarded | notQueued | off
deriving DecidableEq, Repr

/-- Spot outcomes (R116), in the rule's order. -/
inductive SpotStatus | ok | invalid | missed | abandoned
deriving DecidableEq, Repr

/-- Who asked for a spot (section 6.1). -/
inductive SpotSource | link | route (slot : Fin 4)
deriving DecidableEq, Repr

/-- Kinds of reply in the reply path: R186 lets only an ordinary one block a taking. -/
inductive ReplyKind | ordinary | queueFull | spotStop
deriving DecidableEq, Repr

/-- Reply status codes (R187). -/
inductive Status
  | ok | queueFull | badLength | unknown | badValue | wrongState | busy | full | notFound | gone
  | stillActive | invalidJob | notParked
deriving DecidableEq, Repr

/-- The 31 events (section 10.1), in the order of their codes. -/
inductive Event
  | lineState | stopCause | reverse | spliceSeen | spliceAtKnife | masterCoast | masterLost | repeatLength
  | markMissing | markLost | registerAlarm | trimSaturated | embossEngaged | embossOut | embossNip
  | scanOverrun | shadeGuard | headFailed | spotDone | spotOverrun | calDone | cutDone | cutDeferred
  | cutMissed | rollDone | batchOpened | batchClosed | labelDone | labelFailed | labelQueueFull | routeEnd
deriving DecidableEq, Repr

/-- Three values, one per channel. -/
structure Rgb where
  r : Nat
  g : Nat
  b : Nat
deriving DecidableEq, Repr

/-! ### Web Timebase -/

/-- The five stop cause latches (R16). -/
structure Latches where
  estop : Bool
  encoder : Bool
  trackOverflow : Bool
  winder : Bool
  nipStuck : Bool
deriving DecidableEq, Repr

/-- The INPUT SET settings (R21): `true` is INVERTED, and REVERSED for the count direction. -/
structure Polarity where
  est : Bool
  npf : Bool
  prk : Bool
  wra : Bool
  wrb : Bool
  scn : Bool
  eix : Bool
  spl : Bool
  tda : Bool
  tdb : Bool
  reversed : Bool
deriving DecidableEq, Repr

/-- The Web Timebase (chapter 1). `newWeb` is the model's own: the last encoder count was a new-web advance
(R3), so that what the chapters act on at new-web advances and at no other count may be taken now. -/
structure Wtb where
  line : LineState
  resumeArmed : Bool
  latched : Latches
  wp : Pos
  hw : Pos
  newWeb : Bool
  excursion : Bool
  netCount : Int
  s1 : Int
  s2 : Int
  s3 : Int
  s4 : Int
  v : Nat
  reverse : Bool
  crawl : Nat
  autoHold : Bool
  polarity : Polarity
deriving DecidableEq, Repr

/-! ### Track Unit -/

/-- A register entry's reading (R55, R56). -/
inductive RegReading | missing | error (e : Int) (inTol : Bool)
deriving DecidableEq, Repr

/-- A register entry of a repeat record; `station` counts from 0 for S1. -/
structure RegEntry where
  station : Fin 8
  reading : RegReading
deriving DecidableEq, Repr

/-- An emboss entry (R88). -/
inductive EmbossEntry | embossed (phase : Int) | unembossed
deriving DecidableEq, Repr

/-- A shade entry's reading (R107). -/
inductive ShadeReading | ok (v : Rgb) | excursion (v : Rgb) | invalid
deriving DecidableEq, Repr

/-- A shade entry of a repeat record. -/
structure ShadeEntry where
  slot : Fin 6
  reading : ShadeReading
deriving DecidableEq, Repr

/-- The length of a repeat (R30, R36). -/
structure SpanLength where
  counts : Int
  rejected : Bool
deriving DecidableEq, Repr

/-- The defect set (R35). -/
structure Defects where
  register : Bool
  emboss : Bool
  shadeA : Bool
  shadeB : Bool
  splice : Bool
deriving DecidableEq, Repr

/-- One station window of a mark block (R31): it runs from the origin + `target` - `half` to the origin +
`target` + `half`. -/
structure Window where
  station : Fin 8
  target : Int
  half : Nat
  captured : Bool
  closed : Bool
deriving DecidableEq, Repr

/-- The crossing positions fixed at creation (R41). -/
structure CrossingPositions where
  emboss : Pos
  shade : Pos
  knifeA : Pos
  knifeB : Pos
deriving DecidableEq, Repr

/-- A repeat record (section 2.5) with its mark block and crossing positions. -/
structure RepeatRecord where
  number : Nat
  origin : Pos
  length : Option SpanLength
  coasted : Bool
  acquired : Bool
  splice : Bool
  regs : List RegEntry
  emboss : Option EmbossEntry
  shade : Option (List ShadeEntry)
  defects : Defects
  markA : Option Nat
  markB : Option Nat
  at_ : CrossingPositions
  windows : List Window
deriving DecidableEq, Repr

/-- The point cursors (R41): the oldest record that has not crossed, or empty. -/
structure Cursors where
  emboss : Option Nat
  shade : Option Nat
  knifeA : Option Nat
  knifeB : Option Nat
deriving DecidableEq, Repr

/-- For each point with an offset, the offset that a change of N in HOLD has overtaken, if one has: a record
created while it is held is given N - 1 in its place (R41, R95, R127; log 15). -/
structure Overtaken where
  shade : Option Nat
  knifeA : Option Nat
  knifeB : Option Nat
deriving DecidableEq, Repr

/-- The Track Unit (chapter 2). `estimate` is the repeat length estimate in 1/16 count (R38). `departed` holds, oldest
first, what the scanner still reads of records that have left the track: those with a station window still open (R32),
and the newest of all while no record stands on the track (R26, R27, R30; log 35). -/
structure Tku where
  params : RepeatParams
  path : PathTable
  scanner : ScannerState
  scnPrev : Bool
  halfSeen : Option Pos
  track : List RepeatRecord
  departed : List RepeatRecord
  nextRepeat : Nat
  cursors : Cursors
  estimate : Int
  coastCount : Nat
  stray : Nat
  splices : List Pos
  readCursor : Nat
  overtaken : Overtaken
deriving DecidableEq, Repr

/-! ### Register Loop Unit and the trim channels -/

/-- One station: its mode, parameters and loop state (R50, R52, R54). -/
structure Station where
  mode : StationMode
  params : StationParams
  settle : Nat
  outRun : Nat
  alarmArmed : Bool
  missRun : Nat
deriving DecidableEq, Repr

/-- One trim channel (R65, R67, R70): owed trim, channel total, DIR level. -/
structure TrimChannel where
  owed : Int
  total : BitVec 32
  dir : Bool
deriving DecidableEq, Repr

/-- The Register Loop Unit with the row of nine trim channels (chapter 3). Channel c stands at c - 1. -/
structure Rlu where
  stations : Vector Station 8
  channels : Vector TrimChannel 9
deriving DecidableEq, Repr

/-! ### Emboss Phase Unit -/

/-- The emboss parameters held (R74). -/
structure EmbossParams where
  configured : Bool
  ratio : Nat
  offset : Nat
  required : Bool
  gain : Nat
  deadband : Nat
  maxStep : Nat
  engageWindow : Nat
  faultLimit : Nat
  tol : Nat
  nipTimeout : Nat
  autoReengage : Bool
  rate : Nat
deriving DecidableEq, Repr

/-- The last phase register (R77). -/
structure PhaseRegister where
  phase : Int
  number : Nat
deriving DecidableEq, Repr

/-- The Emboss Phase Unit (chapter 4). A running timer holds the timeout it was started with. -/
structure Epu where
  params : EmbossParams
  state : EmbossState
  engageCount : Nat
  settle : Nat
  npc : Bool
  closeTimer : Option Nat
  releaseWatch : Option Nat
  nipConfirmed : Bool
  reengage : Bool
  lastPhase : Option PhaseRegister
  lastOutcome : Option IndexOutcome
  lastIndex : Option Pos
  eixPrev : Bool
deriving DecidableEq, Repr

/-! ### Shade Measurement Unit -/

/-- The regular measurement, spot and calibration settings held (R95, R119). -/
structure ShadeParams where
  scanList : List (Fin 6)
  nscan : Nat
  kreg : Nat
  offset : Nat
  keep : Bool
  overwrite : Bool
  whiteTarget : Nat
deriving DecidableEq, Repr

/-- One guard window (R105). -/
structure Guard where
  low : Nat
  high : Nat
  all : Bool
  slot : Fin 6
  spots : Bool
deriving DecidableEq, Repr

/-- A regular scan in flight (R96). -/
structure Scan where
  record : Nat
  nscan : Nat
  kreg : Nat
  completed : Nat
  visited : Nat
deriving DecidableEq, Repr

/-- A spot context (section 6.1). `due` is set when its measurement may begin (R112). -/
structure SpotContext where
  slot : Fin 6
  k : Nat
  target : SpotTarget
  bound : Option Nat
  due : Bool
  tag : Nat
  source : SpotSource
deriving DecidableEq, Repr

/-- A spot result (R114, R116). -/
structure SpotResult where
  tag : Nat
  source : SpotSource
  slot : Fin 6
  number : Option Nat
  status : SpotStatus
  values : Option Rgb
  outside : Option Bool
deriving DecidableEq, Repr

/-- Who holds the head bus: a regular scan (its record and the list position measured), a spot, or the
calibration run (R92, R113). -/
inductive BusUser
  | scan (record : Nat) (position : Nat)
  | spot (ctx : SpotContext)
  | cal
deriving DecidableEq, Repr

/-- What the answer window of the present frame slot has brought (R91). -/
inductive Answer | good (v : Rgb) | bad
deriving DecidableEq, Repr

/-- The exchange of the present frame slot: the SAMPLE byte, the frame it is sent in on HB, and the answer so far
(R90, R91, R191). -/
structure Exchange where
  sample : Byte
  frame : List Byte
  answer : Option Answer
deriving DecidableEq, Repr

/-- The measurement that holds the head bus (R92). -/
structure Measurement where
  slot : Fin 6
  k : Nat
  taken : Nat
  sums : Rgb
  bad : Bool
  user : BusUser
  exchange : Option Exchange
deriving DecidableEq, Repr

/-- A SPOT STOP whose reply is held (R117). -/
structure HeldStop where
  tag : Byte
  removed : Nat
deriving DecidableEq, Repr

/-- A calibration run in progress (R122): the slots still to do, the next first. -/
structure CalRun where
  todo : List (Fin 6)
  requested : List (Fin 6)
  passed : List (Fin 6)
  white : Nat
deriving DecidableEq, Repr

/-- The Shade Measurement Unit (chapters 5 and 6). -/
structure Smu where
  enables : Vector Bool 6
  faults : Vector Nat 6
  seqBits : Vector Bool 6
  params : ShadeParams
  guardR : Guard
  guardG : Guard
  guardB : Guard
  pointer : Nat
  scan : Option Scan
  overrun : Option Scan
  bus : Option Measurement
  contexts : List SpotContext
  standing : Option SpotContext
  results : List SpotResult
  drops : Nat
  heldStops : List HeldStop
  active : Vector Factors 6
  staged : Vector (Option Factors) 6
  calRun : Option CalRun
deriving DecidableEq, Repr

/-! ### Roll and Knife Unit -/

/-- The parameters of one lane (R127). -/
structure LaneParams where
  enabled : Bool
  cutOffset : Nat
  target : Nat
  minLength : Nat
  defectLimit : Nat
  knifeLead : Nat
  maxDeferrals : Nat
  turretTimeout : Nat
deriving DecidableEq, Repr

/-- The roll flags (section 7.2). -/
structure RollFlags where
  splice : Bool
  trackGap : Bool
  cutLate : Bool
  overlength : Bool
  forced : Bool
deriving DecidableEq, Repr

/-- What a roll has counted (R130). -/
structure RollCounts where
  startRepeat : Option Nat
  endRepeat : Option Nat
  repeats : Nat
  defectRepeats : Nat
  register : Nat
  emboss : Nat
  shade : Nat
  splice : Nat
  coasted : Nat
  sums : Rgb
  samples : Nat
deriving DecidableEq, Repr

/-- An open roll (section 7.2, R128). `lastRef` is the reference of its last counted record, the opening
reference while it has none (R149, R151). -/
structure OpenRoll where
  number : Nat
  opening : Pos
  lastRef : Pos
  counts : RollCounts
  flags : RollFlags
  deferrals : Nat
deriving DecidableEq, Repr

/-- An armed cut (R131, R132, R136): `waiting` after a deferral, for its cut record's crossing. -/
structure ArmedCut where
  record : Nat
  reference : Pos
  fire : Pos
  waiting : Bool
deriving DecidableEq, Repr

/-- One lane controller. `pulses` is the model's own count of the fire pulses given on KFA or KFB. -/
structure LaneControl where
  params : LaneParams
  state : LaneState
  roll : Option OpenRoll
  cut : Option ArmedCut
  force : Bool
  turret : Option Nat
  pulses : Nat
deriving DecidableEq, Repr

/-- A batch code as printed: five characters (R152). -/
abbrev BatchCode := List Byte

/-- A roll record of the history (R140, R191). -/
structure RollRecord where
  number : Nat
  lane : Lane
  counts : RollCounts
  length : Int
  flags : RollFlags
  mean : Option Rgb
  code : Option BatchCode
  distance : Option Nat
  disposition : Disposition
  label : LabelState
deriving DecidableEq, Repr

/-- The Roll and Knife Unit (chapter 7). `readCursor` none is END (R144). -/
structure Rku where
  laneA : LaneControl
  laneB : LaneControl
  history : List RollRecord
  readCursor : Option Nat
  nextRoll : Nat
  wrapped : Bool
deriving DecidableEq, Repr

/-! ### Batch Table Unit -/

/-- An open batch (R152). -/
structure Batch where
  code : BatchCode
  sequence : Nat
  reference : Rgb
  rolls : Nat
  totalLength : BitVec 64
  lastRoll : Nat
  lastTake : BitVec 32
  seenA : Bool
  seenB : Bool
deriving DecidableEq, Repr

/-- The batch settings held (R153). -/
structure BatchParams where
  char1 : Byte
  char2 : Byte
  tol : Nat
  wR : Nat
  wG : Nat
  wB : Nat
  rollsPerBatch : Nat
  mode : BatchMode
deriving DecidableEq, Repr

/-- The Batch Table Unit (chapter 8). -/
structure Btu where
  params : BatchParams
  batches : List Batch
  sequence : Nat
  breakPending : Bool
  takes : BitVec 32
deriving DecidableEq, Repr

/-! ### Label Port -/

/-- A label job (R165). `linked` is the history link: present, or lost. -/
structure LabelJob where
  roll : Nat
  lane : Lane
  code : BatchCode
  length : Nat
  repeats : Nat
  defectRepeats : Nat
  splice : Bool
  distance : Option Nat
  template : Nat
  linked : Bool
deriving DecidableEq, Repr

/-- The job in flight with its attempt count (R168). -/
structure InFlight where
  job : LabelJob
  attempt : Nat
deriving DecidableEq, Repr

/-- The label settings held (R166). -/
structure LabelParams where
  enabledA : Bool
  enabledB : Bool
  templateA : Nat
  templateB : Nat
  timeout : Nat
  retries : Nat
deriving DecidableEq, Repr

/-- The Label Port (chapter 9). `printing` is the PRINT frame being sent on LL. -/
structure Lbp where
  params : LabelParams
  listA : List LabelJob
  listB : List LabelJob
  inFlight : Option InFlight
  printing : Option (List Byte)
  timer : Option Nat
  lastGranted : Lane
  exchange : Byte
  lastFailure : Byte
deriving DecidableEq, Repr

/-! ### Event Unit -/

/-- A bound route slot (R176). -/
structure Route where
  event : Event
  action : RouteAction
  remaining : Nat
deriving DecidableEq, Repr

/-- A notice (R180). -/
structure Notice where
  event : Event
  level : Nat
  wp : Pos
  p1 : Nat
  p2 : Nat
deriving DecidableEq, Repr

/-- The Event Unit (chapter 10). Event code c has its level at c - 1. -/
structure Evu where
  levels : Vector Nat 31
  routes : Vector (Option Route) 4
  notices : List Notice
  dropped : Nat
  floor : Nat
deriving DecidableEq, Repr

/-! ### Supervisor Link -/

/-- A request frame of the input queue (R185). -/
structure RequestFrame where
  tag : Byte
  type : Byte
  body : List Byte
deriving DecidableEq, Repr

/-- A reply of the reply path (R186, R187): its request's tag and TYPE, its status and the bytes after the
status byte. `resets` marks the OK of a RESET (R189). -/
structure Reply where
  kind : ReplyKind
  tag : Byte
  request : Byte
  status : Status
  fields : List Byte
  resets : Bool
deriving DecidableEq, Repr

/-- The frame being sent on SV (R187). -/
structure OutFrame where
  bytes : List Byte
  resets : Bool
deriving DecidableEq, Repr

/-- The Supervisor Link (chapter 11). `receiver` is none in HUNTING, else the bytes after the start byte.
`replied` tells that the first frame since power-on, a reply, has begun (R190). -/
structure Svl where
  receiver : Option (List Byte)
  input : List RequestFrame
  replies : List Reply
  sending : Option OutFrame
  replied : Bool
  discarded : Nat
deriving DecidableEq, Repr

/-! ### The whole machine -/

/-- The field levels of the line-side inputs as last seen: `true` is energised (R21). They are outside the
part, which cannot change them. -/
structure Pins where
  encA : Bool
  encB : Bool
  scn : Bool
  eix : Bool
  est : Bool
  npf : Bool
  prk : Bool
deriving DecidableEq, Repr

/-- The machine. -/
structure State where
  wtb : Wtb
  tku : Tku
  rlu : Rlu
  epu : Epu
  smu : Smu
  rku : Rku
  btu : Btu
  lbp : Lbp
  evu : Evu
  svl : Svl
  pins : Pins
  pending : List Instr
deriving DecidableEq, Repr

/-! ### The values after power-on -/

/-- The Web Timebase after power-on (R2, R3, R5, R6, R7, R13, R16, R21). -/
def Wtb.reset : Wtb where
  line := .idle
  resumeArmed := false
  latched := ⟨false, false, false, false, false⟩
  wp := 0
  hw := 0
  newWeb := false
  excursion := false
  netCount := 0
  s1 := 0
  s2 := 0
  s3 := 0
  s4 := 0
  v := 0
  reverse := false
  crawl := 4
  autoHold := true
  polarity := ⟨false, false, false, false, false, false, false, false, false, false, false⟩

/-- The Track Unit after power-on (R24, R38, R39, R40, R47); N is unset, and no change of it has been made. -/
def Tku.reset : Tku where
  params := ⟨0, 20, 3, 400, 160, 80, 20, 3⟩
  path := ⟨Vector.replicate 8 0, 0, 0, 0, 0, 0⟩
  scanner := .off
  scnPrev := false
  halfSeen := none
  track := []
  departed := []
  nextRepeat := 1
  cursors := ⟨none, none, none, none⟩
  estimate := 0
  coastCount := 0
  stray := 0
  splices := []
  readCursor := 1
  overtaken := ⟨none, none, none⟩

/-- One station after power-on (R50, R52, R54). -/
def Station.reset : Station where
  mode := .off
  params := ⟨0, 200, 50, 8, 4, 128, 50, 16⟩
  settle := 0
  outRun := 0
  alarmArmed := true
  missRun := 0

/-- The Register Loop Unit after power-on (R65, R70; the DIR level is log 21). -/
def Rlu.reset : Rlu where
  stations := Vector.replicate 8 Station.reset
  channels := Vector.replicate 9 ⟨0, 0, false⟩

/-- The Emboss Phase Unit after power-on (R74, R75, R77 to R84, R87). -/
def Epu.reset : Epu where
  params := ⟨false, 1, 0, false, 64, 4, 50, 100, 1000, 100, 500, false, 16⟩
  state := .none
  engageCount := 0
  settle := 0
  npc := false
  closeTimer := none
  releaseWatch := none
  nipConfirmed := false
  reengage := false
  lastPhase := none
  lastOutcome := none
  lastIndex := none
  eixPrev := false

/-- One guard window after power-on (R105). -/
def Guard.reset : Guard := ⟨0, 4095, true, 0, false⟩

/-- The calibration factors of a slot after power-on (R120). -/
def Factors.powerOn : Factors := ⟨32768, 32768, 32768, 0, 0, 0⟩

/-- The Shade Measurement Unit after power-on (R90, R93 to R97, R110, R116, R119, R120). -/
def Smu.reset : Smu where
  enables := Vector.replicate 6 true
  faults := Vector.replicate 6 0
  seqBits := Vector.replicate 6 false
  params := ⟨[0, 3, 1, 4, 2, 5], 2, 2, 0, false, false, 3000⟩
  guardR := Guard.reset
  guardG := Guard.reset
  guardB := Guard.reset
  pointer := 1
  scan := none
  overrun := none
  bus := none
  contexts := []
  standing := none
  results := []
  drops := 0
  heldStops := []
  active := Vector.replicate 6 Factors.powerOn
  staged := Vector.replicate 6 none
  calRun := none

/-- One lane after power-on (R126, R127, R137, R139). -/
def LaneControl.reset : LaneControl where
  params := ⟨false, 0, 400000, 200000, 100, 8000, 3, 3000⟩
  state := .off
  roll := none
  cut := none
  force := false
  turret := none
  pulses := 0

/-- The Roll and Knife Unit after power-on (R143, R144, R150). -/
def Rku.reset : Rku where
  laneA := LaneControl.reset
  laneB := LaneControl.reset
  history := []
  readCursor := none
  nextRoll := 1
  wrapped := false

/-- The Batch Table Unit after power-on (R152, R153): the prefix is AA. -/
def Btu.reset : Btu where
  params := ⟨0x41, 0x41, 24, 16, 16, 16, 200, .nearest⟩
  batches := []
  sequence := 1
  breakPending := false
  takes := 0

/-- The Label Port after power-on (R166, R168, R169, R173). -/
def Lbp.reset : Lbp where
  params := ⟨false, false, 0, 0, 500, 1⟩
  listA := []
  listB := []
  inFlight := none
  printing := none
  timer := none
  lastGranted := .b
  exchange := 0
  lastFailure := 0

/-- The default levels of the event catalogue (section 10.1), code 01 first. -/
def Evu.defaultLevels : Vector Nat 31 :=
  #v[2, 7, 3, 1, 2, 3, 5, 3, 1, 5, 5, 4, 2, 5, 6, 2, 3, 5, 2, 3, 2, 1, 3, 5, 2, 2, 2, 1, 5, 4, 2]

/-- The Event Unit after power-on (R175, R176, R180, R181). -/
def Evu.reset : Evu where
  levels := Evu.defaultLevels
  routes := Vector.replicate 4 none
  notices := []
  dropped := 0
  floor := 0

/-- The Supervisor Link after power-on (R184, R185, R189, R190). -/
def Svl.reset : Svl where
  receiver := none
  input := []
  replies := []
  sending := none
  replied := false
  discarded := 0

/-- The line-side inputs of the state after reset: none energised (log 3). -/
def Pins.reset : Pins := ⟨false, false, false, false, false, false, false⟩

/-- The machine right after reset (R190), with no command waiting. -/
def State.reset : State where
  wtb := Wtb.reset
  tku := Tku.reset
  rlu := Rlu.reset
  epu := Epu.reset
  smu := Smu.reset
  rku := Rku.reset
  btu := Btu.reset
  lbp := Lbp.reset
  evu := Evu.reset
  svl := Svl.reset
  pins := Pins.reset
  pending := []

/-! ### One update per unit: Laws/State.lean gives what each leaves alone -/

/-- Change the Web Timebase alone. -/
def State.onWtb (s : State) (f : Wtb → Wtb) : State := { s with wtb := f s.wtb }
/-- Change the Track Unit alone. -/
def State.onTku (s : State) (f : Tku → Tku) : State := { s with tku := f s.tku }
/-- Change the Register Loop Unit alone. -/
def State.onRlu (s : State) (f : Rlu → Rlu) : State := { s with rlu := f s.rlu }
/-- Change the Emboss Phase Unit alone. -/
def State.onEpu (s : State) (f : Epu → Epu) : State := { s with epu := f s.epu }
/-- Change the Shade Measurement Unit alone. -/
def State.onSmu (s : State) (f : Smu → Smu) : State := { s with smu := f s.smu }
/-- Change the Roll and Knife Unit alone. -/
def State.onRku (s : State) (f : Rku → Rku) : State := { s with rku := f s.rku }
/-- Change the Batch Table Unit alone. -/
def State.onBtu (s : State) (f : Btu → Btu) : State := { s with btu := f s.btu }
/-- Change the Label Port alone. -/
def State.onLbp (s : State) (f : Lbp → Lbp) : State := { s with lbp := f s.lbp }
/-- Change the Event Unit alone. -/
def State.onEvu (s : State) (f : Evu → Evu) : State := { s with evu := f s.evu }
/-- Change the Supervisor Link alone. -/
def State.onSvl (s : State) (f : Svl → Svl) : State := { s with svl := f s.svl }
/-- Record what the line-side inputs show. -/
def State.onPins (s : State) (f : Pins → Pins) : State := { s with pins := f s.pins }

end Sys2Proof.Machine
end

