-- ==== Sys2Proof/Machine/Ops.lean ====
section
/-! DEFINITION. Named operations over the state that several units share: position arithmetic, codes,
reading an input under its polarity, indexing, and the accessors of the tables. -/

namespace Sys2Proof

/-- Lane codes: 1 for A, 2 for B (R174, R191). -/
def Lane.code : Lane → Nat
  | .a => 1 | .b => 2

/-- The named-value codes of the station modes (R50, R191). -/
def StationMode.code : StationMode → Nat
  | .off => 0 | .monitor => 1 | .auto => 2 | .master => 3

end Sys2Proof

namespace Sys2Proof.Machine

/-! ### Arithmetic (00_scope.md, Numbers) -/

/-- The difference of two web positions, taken as a signed 32-bit value (R2). -/
def sdiff (p q : Pos) : Int := (p - q).toInt

/-- The position `n` counts beyond `p`, modulo 2^32 (R2). -/
def posPlus (p : Pos) (n : Int) : Pos := p + BitVec.ofInt 32 n

/-- `clamp(x, a, b)` of the spec's Numbers section. -/
def clampInt (x a b : Int) : Int := if x < a then a else if b < x then b else x

/-- A count that saturates at `limit`. -/
def satInc (limit n : Nat) : Nat := if n < limit then n + 1 else limit

/-- ceil(x / y) for positive y. -/
def ceilDiv (x y : Int) : Int := -((-x) / y)

/-- The magnitude law of R62, with the sign of the error: floor((|e| * gain + 128) / 256), clamped to the
max step. -/
def correctionOf (e : Int) (gain maxStep : Nat) : Int :=
  let mag := min ((e.natAbs * gain + 128) / 256) maxStep
  if e < 0 then -(mag : Int) else mag

/-! ### Codes -/

/-- The line state codes of section 1.3. -/
def LineState.code : LineState → Nat
  | .idle => 0 | .thread => 1 | .run => 2 | .hold => 3 | .fault => 4

/-- The stop cause codes of section 1.4. -/
def StopCause.code : StopCause → Nat
  | .estop => 1 | .encoder => 2 | .trackOverflow => 3 | .winder => 4 | .nipStuck => 5

/-- Reason codes of LINE-STATE (R7). -/
inductive Reason | request | crawl | reverse | speed | stopCause | route
deriving DecidableEq, Repr

/-- The reason codes of R7. -/
def Reason.code : Reason → Nat
  | .request => 1 | .crawl => 2 | .reverse => 3 | .speed => 4 | .stopCause => 5 | .route => 6

/-- The event codes of section 10.1, less one. -/
def Event.index : Event → Fin 31
  | .lineState => 0 | .stopCause => 1 | .reverse => 2 | .spliceSeen => 3 | .spliceAtKnife => 4
  | .masterCoast => 5 | .masterLost => 6 | .repeatLength => 7 | .markMissing => 8 | .markLost => 9
  | .registerAlarm => 10 | .trimSaturated => 11 | .embossEngaged => 12 | .embossOut => 13 | .embossNip => 14
  | .scanOverrun => 15 | .shadeGuard => 16 | .headFailed => 17 | .spotDone => 18 | .spotOverrun => 19
  | .calDone => 20 | .cutDone => 21 | .cutDeferred => 22 | .cutMissed => 23 | .rollDone => 24
  | .batchOpened => 25 | .batchClosed => 26 | .labelDone => 27 | .labelFailed => 28 | .labelQueueFull => 29
  | .routeEnd => 30

/-- The event codes of section 10.1, 1 to 31. -/
def Event.code (e : Event) : Nat := e.index.val + 1

/-- The 31 events in code order. -/
def Event.all : List Event :=
  [.lineState, .stopCause, .reverse, .spliceSeen, .spliceAtKnife, .masterCoast, .masterLost, .repeatLength,
   .markMissing, .markLost, .registerAlarm, .trimSaturated, .embossEngaged, .embossOut, .embossNip,
   .scanOverrun, .shadeGuard, .headFailed, .spotDone, .spotOverrun, .calDone, .cutDone, .cutDeferred,
   .cutMissed, .rollDone, .batchOpened, .batchClosed, .labelDone, .labelFailed, .labelQueueFull, .routeEnd]

/-- The event of a code, where it has one. -/
def Event.ofCode (n : Nat) : Option Event := Event.all.find? (fun e => e.code == n)

/-- The events no route may bind (R176). -/
def Event.unroutable : Event → Bool
  | .lineState | .stopCause | .routeEnd => true
  | _ => false

/-- The lane a slot stands over: 0 to 2 lane A, 3 to 5 lane B. -/
def laneOfSlot (slot : Nat) : Lane := if slot < 3 then .a else .b

/-- Station k of 1 to 8 as an index. -/
def stationIndex (k : Nat) : Option (Fin 8) := if h : 1 ≤ k ∧ k ≤ 8 then some ⟨k - 1, by omega⟩ else none

/-- Trim channel c of 1 to 9 as an index. -/
def channelIndex (c : Nat) : Option (Fin 9) := if h : 1 ≤ c ∧ c ≤ 9 then some ⟨c - 1, by omega⟩ else none

/-- Shade slot 0 to 5 as an index. -/
def slotIndex (n : Nat) : Option (Fin 6) := if h : n < 6 then some ⟨n, h⟩ else none

/-- Route slot 0 to 3 as an index. -/
def routeIndex (n : Nat) : Option (Fin 4) := if h : n < 4 then some ⟨n, h⟩ else none

/-- The shade slots a mask byte names, ascending; its two top bits name no slot (log 19). -/
def slotsOfMask (mask : Byte) : List (Fin 6) := (List.finRange 6).filter (fun i => mask.getLsbD i.val)

/-! ### Line-side inputs under their polarity (R21) -/

/-- An input's reading: NORMAL is active when energised, INVERTED when not. -/
def reading (energised inverted : Bool) : Bool := energised != inverted

/-- EST reads active. -/
def State.estActive (s : State) : Bool := reading s.pins.est s.wtb.polarity.est
/-- NPF shows closed. -/
def State.nipClosed (s : State) : Bool := reading s.pins.npf s.wtb.polarity.npf
/-- PRK reads active: the heads are parked. -/
def State.parked (s : State) : Bool := reading s.pins.prk s.wtb.polarity.prk
/-- SCN reads active. -/
def State.scnActive (s : State) : Bool := reading s.pins.scn s.wtb.polarity.scn
/-- EIX reads active. -/
def State.eixActive (s : State) : Bool := reading s.pins.eix s.wtb.polarity.eix
/-- The winder-ready input of a lane, at this field level, reads ready. -/
def State.winderReady (s : State) (l : Lane) (energised : Bool) : Bool :=
  reading energised (match l with | .a => s.wtb.polarity.wra | .b => s.wtb.polarity.wrb)

/-! ### The line -/

/-- A track runs: the line is in RUN or HOLD (R46). -/
def State.running (s : State) : Bool := s.wtb.line == .run || s.wtb.line == .hold

/-- The present count is a new-web advance on which a running track acts (R3, R46). -/
def State.advancing (s : State) : Bool := s.wtb.newWeb && s.running

/-- The latch of a stop cause (R16). -/
def Latches.get (l : Latches) : StopCause → Bool
  | .estop => l.estop | .encoder => l.encoder | .trackOverflow => l.trackOverflow
  | .winder => l.winder | .nipStuck => l.nipStuck

/-- Write the latch of a stop cause. -/
def Latches.put (l : Latches) (c : StopCause) (b : Bool) : Latches :=
  match c with
  | .estop => { l with estop := b }
  | .encoder => { l with encoder := b }
  | .trackOverflow => { l with trackOverflow := b }
  | .winder => { l with winder := b }
  | .nipStuck => { l with nipStuck := b }

/-- The stop causes in code order. -/
def StopCause.all : List StopCause := [.estop, .encoder, .trackOverflow, .winder, .nipStuck]

/-- Some stop cause is latched. -/
def Latches.any (l : Latches) : Bool := StopCause.all.any l.get

/-- Lim, floor(N * G / 1024) (R36). -/
def limOf (n g : Nat) : Nat := n * g / 1024

/-! ### The track -/

/-- The record of a repeat number on the track. -/
def Tku.record? (t : Tku) (n : Nat) : Option RepeatRecord := t.track.find? (fun r => r.number == n)

/-- Change the record of a repeat number; a number not on the track changes nothing (R34). -/
def Tku.onRecord (t : Tku) (n : Nat) (f : RepeatRecord → RepeatRecord) : Tku :=
  { t with track := t.track.map (fun r => if r.number = n then f r else r) }

/-- The records the scanner works with, oldest first: those that have left with something still to come, then those on
the track (R26, R31, R32). -/
def Tku.blocks (t : Tku) : List RepeatRecord := t.departed ++ t.track

/-- The newest record of the track, also where it has left already (R26, R30). -/
def Tku.newest (t : Tku) : Option RepeatRecord := t.blocks.getLast?

/-- A mark block with a window not yet closed (R32). -/
def RepeatRecord.blockOpen (r : RepeatRecord) : Bool := r.windows.any (fun w => !w.closed)

/-- A record that has left is kept while its mark block is open (R32), and while it is the newest and the track is
empty (R26). -/
def Tku.stillRead (t : Tku) (r : RepeatRecord) : Bool :=
  r.blockOpen || (t.track.isEmpty && t.departed.getLast? == some r)

/-- Records that have left and have nothing still to come are forgotten. -/
def Tku.forget (t : Tku) : Tku := { t with departed := t.departed.filter t.stillRead }

/-- The number of the oldest record above `n`, where a cursor moves when `n` crosses (R41). -/
def Tku.after (t : Tku) (n : Nat) : Option Nat := (t.track.find? (fun r => n < r.number)).map (·.number)

/-- The cursor of a point. -/
def Cursors.get (c : Cursors) : Point → Option Nat
  | .emboss => c.emboss | .shade => c.shade | .knife .a => c.knifeA | .knife .b => c.knifeB

/-- A record has left the track: a cursor that stood on it moves to `next` (R41). -/
def Cursors.leave (c : Cursors) (n : Nat) (next : Option Nat) : Cursors :=
  let move : Option Nat → Option Nat := fun o => if o = some n then next else o
  ⟨move c.emboss, move c.shade, move c.knifeA, move c.knifeB⟩

/-- Write the cursor of a point. -/
def Cursors.put (c : Cursors) (p : Point) (n : Option Nat) : Cursors :=
  match p with
  | .emboss => { c with emboss := n }
  | .shade => { c with shade := n }
  | .knife .a => { c with knifeA := n }
  | .knife .b => { c with knifeB := n }

/-- A record's crossing position at a point (R41). -/
def CrossingPositions.get (c : CrossingPositions) : Point → Pos
  | .emboss => c.emboss | .shade => c.shade | .knife .a => c.knifeA | .knife .b => c.knifeB

/-- The repeat in counts: floor((estimate + 8) / 16) (R26, R38). -/
def Tku.repeatCounts (t : Tku) : Int := (t.estimate + 8) / 16

/-- The repeat number after `n`; after the last 32-bit number a free value (log 16). -/
def nextRepeatAfter (n : Nat) : Nat := if n < 4294967295 then n + 1 else Config.repeatAfterLast.toNat

/-! ### Stations, lanes -/

/-- Change one station. -/
def Rlu.onStation (r : Rlu) (k : Fin 8) (f : Station → Station) : Rlu :=
  { r with stations := r.stations.set k (f r.stations[k]) }

/-- Change one trim channel. -/
def Rlu.onChannel (r : Rlu) (c : Fin 9) (f : TrimChannel → TrimChannel) : Rlu :=
  { r with channels := r.channels.set c (f r.channels[c]) }

/-- The trim channel of a station. -/
def channelOfStation (k : Fin 8) : Fin 9 := ⟨k.val, by omega⟩

/-- The trim channel of the emboss loop, channel 9. -/
def embossChannel : Fin 9 := 8

/-- The station is active: MONITOR or AUTO (R10, R50). -/
def Station.isActive (st : Station) : Bool := st.mode == .monitor || st.mode == .auto

/-- The controller of a lane. -/
def Rku.lane (r : Rku) : Lane → LaneControl
  | .a => r.laneA | .b => r.laneB

/-- Change the controller of one lane. -/
def Rku.onLane (r : Rku) (l : Lane) (f : LaneControl → LaneControl) : Rku :=
  match l with
  | .a => { r with laneA := f r.laneA }
  | .b => { r with laneB := f r.laneB }

/-- Change the controller of one lane in the state. -/
def State.onLane (s : State) (l : Lane) (f : LaneControl → LaneControl) : State :=
  s.onRku (fun r => r.onLane l f)

/-- The controller of a lane in the state. -/
def State.lane (s : State) (l : Lane) : LaneControl := s.rku.lane l

/-- The points enabled (R40): emboss where configured, shade always, a knife where its lane is enabled. -/
def State.pointEnabled (s : State) : Point → Bool
  | .emboss => s.epu.params.configured
  | .shade => true
  | .knife l => (s.lane l).params.enabled

/-- The path distance of a point (R41). -/
def State.pointDistance (s : State) : Point → Nat
  | .emboss => s.tku.path.de
  | .shade => s.tku.path.ds
  | .knife .a => s.tku.path.dka
  | .knife .b => s.tku.path.dkb

/-- The offset a point's parameters hold (R41). -/
def State.heldOffset (s : State) : Point → Nat
  | .emboss => 0
  | .shade => s.smu.params.offset
  | .knife l => (s.lane l).params.cutOffset

/-- The offset of a point that a change of N in HOLD has overtaken, if one has. -/
def Overtaken.get (o : Overtaken) : Point → Option Nat
  | .emboss => none | .shade => o.shade | .knife .a => o.knifeA | .knife .b => o.knifeB

/-- An offset that a change of N in HOLD has overtaken counts as N - 1 (R95, R127). -/
def offsetWithin (n offset : Nat) (overtaken : Option Nat) : Nat :=
  if overtaken = some offset then min offset (n - 1) else offset

/-- The offset op of a point (R41). -/
def State.pointOffset (s : State) (p : Point) : Nat :=
  offsetWithin s.tku.params.n (s.heldOffset p) (s.tku.overtaken.get p)

/-- The overtaken offset of a point after a change of N: one at or above the new N is overtaken by a change in HOLD,
and stays so in another line state if it was (R95, R127; log 15). -/
def overtakenBy (n offset : Nat) (hold : Bool) (before : Option Nat) : Option Nat :=
  if n ≤ offset ∧ (hold = true ∨ before = some offset) then some offset else none

/-- The overtaken offsets after a change of N. -/
def State.overtaken (s : State) (n : Nat) : Overtaken :=
  let now : Point → Option Nat := fun p =>
    overtakenBy n (s.heldOffset p) (s.wtb.line == .hold) (s.tku.overtaken.get p)
  ⟨now .shade, now (.knife .a), now (.knife .b)⟩

/-- The crossing position of a record with this origin at a point: On + Dp + op, modulo 2^32 (R41). -/
def State.crossingPosition (s : State) (origin : Pos) (p : Point) : Pos :=
  posPlus origin (s.pointDistance p + s.pointOffset p)

end Sys2Proof.Machine
end

