-- ==== Sys2Proof/Decode.lean ====
section
/-! DEFINITION. Decoding. spec/opcode_table.json gives no row any bits, so no word spells a command
(`decodeTableWord`). What the part does decode are the request frames of the Supervisor Link: TYPE and BODY by
the catalogue of R187 and the layout rules of R191 (log 11), and the encoder beside it. -/

namespace Sys2Proof

open Machine

/-- The command a table word spells: the table gives no row any bits, so none (log 32). -/
def decodeTableWord (_nbits _w : Nat) : Option Instr := none

/-! ### Fields of a request body (R191) -/

/-- A field of two named values, coded 0 and 1 in the order of its rule. -/
def named2 {α : Type} (first second : α) (code : Nat) : Coded α :=
  match code with
  | 0 => some first
  | 1 => some second
  | _ => none

/-- A field of three named values. -/
def named3 {α : Type} (first second third : α) (code : Nat) : Coded α :=
  match code with
  | 0 => some first
  | 1 => some second
  | 2 => some third
  | _ => none

/-- A flag whose first named value is the set one: ENABLED or DISABLED, YES or NO, KEEP or EMPTY. -/
def firstIsSet (code : Nat) : Coded Bool := named2 true false code

/-- A flag whose second named value is the set one: NORMAL or INVERTED, SINGLE or ALL, PRESERVE or OVERWRITE. -/
def secondIsSet (code : Nat) : Coded Bool := named2 false true code

/-- A lane: 1 for A and 2 for B. -/
def laneOf (code : Nat) : Coded Lane :=
  match code with
  | 1 => some .a
  | 2 => some .b
  | _ => none

/-- A station mode (R50). -/
def modeOf (code : Nat) : Coded StationMode :=
  match code with
  | 0 => some .off
  | 1 => some .monitor
  | 2 => some .auto
  | 3 => some .master
  | _ => none

/-- The target of a seek: NUMBER, OLDEST or NEWEST (R48, R144). The number bytes beside OLDEST and NEWEST are not looked
at (DESIGN CHOICE, log 51). -/
def seekOf (kind number : Nat) : Coded SeekTarget := named3 (.number number) .oldest .newest kind

/-- The target of a spot: NEXT 0, a repeat number 1 or IMMEDIATE 2, in the order of section 6.1 (R191; log 11). The
number bytes beside NEXT and IMMEDIATE are not looked at (DESIGN CHOICE, log 51). -/
def targetOfSpot (kind number : Nat) : Coded SpotTarget := named3 .next (.number number) .immediate kind

/-- A spot template with its presence byte; 0 is NO TEMPLATE (R176), whose three bytes are not looked at (DESIGN
CHOICE, log 51). -/
def templateOf (present slot k tag : Nat) : Coded RouteAction :=
  match present with
  | 0 => some (.spot none)
  | 1 => some (.spot (some ⟨slot, k, tag⟩))
  | _ => none

/-- The lane of a CUT action: A, B or EVENT (R176). -/
def cutOf (code : Nat) : Coded RouteAction :=
  match code with
  | 0 => some (.cut .event)
  | 1 => some (.cut (.lane .a))
  | 2 => some (.cut (.lane .b))
  | _ => none

/-- A route action with its parameter: the action, the parameter's presence byte and its four bytes (R176;
log 11). The bytes of the room that an absent or shorter parameter leaves are not looked at (DESIGN CHOICE, log 51). -/
def actionOf (code present p0 p1 p2 p3 : Nat) : Coded RouteAction :=
  match code, present with
  | 0, 1 => templateOf p0 p1 p2 p3
  | 1, 1 => cutOf p0
  | 2, 0 => some .holdLine
  | 3, 0 => some .releaseEmboss
  | 4, 0 => some .newBatch
  | _, _ => none

/-- A list of a request: its count and as many of its items; a count above the room names none. The unused items are
not looked at (DESIGN CHOICE, log 51). -/
def listOf (count room : Nat) (items : List Byte) : List Nat :=
  if count ≤ room then (items.take count).map BitVec.toNat else []

/-! ### The catalogue (R187) and the body lengths (R191) -/

/-- The body length a TYPE takes; none where the TYPE is not in the catalogue. -/
def bodyLength (type : Byte) : Option Nat :=
  match type.toNat with
  | 0x01 | 0x02 | 0x03 | 0x04 | 0x05 | 0x06 | 0x07 => some 0
  | 0x08 => some 1 | 0x09 => some 11 | 0x0A => some 2
  | 0x10 => some 13 | 0x11 => some 52 | 0x12 => some 5 | 0x13 => some 1
  | 0x18 => some 15 | 0x19 => some 2 | 0x1A => some 3
  | 0x20 => some 21 | 0x21 => some 0 | 0x22 => some 0
  | 0x28 => some 15 | 0x29 => some 1 | 0x2A => some 8 | 0x2B => some 8 | 0x2C => some 0 | 0x2D => some 0
  | 0x2E => some 1 | 0x2F => some 13 | 0x30 => some 1 | 0x31 => some 1
  | 0x38 => some 19 | 0x39 => some 1 | 0x3A => some 3 | 0x3B => some 1
  | 0x40 => some 10 | 0x41 => some 0 | 0x42 => some 5 | 0x43 => some 0
  | 0x48 => some 7 | 0x49 => some 2 | 0x4A => some 2
  | 0x50 => some 2 | 0x51 => some 1 | 0x52 => some 1 | 0x53 => some 9 | 0x54 => some 1 | 0x55 => some 1
  | 0x60 => some 0 | 0x61 => some 0 | 0x62 => some 0
  | _ => none

/-- The fields of INPUT SET (R21), in the order in which the rule lists the inputs. -/
def inputFieldsOf (b : List Byte) : InputFields where
  est := secondIsSet (field b 0 1)
  npf := secondIsSet (field b 1 1)
  prk := secondIsSet (field b 2 1)
  wra := secondIsSet (field b 3 1)
  wrb := secondIsSet (field b 4 1)
  scn := secondIsSet (field b 5 1)
  eix := secondIsSet (field b 6 1)
  spl := secondIsSet (field b 7 1)
  tda := secondIsSet (field b 8 1)
  tdb := secondIsSet (field b 9 1)
  reversed := secondIsSet (field b 10 1)

/-- The fields of REPEAT SET (R39). -/
def repeatParamsOf (b : List Byte) : RepeatParams where
  n := field b 0 2
  g := field b 2 1
  f := field b 3 1
  wMaster := field b 4 2
  masterWidth := field b 6 2
  stationWidth := field b 8 2
  widthTol := field b 10 2
  c := field b 12 1

/-- The fields of PATH SET (R40). -/
def pathTableOf (b : List Byte) : PathTable where
  d := #v[field b 0 4, field b 4 4, field b 8 4, field b 12 4, field b 16 4, field b 20 4, field b 24 4,
    field b 28 4]
  de := field b 32 4
  ds := field b 36 4
  dka := field b 40 4
  dkb := field b 44 4
  du := field b 48 4

/-- The fields of STATION SET after the station number (R52). -/
def stationParamsOf (b : List Byte) : StationParams where
  d := field b 1 2
  w := field b 3 2
  tol := field b 5 2
  alarmCount := field b 7 1
  deadband := field b 8 2
  gain := field b 10 2
  maxStep := field b 12 2
  rate := field b 14 1

/-- The fields of EMBOSS SET (R74). -/
def embossFieldsOf (b : List Byte) : EmbossFields where
  configured := firstIsSet (field b 0 1)
  ratio := field b 1 1
  offset := field b 2 2
  required := firstIsSet (field b 4 1)
  gain := field b 5 2
  deadband := field b 7 2
  maxStep := field b 9 2
  engageWindow := field b 11 2
  faultLimit := field b 13 2
  tol := field b 15 2
  nipTimeout := field b 17 2
  autoReengage := firstIsSet (field b 19 1)
  rate := field b 20 1

/-- The fields of SHADE SET (R95, R119). -/
def shadeFieldsOf (b : List Byte) : ShadeFields where
  scanList := listOf (field b 0 1) 6 ((b.drop 1).take 6)
  nscan := field b 7 1
  kreg := field b 8 1
  offset := field b 9 2
  keep := firstIsSet (field b 11 1)
  overwrite := secondIsSet (field b 12 1)
  whiteTarget := field b 13 2

/-- The fields of GUARD SET after the channel (R105). -/
def guardFieldsOf (b : List Byte) : GuardFields where
  low := field b 1 2
  high := field b 3 2
  all := secondIsSet (field b 5 1)
  slot := field b 6 1
  spots := firstIsSet (field b 7 1)

/-- The factors of CAL WRITE after the slot (R120): three gains, then three blacks. -/
def factorsOf (b : List Byte) : Factors where
  gainR := field b 1 2
  gainG := field b 3 2
  gainB := field b 5 2
  blackR := field b 7 2
  blackG := field b 9 2
  blackB := field b 11 2

/-- The fields of LANE SET after the lane (R127). -/
def laneFieldsOf (b : List Byte) : LaneFields where
  enabled := firstIsSet (field b 1 1)
  cutOffset := field b 2 2
  target := field b 4 4
  minLength := field b 8 4
  defectLimit := field b 12 2
  knifeLead := field b 14 2
  maxDeferrals := field b 16 1
  turretTimeout := field b 17 2

/-- The fields of BATCH SET (R153). -/
def batchFieldsOf (b : List Byte) : BatchFields where
  char1 := b.getD 0 0
  char2 := b.getD 1 0
  tol := field b 2 2
  wR := field b 4 1
  wG := field b 5 1
  wB := field b 6 1
  rollsPerBatch := field b 7 2
  mode := named2 .nearest .currentOnly (field b 9 1)

/-- The fields of LABEL SET (R166). -/
def labelFieldsOf (b : List Byte) : LabelFields where
  enabledA := firstIsSet (field b 0 1)
  enabledB := firstIsSet (field b 1 1)
  templateA := field b 2 1
  templateB := field b 3 1
  timeout := field b 4 2
  retries := field b 6 1

/-- The request a TYPE of the catalogue and a BODY of its length spell. -/
def requestOf (tag type : Byte) (b : List Byte) : Option Instr :=
  match type.toNat with
  | 0x01 => some (.jobOpen tag)
  | 0x02 => some (.jobStart tag)
  | 0x03 => some (.jobHold tag)
  | 0x04 => some (.jobResume tag)
  | 0x05 => some (.jobStop tag)
  | 0x06 => some (.jobEnd tag)
  | 0x07 => some (.recover tag)
  | 0x08 => some (.stopAck tag (field b 0 1))
  | 0x09 => some (.inputSet tag (inputFieldsOf b))
  | 0x0A => some (.lineSet tag (field b 0 1) (firstIsSet (field b 1 1)))
  | 0x10 => some (.repeatSet tag (repeatParamsOf b))
  | 0x11 => some (.pathSet tag (pathTableOf b))
  | 0x12 => some (.trackSeek tag (seekOf (field b 0 1) (field b 1 4)))
  | 0x13 => some (.trackRead tag (field b 0 1))
  | 0x18 => some (.stationSet tag (field b 0 1) (stationParamsOf b))
  | 0x19 => some (.stationMode tag (field b 0 1) (modeOf (field b 1 1)))
  | 0x1A => some (.trim tag (field b 0 1) (sfield2 b 1))
  | 0x20 => some (.embossSet tag (embossFieldsOf b))
  | 0x21 => some (.embossEngage tag)
  | 0x22 => some (.embossRelease tag)
  | 0x28 => some (.shadeSet tag (shadeFieldsOf b))
  | 0x29 => some (.slotEnable tag (b.getD 0 0))
  | 0x2A => some (.guardSet tag (named3 .r .g .b (field b 0 1)) (guardFieldsOf b))
  | 0x2B => some (.spot tag (field b 0 1) (field b 1 1) (targetOfSpot (field b 2 1) (field b 3 4)) (field b 7 1))
  | 0x2C => some (.spotTrigger tag)
  | 0x2D => some (.spotStop tag)
  | 0x2E => some (.spotRead tag (field b 0 1))
  | 0x2F => some (.calWrite tag (field b 0 1) (factorsOf b))
  | 0x30 => some (.calRead tag (field b 0 1))
  | 0x31 => some (.calibrate tag (b.getD 0 0))
  | 0x38 => some (.laneSet tag (laneOf (field b 0 1)) (laneFieldsOf b))
  | 0x39 => some (.cut tag (laneOf (field b 0 1)))
  | 0x3A => some (.rollSeek tag (seekOf (field b 0 1) (field b 1 2)))
  | 0x3B => some (.rollRead tag (field b 0 1))
  | 0x40 => some (.batchSet tag (batchFieldsOf b))
  | 0x41 => some (.batchList tag)
  | 0x42 => some (.batchClose tag b)
  | 0x43 => some (.batchBreak tag)
  | 0x48 => some (.labelSet tag (labelFieldsOf b))
  | 0x49 => some (.labelReprint tag (field b 0 2))
  | 0x4A => some (.labelDiscard tag (field b 0 2))
  | 0x50 => some (.eventLevel tag (field b 0 1) (field b 1 1))
  | 0x51 => some (.noticeFloor tag (field b 0 1))
  | 0x52 => some (.noticeClear tag (field b 0 1))
  | 0x53 => some (.routeBind tag (field b 0 1) (field b 1 1)
      (actionOf (field b 2 1) (field b 3 1) (field b 4 1) (field b 5 1) (field b 6 1) (field b 7 1))
      (field b 8 1))
  | 0x54 => some (.routeUnbind tag (field b 0 1))
  | 0x55 => some (.routeFire tag (field b 0 1))
  | 0x60 => some (.identify tag)
  | 0x61 => some (.status tag)
  | 0x62 => some (.reset tag)
  | _ => none

/-- What the request taker finds in a frame (R186). -/
inductive Decoded | unknown | badLength | request (i : Instr)
deriving DecidableEq, Repr

/-- A request frame judged (R186): UNKNOWN, BAD-LENGTH, or the request delivered to its owner. -/
def decodeRequest (tag type : Byte) (body : List Byte) : Decoded :=
  match bodyLength type, requestOf tag type body with
  | some n, some i => if body.length = n then .request i else .badLength
  | _, _ => .unknown

/-! ### The encoder: a request as its frame's tag, TYPE and BODY -/

/-- A flag of two named values; 0xFF names neither. -/
def encodeFirst : Coded Bool → List Byte
  | some true => [0x00#8]
  | some false => [0x01#8]
  | none => [0xFF#8]

/-- A flag whose second named value is the set one; 0xFF names neither. -/
def encodeSecond : Coded Bool → List Byte
  | some false => [0x00#8]
  | some true => [0x01#8]
  | none => [0xFF#8]

/-- A lane; 0xFF names none. -/
def encodeLane : Coded Lane → List Byte
  | some l => le1 l.code
  | none => [0xFF#8]

/-- A seek target, its number at `size` bytes; kind 0xFF names none. -/
def encodeSeek (size : Nat → List Byte) : Coded SeekTarget → List Byte
  | some (.number n) => [0x00#8] ++ size n
  | some .oldest => [0x01#8] ++ size 0
  | some .newest => [0x02#8] ++ size 0
  | none => [0xFF#8] ++ size 0

/-- A spot target; kind 0xFF names none. -/
def encodeTarget : Coded SpotTarget → List Byte
  | some .next => [0x00#8] ++ le4 0
  | some (.number n) => [0x01#8] ++ le4 n
  | some .immediate => [0x02#8] ++ le4 0
  | none => [0xFF#8] ++ le4 0

/-- A route action with its parameter; action 0xFF names none. -/
def encodeAction : Coded RouteAction → List Byte
  | some (.spot (some t)) => [0x00#8, 0x01#8, 0x01#8] ++ le1 t.slot ++ le1 t.k ++ le1 t.tag
  | some (.spot none) => [0x00#8, 0x01#8, 0x00#8, 0x00#8, 0x00#8, 0x00#8]
  | some (.cut .event) => [0x01#8, 0x01#8, 0x00#8, 0x00#8, 0x00#8, 0x00#8]
  | some (.cut (.lane l)) => [0x01#8, 0x01#8] ++ le1 l.code ++ [0x00#8, 0x00#8, 0x00#8]
  | some .holdLine => [0x02#8, 0x00#8, 0x00#8, 0x00#8, 0x00#8, 0x00#8]
  | some .releaseEmboss => [0x03#8, 0x00#8, 0x00#8, 0x00#8, 0x00#8, 0x00#8]
  | some .newBatch => [0x04#8, 0x00#8, 0x00#8, 0x00#8, 0x00#8, 0x00#8]
  | none => [0xFF#8, 0x00#8, 0x00#8, 0x00#8, 0x00#8, 0x00#8]

/-- A station mode; 0xFF names none. -/
def encodeMode : Coded StationMode → List Byte
  | some m => le1 m.code
  | none => [0xFF#8]

/-- A channel; 0xFF names none. -/
def encodeColour : Coded Colour → List Byte
  | some .r => [0x00#8]
  | some .g => [0x01#8]
  | some .b => [0x02#8]
  | none => [0xFF#8]

/-- A batch mode; 0xFF names none. -/
def encodeBatchMode : Coded BatchMode → List Byte
  | some .nearest => [0x00#8]
  | some .currentOnly => [0x01#8]
  | none => [0xFF#8]

/-- The TYPE and BODY of a request (R187, R191); none for a command that is no request. -/
def encodeRequest : Instr → Option (Byte × List Byte)
  | .jobOpen _ => some (0x01#8, [])
  | .jobStart _ => some (0x02#8, [])
  | .jobHold _ => some (0x03#8, [])
  | .jobResume _ => some (0x04#8, [])
  | .jobStop _ => some (0x05#8, [])
  | .jobEnd _ => some (0x06#8, [])
  | .recover _ => some (0x07#8, [])
  | .stopAck _ c => some (0x08#8, le1 c)
  | .inputSet _ f => some (0x09#8, encodeSecond f.est ++ encodeSecond f.npf ++ encodeSecond f.prk ++
      encodeSecond f.wra ++ encodeSecond f.wrb ++ encodeSecond f.scn ++ encodeSecond f.eix ++
      encodeSecond f.spl ++ encodeSecond f.tda ++ encodeSecond f.tdb ++ encodeSecond f.reversed)
  | .lineSet _ c h => some (0x0A#8, le1 c ++ encodeFirst h)
  | .repeatSet _ f => some (0x10#8, le2 f.n ++ le1 f.g ++ le1 f.f ++ le2 f.wMaster ++ le2 f.masterWidth ++
      le2 f.stationWidth ++ le2 f.widthTol ++ le1 f.c)
  | .pathSet _ p => some (0x11#8, p.d.toList.flatMap le4 ++ le4 p.de ++ le4 p.ds ++ le4 p.dka ++ le4 p.dkb ++
      le4 p.du)
  | .trackSeek _ t => some (0x12#8, encodeSeek le4 t)
  | .trackRead _ c => some (0x13#8, le1 c)
  | .stationSet _ k f => some (0x18#8, le1 k ++ le2 f.d ++ le2 f.w ++ le2 f.tol ++ le1 f.alarmCount ++
      le2 f.deadband ++ le2 f.gain ++ le2 f.maxStep ++ le1 f.rate)
  | .stationMode _ k m => some (0x19#8, le1 k ++ encodeMode m)
  | .trim _ c n => some (0x1A#8, le1 c ++ sle2 n)
  | .embossSet _ f => some (0x20#8, encodeFirst f.configured ++ le1 f.ratio ++ le2 f.offset ++
      encodeFirst f.required ++ le2 f.gain ++ le2 f.deadband ++ le2 f.maxStep ++ le2 f.engageWindow ++
      le2 f.faultLimit ++ le2 f.tol ++ le2 f.nipTimeout ++ encodeFirst f.autoReengage ++ le1 f.rate)
  | .embossEngage _ => some (0x21#8, [])
  | .embossRelease _ => some (0x22#8, [])
  | .shadeSet _ f => some (0x28#8, le1 f.scanList.length ++ f.scanList.flatMap le1 ++
      List.replicate (6 - f.scanList.length) 0 ++ le1 f.nscan ++ le1 f.kreg ++ le2 f.offset ++
      encodeFirst f.keep ++ encodeSecond f.overwrite ++ le2 f.whiteTarget)
  | .slotEnable _ m => some (0x29#8, [m])
  | .guardSet _ c f => some (0x2A#8, encodeColour c ++ le2 f.low ++ le2 f.high ++ encodeSecond f.all ++
      le1 f.slot ++ encodeFirst f.spots)
  | .spot _ slot k t g => some (0x2B#8, le1 slot ++ le1 k ++ encodeTarget t ++ le1 g)
  | .spotTrigger _ => some (0x2C#8, [])
  | .spotStop _ => some (0x2D#8, [])
  | .spotRead _ c => some (0x2E#8, le1 c)
  | .calWrite _ slot f => some (0x2F#8, le1 slot ++ le2 f.gainR ++ le2 f.gainG ++ le2 f.gainB ++
      le2 f.blackR ++ le2 f.blackG ++ le2 f.blackB)
  | .calRead _ slot => some (0x30#8, le1 slot)
  | .calibrate _ m => some (0x31#8, [m])
  | .laneSet _ l f => some (0x38#8, encodeLane l ++ encodeFirst f.enabled ++ le2 f.cutOffset ++ le4 f.target ++
      le4 f.minLength ++ le2 f.defectLimit ++ le2 f.knifeLead ++ le1 f.maxDeferrals ++ le2 f.turretTimeout)
  | .cut _ l => some (0x39#8, encodeLane l)
  | .rollSeek _ t => some (0x3A#8, encodeSeek le2 t)
  | .rollRead _ c => some (0x3B#8, le1 c)
  | .batchSet _ f => some (0x40#8, [f.char1, f.char2] ++ le2 f.tol ++ le1 f.wR ++ le1 f.wG ++ le1 f.wB ++
      le2 f.rollsPerBatch ++ encodeBatchMode f.mode)
  | .batchList _ => some (0x41#8, [])
  | .batchClose _ code => some (0x42#8, code)
  | .batchBreak _ => some (0x43#8, [])
  | .labelSet _ f => some (0x48#8, encodeFirst f.enabledA ++ encodeFirst f.enabledB ++ le1 f.templateA ++
      le1 f.templateB ++ le2 f.timeout ++ le1 f.retries)
  | .labelReprint _ r => some (0x49#8, le2 r)
  | .labelDiscard _ r => some (0x4A#8, le2 r)
  | .eventLevel _ c l => some (0x50#8, le1 c ++ le1 l)
  | .noticeFloor _ f => some (0x51#8, le1 f)
  | .noticeClear _ c => some (0x52#8, le1 c)
  | .routeBind _ slot code a n => some (0x53#8, le1 slot ++ le1 code ++ encodeAction a ++ le1 n)
  | .routeUnbind _ slot => some (0x54#8, le1 slot)
  | .routeFire _ slot => some (0x55#8, le1 slot)
  | .identify _ => some (0x60#8, [])
  | .status _ => some (0x61#8, [])
  | .reset _ => some (0x62#8, [])
  | .powerOn | .frameReceived _ | .interByteTimeout | .requestTake | .frameSent | .encoderCount _
  | .illegalTransition | .speedSample | .estActive _ | .markLeadingEdge | .markTrailingEdge
  | .windowClose _ _ | .masterCoast | .splEdge _ | .pointCrossing _ _ | .embossIndex _ | .indexLost _
  | .npfClosed | .npfOpen | .closeTimerExpiry _ | .releaseWatchExpiry | .trimPulse _ | .frameSlotStart
  | .headAnswer _ | .frameSlotEnd | .prkActive | .prkInactive | .firePosition _ _ | .turretDone _ _
  | .turretTimeout _ | .printerDone _ | .printerFault _ | .labelTimeout | .printSent => none

/-- The tag of a request; 0 for a command that is no request. -/
def Instr.tag : Instr → Byte
  | .jobOpen t | .jobStart t | .jobHold t | .jobResume t | .jobStop t | .jobEnd t | .recover t
  | .stopAck t _ | .inputSet t _ | .lineSet t _ _ | .repeatSet t _ | .pathSet t _ | .trackSeek t _
  | .trackRead t _ | .stationSet t _ _ | .stationMode t _ _ | .trim t _ _ | .embossSet t _
  | .embossEngage t | .embossRelease t | .shadeSet t _ | .slotEnable t _ | .guardSet t _ _
  | .spot t _ _ _ _ | .spotTrigger t | .spotStop t | .spotRead t _ | .calWrite t _ _ | .calRead t _
  | .calibrate t _ | .laneSet t _ _ | .cut t _ | .rollSeek t _ | .rollRead t _ | .batchSet t _
  | .batchList t | .batchClose t _ | .batchBreak t | .labelSet t _ | .labelReprint t _
  | .labelDiscard t _ | .eventLevel t _ _ | .noticeFloor t _ | .noticeClear t _ | .routeBind t _ _ _ _
  | .routeUnbind t _ | .routeFire t _ | .identify t | .status t | .reset t => t
  | .powerOn | .frameReceived _ | .interByteTimeout | .requestTake | .frameSent | .encoderCount _
  | .illegalTransition | .speedSample | .estActive _ | .markLeadingEdge | .markTrailingEdge
  | .windowClose _ _ | .masterCoast | .splEdge _ | .pointCrossing _ _ | .embossIndex _ | .indexLost _
  | .npfClosed | .npfOpen | .closeTimerExpiry _ | .releaseWatchExpiry | .trimPulse _ | .frameSlotStart
  | .headAnswer _ | .frameSlotEnd | .prkActive | .prkInactive | .firePosition _ _ | .turretDone _ _
  | .turretTimeout _ | .printerDone _ | .printerFault _ | .labelTimeout | .printSent => 0

end Sys2Proof
end

