-- ==== Sys2Proof/Machine/Link.lean ====
section
/-! DEFINITION. The output of the Supervisor Link and the notice path of the Event Unit: how a reply joins the
reply path, how a notice joins the notice queue, and what the output sender takes next (R174, R180, R181,
R186, R187). The sender takes a frame as soon as it is idle (log 9). -/

namespace Sys2Proof.Machine

/-- The status codes of R187. -/
def Status.code : Status → Nat
  | .ok => 0x00 | .queueFull => 0x01 | .badLength => 0x02 | .unknown => 0x03 | .badValue => 0x04
  | .wrongState => 0x05 | .busy => 0x06 | .full => 0x07 | .notFound => 0x08 | .gone => 0x09
  | .stillActive => 0x0A | .invalidJob => 0x0B | .notParked => 0x0C

/-- A reply as it is sent (R187, R191): TYPE is the request's + 0x80 modulo 256, the tag is the request's,
and the body opens with the status byte. -/
def Reply.frame (r : Reply) : OutFrame where
  bytes := supervisorFrame r.tag (r.request + 0x80#8) (le1 r.status.code ++ r.fields)
  resets := r.resets

/-- A notice as it is sent, carrying the dropped count (R181, R187, R191). -/
def Notice.frame (n : Notice) (dropped : Nat) : OutFrame where
  bytes := supervisorFrame 0x00#8 0xE0#8
    (le1 n.event.code ++ le1 n.level ++ le4 n.wp.toNat ++ le1 n.p1 ++ le4 n.p2 ++ le1 dropped)
  resets := false

/-- The output sender when it may have become free (R187): it sends the oldest reply, else the head notice
above the floor, which leaves the queue with the dropped count, set to 0 (R181). The first frame since power-on is
a reply, and the notices wait for it (R190; log 9). -/
def pump (s : State) : State :=
  match s.svl.sending, s.svl.replies, s.evu.notices with
  | some _, _, _ => s
  | none, r :: rs, _ => s.onSvl (fun v => { v with sending := some r.frame, replies := rs, replied := true })
  | none, [], n :: ns =>
    if s.svl.replied = true ∧ s.evu.floor < n.level then
      (s.onSvl (fun v => { v with sending := some (n.frame s.evu.dropped) })).onEvu
        (fun e => { e with notices := ns, dropped := 0 })
    else s
  | none, [], [] => s

/-- A reply joins the reply path (R186). -/
def pushReply (r : Reply) (s : State) : State :=
  pump (s.onSvl (fun v => { v with replies := v.replies ++ [r] }))

/-- The ordinary reply of a request: its TYPE, tag, status and fields. -/
def answer (tag : Byte) (request : Byte) (status : Status) (fields : List Byte) (s : State) : State :=
  pushReply ⟨.ordinary, tag, request, status, fields, false⟩ s

/-- A notice takes its place by level and age: behind every notice of its level or higher (R180). -/
def insertNotice (n : Notice) : List Notice → List Notice
  | [] => [n]
  | m :: ms => if n.level ≤ m.level then m :: insertNotice n ms else n :: m :: ms

/-- The lowest level queued, that of the last notice. -/
def lowestLevel (q : List Notice) : Nat := (q.getLast?.map (·.level)).getD 0

/-- A notice enters the queue, or one is dropped when it holds 32 (R180). -/
def Evu.enter (e : Evu) (n : Notice) : Evu :=
  if e.notices.length < Config.noticeCapacity then { e with notices := insertNotice n e.notices }
  else if n.level ≤ lowestLevel e.notices then { e with dropped := satInc 255 e.dropped }
  else { e with notices := insertNotice n e.notices.dropLast, dropped := satInc 255 e.dropped }

/-- The level of an event's code (R175). -/
def Evu.level (e : Evu) (ev : Event) : Nat := e.levels[ev.index]

/-- The notice path of R174 for an occurrence that no route takes: discarded at level 0, else a notice
stamped with WP. -/
def notice (ev : Event) (p1 p2 : Nat) (s : State) : State :=
  let level := s.evu.level ev
  if level = 0 then s
  else pump (s.onEvu (fun e => e.enter ⟨ev, level, s.wtb.wp, p1, p2⟩))

/-- LINE-STATE of a change of line state (R7). It cannot be bound to a route (R176). -/
def noticeLineState (reason : Reason) (s : State) : State :=
  notice .lineState s.wtb.line.code reason.code s

end Sys2Proof.Machine
end

