-- ==== Sys2Proof/Machine/Actions.lean ====
section
/-! DEFINITION. What the route actions do at their owners (R178), and the taking of an occurrence by the Event
Unit (R174, R177). An occurrence is dealt with whole as its block raises it (log 7). -/

namespace Sys2Proof.Machine

/-! ### The emboss unit's own transitions -/

/-- Enter SYNCING (R79): engage count and settle countdown 0, re-engage flag clear. -/
def enterSyncing (s : State) : State :=
  s.onEpu (fun e => { e with state := .syncing, engageCount := 0, settle := 0, reengage := false })

/-- Act on the re-engage flag (R87): in OPEN with the release watch stopped, in RUN, with the flag set, the
unit enters SYNCING if auto re-engage is still ENABLED; else the flag is cleared. -/
def actOnReengage (s : State) : State :=
  if s.epu.state = .opened ∧ s.epu.releaseWatch = none ∧ s.wtb.line = .run ∧ s.epu.reengage = true then
    if s.epu.params.autoReengage then enterSyncing s
    else s.onEpu (fun e => { e with reengage := false })
  else s

/-- Enter RELEASING (R81, R83, R84): NPC inactive, the close timer stopped, and the release watch started;
where NPF already shows open the watch stops at once and the unit enters OPEN under R87. -/
def enterReleasing (s : State) : State :=
  if s.nipClosed then
    s.onEpu (fun e => { e with
      state := .releasing, npc := false, closeTimer := none, releaseWatch := some e.params.nipTimeout })
  else
    actOnReengage (s.onEpu (fun e => { e with
      state := .opened, npc := false, closeTimer := none, releaseWatch := none }))

/-- SYNCING gives way to OPEN and ENGAGED to RELEASING; the other states stand (R86). -/
def leaveStep (s : State) : State :=
  match s.epu.state with
  | .syncing => s.onEpu (fun e => { e with state := .opened })
  | .engaged => enterReleasing s
  | .none | .opened | .releasing => s

/-- The emboss unit at RUN to HOLD (R86, R87). -/
def embossAtHold (s : State) : State :=
  let inStep := s.epu.state == .syncing || s.epu.state == .engaged
  leaveStep (s.onEpu (fun e => { e with reengage := e.reengage || (inStep && e.params.autoReengage) }))

/-- The emboss unit at JOB STOP and at entry to FAULT (R86). -/
def embossAtStop (s : State) : State :=
  leaveStep (s.onEpu (fun e => { e with reengage := false }))

/-- EMBOSS RELEASE, and the RELEASE EMBOSS action (R85): the re-engage flag is cleared; SYNCING enters OPEN
with the engage count 0, ENGAGED enters RELEASING, OPEN and RELEASING stand. -/
def releaseEmboss (s : State) : State :=
  let s := s.onEpu (fun e => { e with reengage := false })
  match s.epu.state with
  | .syncing => s.onEpu (fun e => { e with state := .opened, engageCount := 0 })
  | .engaged => enterReleasing s
  | .none | .opened | .releasing => s

/-! ### The line's entry into HOLD -/

/-- Enter HOLD from RUN, resume armed or not (R4, R11, R12); its LINE-STATE is the caller's to raise. -/
def enterHold (armed : Bool) (s : State) : State :=
  embossAtHold (s.onWtb (fun w => { w with line := .hold, resumeArmed := armed }))

/-! ### The other owners' actions -/

/-- The answer of the roll unit to a CUT of one lane (R137). -/
inductive CutAnswer | wrongState | busy | taken
deriving DecidableEq, Repr

/-- Set FORCED on the open roll of a lane (R137). -/
def LaneControl.forced (c : LaneControl) : LaneControl :=
  { c with roll := c.roll.map (fun r => { r with flags := { r.flags with forced := true } }) }

/-- What a CUT of this lane is answered (R137): the WRONG-STATE tests first, then BUSY in INDEXING. -/
def cutAnswer (l : Lane) (s : State) : CutAnswer :=
  if !s.running then .wrongState
  else match (s.lane l).state with
    | .off | .leader => .wrongState
    | .indexing => .busy
    | .winding | .armed => .taken

/-- CUT of one lane (R137, R138): in WINDING the force flag is set and the roll gets FORCED; in ARMED the
roll gets FORCED. -/
def cutLane (l : Lane) (s : State) : State :=
  match cutAnswer l s with
  | .taken => s.onLane l (fun c => { c.forced with force := c.force || c.state == .winding })
  | .wrongState | .busy => s

/-- The refusals of SPOT that do not depend on its fields (R109), in the rule's order. -/
def spotRefusal (s : State) : Option Status :=
  if s.wtb.line = .idle ∨ s.wtb.line = .fault then some .wrongState
  else if s.smu.heldStops ≠ [] then some .busy
  else if Config.spotCapacity ≤ s.smu.contexts.length then some .full
  else none

/-- A context joins the queue at the tail; a standing context leaves (R109, R110). -/
def joinSpot (c : SpotContext) (s : State) : State :=
  s.onSmu (fun m => { m with contexts := m.contexts ++ [c], standing := none })

/-- What a SPOT TRIGGER does (R110). -/
inductive TriggerAnswer | wrongState | busy | dropped | full | queued
deriving DecidableEq, Repr

/-- The newest context in the queue, pending or standing (R110). -/
def Smu.newest (m : Smu) : Option SpotContext :=
  match m.contexts.getLast? with
  | some c => some c
  | none => m.standing

/-- What a SPOT TRIGGER is answered (R110). -/
def triggerAnswer (s : State) : TriggerAnswer :=
  if s.wtb.line = .idle ∨ s.wtb.line = .fault then .wrongState
  else if s.smu.heldStops ≠ [] then .busy
  else match s.smu.newest with
    | none => .dropped
    | some _ => if Config.spotCapacity ≤ s.smu.contexts.length then .full else .queued

/-- The copy a trigger makes (R110): slot, k and tag of the template; IMMEDIATE stays IMMEDIATE, any other
target becomes an unbound NEXT. -/
def SpotContext.copyFor (c : SpotContext) (source : SpotSource) : SpotContext :=
  match c.target with
  | .immediate => { c with bound := none, due := true, source := source }
  | .next | .number _ => { c with target := .next, bound := none, due := false, source := source }

/-- SPOT TRIGGER from a source (R110): the copy joins, or a drop is counted. -/
def spotTrigger (source : SpotSource) (s : State) : State :=
  match triggerAnswer s, s.smu.newest with
  | .queued, some c => joinSpot (c.copyFor source) s
  | .dropped, _ => s.onSmu (fun m => { m with drops := satInc 255 m.drops })
  | _, _ => s

/-- BATCH BREAK's effect (R162). -/
def setBreak (s : State) : State := s.onBtu (fun b => { b with breakPending := true })

/-! ### Running a route action -/

/-- What an action leaves: the state, whether it was done, and whether HOLD LINE took RUN to HOLD, whose
LINE-STATE is taken only after the occurrence that ran the route (R174). -/
structure ActionResult where
  state : State
  done : Bool
  held : Bool

/-- A route's spot template as a context with target NEXT (R109, R178). The template of a bound slot is in
range (R176); one that names no slot is not done. -/
def templateContext (t : SpotTemplate) (slot : Fin 4) : Option SpotContext :=
  (slotIndex t.slot).map (fun i => ⟨i, t.k, .next, none, false, t.tag, .route slot⟩)

/-- Run the action of a route slot (R178). `lanes` are the lanes an EVENT-lane CUT names. RELEASE EMBOSS acts in
SYNCING and ENGAGED alone (R85) and leaves the re-engage flag in the other states (R87; log 38). -/
def runAction (slot : Fin 4) (action : RouteAction) (lanes : List Lane) (s : State) : ActionResult :=
  match action with
  | .spot (some t) =>
    match spotRefusal s, templateContext t slot with
    | none, some c => ⟨joinSpot c s, true, false⟩
    | _, _ => ⟨s, false, false⟩
  | .spot none => ⟨spotTrigger (.route slot) s, triggerAnswer s == .queued, false⟩
  | .cut (.lane l) => ⟨cutLane l s, cutAnswer l s == .taken, false⟩
  | .cut .event =>
    ⟨lanes.foldl (fun t l => cutLane l t) s, lanes.any (fun l => cutAnswer l s == .taken), false⟩
  | .holdLine =>
    match s.wtb.line with
    | .run => ⟨enterHold false s, true, true⟩
    | .hold => ⟨s.onWtb (fun w => { w with resumeArmed := false }), true, false⟩
    | .idle | .thread | .fault => ⟨s, true, false⟩
  | .releaseEmboss =>
    match s.epu.state with
    | .syncing | .engaged => ⟨releaseEmboss s, true, false⟩
    | .none | .opened | .releasing => ⟨s, true, false⟩
  | .newBatch => ⟨setBreak s, true, false⟩

/-- A done action takes one from the slot's count; at 0 the slot unbinds and ROUTE-END is raised, with the
slot and the code that was bound (R177). -/
def countRoute (slot : Fin 4) (s : State) : State :=
  match s.evu.routes[slot] with
  | none => s
  | some r =>
    if r.remaining ≤ 1 then
      notice .routeEnd slot.val r.event.code
        (s.onEvu (fun e => { e with routes := e.routes.set slot none }))
    else s.onEvu (fun e => { e with routes := e.routes.set slot (some { r with remaining := r.remaining - 1 }) })

/-- The end of a done action: the count, any ROUTE-END, then the LINE-STATE of a HOLD LINE (R174). -/
def finishAction (slot : Fin 4) (held : Bool) (s : State) : State :=
  let s := countRoute slot s
  if held then noticeLineState .route s else s

/-- The lowest-numbered slot bound to an event, with its binding (R177). -/
def Evu.routeFor (e : Evu) (ev : Event) : Option (Fin 4 × Route) :=
  (List.finRange 4).findSome? (fun i =>
    match e.routes[i] with
    | some r => if r.event = ev then some (i, r) else none
    | none => none)

/-- The lane an occurrence names for an EVENT-lane CUT (section 10.1). -/
def Event.laneFor (ev : Event) (p1 : Nat) : Option Lane :=
  match ev with
  | .spliceAtKnife | .cutDone | .cutDeferred | .cutMissed | .rollDone | .batchOpened | .labelDone
  | .labelFailed | .labelQueueFull => if p1 = 1 then some .a else some .b
  | .scanOverrun | .shadeGuard | .headFailed => some (laneOfSlot p1)
  | _ => none

/-- The lanes an EVENT-lane CUT names: the occurrence's, or both where it has none, A first (R178). -/
def Event.lanesFor (ev : Event) (p1 : Nat) : List Lane :=
  match ev.laneFor p1 with
  | some l => [l]
  | none => [.a, .b]

/-- Raise an occurrence (R174, R177): the lowest slot bound to its code runs its action; when that is done the
occurrence ends there, otherwise it goes to the notice path. -/
def raise (ev : Event) (p1 p2 : Nat) (s : State) : State :=
  match s.evu.routeFor ev with
  | none => notice ev p1 p2 s
  | some (slot, r) =>
    let a := runAction slot r.action (ev.lanesFor p1) s
    if a.done then finishAction slot a.held a.state else notice ev p1 p2 a.state

end Sys2Proof.Machine
end

