-- ==== Sys2Proof/Machine/Spots.lean ====
section
/-! DEFINITION. How a spot ends and how head work is abandoned (R92, R101, R111, R115 to R118, R120, R124):
shared by the requests, the line's transitions and the head bus. -/

namespace Sys2Proof.Machine

/-- The repeat number a context's spot serves: the bound record of a NEXT, the number of a numbered target,
none for IMMEDIATE (R112). -/
def SpotContext.serves (c : SpotContext) : Option Nat :=
  match c.target with
  | .immediate => none
  | .next => c.bound
  | .number n => some n

/-- A result is offered to the spot result buffer (R116): SPOT-OVERRUN where it is full, then SPOT-DONE. -/
def offerResult (r : SpotResult) (s : State) : State :=
  let placed :=
    if s.smu.results.length < Config.resultCapacity then
      s.onSmu (fun m => { m with results := m.results ++ [r] })
    else if s.smu.params.overwrite then
      match s.smu.results with
      | old :: rest =>
        raise .spotOverrun old.tag (old.number.getD 0) (s.onSmu (fun m => { m with results := rest ++ [r] }))
      | [] => s
    else raise .spotOverrun r.tag (r.number.getD 0) s
  raise .spotDone r.tag (r.number.getD 0) placed

/-- The result of a spot that ends without values (R113, R116). -/
def SpotContext.resultOf (c : SpotContext) (status : SpotStatus) : SpotResult :=
  ⟨c.tag, c.source, c.slot, c.serves, status, none, none⟩

/-- A spot ends without values: MISSED, ABANDONED or INVALID (R113, R116). -/
def endSpot (c : SpotContext) (status : SpotStatus) (s : State) : State := offerResult (c.resultOf status) s

/-- The first context of a list that satisfies `p`, and the list without it. -/
def takeFirst (p : SpotContext → Bool) : List SpotContext → Option (SpotContext × List SpotContext)
  | [] => none
  | c :: cs => if p c then some (c, cs) else (takeFirst p cs).map (fun x => (x.1, c :: x.2))

/-- A context is consumed (R111): it leaves the pending queue, and in KEEP mode, if none is then left, a copy
stays as the standing context. -/
def Smu.consume (m : Smu) (c : SpotContext) (rest : List SpotContext) : Smu :=
  { m with contexts := rest, standing := if rest = [] ∧ m.params.keep = true then some c else m.standing }

/-- Every pending context that satisfies `p` is consumed and ends MISSED, in queue order (R112, R115, R118). -/
def missPending (p : SpotContext → Bool) : Nat → State → State
  | 0, s => s
  | fuel + 1, s =>
    match takeFirst p s.smu.contexts with
    | none => s
    | some (c, rest) => missPending p fuel (endSpot c .missed (s.onSmu (fun m => m.consume c rest)))

/-- Every pending context that satisfies `p` ends MISSED. -/
def missAll (p : SpotContext → Bool) (s : State) : State := missPending p s.smu.contexts.length s

/-- The staged set of a slot, if any, becomes its active set (R120). -/
def applyStaged (slot : Fin 6) (s : State) : State :=
  match s.smu.staged[slot] with
  | none => s
  | some f => s.onSmu (fun m => { m with active := m.active.set slot f, staged := m.staged.set slot none })

/-- The TYPE of SPOT STOP (R187). -/
def spotStopType : Byte := 0x2D#8

/-- The reply of a SPOT STOP, with the number of pending contexts removed (R117); it never blocks a taking
(R186). -/
def stopReply (h : HeldStop) : Reply := ⟨.spotStop, h.tag, spotStopType, .ok, le1 h.removed, false⟩

/-- Every held SPOT STOP reply joins the reply path, in the order of their takings (R117, R186). -/
def releaseStops (s : State) : State :=
  s.smu.heldStops.foldl (fun t h => pushReply (stopReply h) t) (s.onSmu (fun m => { m with heldStops := [] }))

/-- The measurement on the bus ends without completing (R92). -/
def dropBus (s : State) : State := s.onSmu (fun m => { m with bus := none })

/-- The spot in progress, with the slot it measures. -/
def Smu.spotInProgress (m : Smu) : Option SpotContext :=
  match m.bus with
  | some b => match b.user with
    | .spot c => some c
    | .scan _ _ | .cal => none
  | none => none

/-- A spot in progress ends ABANDONED (R92, R115, R117, R118): its result and SPOT-DONE, then the staged set
behind it (R120), then the held SPOT STOP replies. -/
def abandonSpot (c : SpotContext) (s : State) : State :=
  releaseStops (applyStaged c.slot (endSpot c .abandoned (dropBus s)))

/-- Abandon the spot in progress where there is one that satisfies `p`. -/
def abandonSpotIf (p : SpotContext → Bool) (s : State) : State :=
  match s.smu.spotInProgress with
  | some c => if p c then abandonSpot c s else s
  | none => s

/-- The regular measurement on the bus, if one is, ends without completing; its staged set is applied (R92,
R120). -/
def dropScanMeasurement (s : State) : State :=
  match s.smu.bus with
  | some b => match b.user with
    | .scan _ _ => applyStaged b.slot (dropBus s)
    | .spot _ | .cal => s
  | none => s

/-- Every regular scan is abandoned without an event (R101, R102). -/
def abandonScans (s : State) : State :=
  (dropScanMeasurement s).onSmu (fun m => { m with scan := none, overrun := none })

/-- A set of slots as one byte (R191), as CAL-DONE and STATUS carry it. -/
def slotMask (slots : List (Fin 6)) : Nat := (setByte (slots.map Fin.val)).toNat

/-- A calibration run ends early (R124): the slot in progress and those not yet done fail, a staged set behind
the slot is applied, and CAL-DONE carries the pass mask as it stands. -/
def endCalibrationEarly (s : State) : State :=
  match s.smu.calRun with
  | none => s
  | some c =>
    let s := s.onSmu (fun m => { m with calRun := none })
    let s := match s.smu.bus with
      | some b => match b.user with
        | .cal => applyStaged b.slot (dropBus s)
        | .scan _ _ | .spot _ => s
      | none => s
    raise .calDone (slotMask c.passed) (slotMask c.requested) s

/-- The contexts JOB STOP and RECOVER end MISSED: a numbered target or a bound record (R118). -/
def SpotContext.isRecordBound (c : SpotContext) : Bool :=
  match c.target with
  | .number _ => true
  | .next => c.bound.isSome
  | .immediate => false

/-- A spot that targets a record (R118): any but IMMEDIATE. -/
def SpotContext.isTargeted (c : SpotContext) : Bool :=
  match c.target with
  | .immediate => false
  | .next | .number _ => true

/-- The measurement unit at entry to FAULT (R102, R118, R124). -/
def shadeAtFault (s : State) : State :=
  endCalibrationEarly (abandonSpotIf (fun _ => true) (abandonScans s))

/-- The measurement unit at JOB STOP (R102, R118). R118 does not order the spot in progress and the pending contexts;
the spot in progress ends ABANDONED first, then the contexts end MISSED in queue order (log 44). -/
def shadeAtStop (s : State) : State :=
  missAll SpotContext.isRecordBound (abandonSpotIf SpotContext.isTargeted (abandonScans s))

/-- The measurement unit at RECOVER (R118). -/
def shadeAtRecover (s : State) : State := missAll SpotContext.isRecordBound s

/-- The measurement unit at JOB END (R118): pending and standing contexts leave without results. -/
def shadeAtEnd (s : State) : State :=
  (abandonSpotIf (fun _ => true) s).onSmu (fun m => { m with contexts := [], standing := none })

end Sys2Proof.Machine
end

