-- ==== Sys2Proof/Machine/Line.lean ====
section
/-! DEFINITION. The line's transitions that several commands share (R3, R7, R13, R16, R46, R66, R68, R86, R146,
R147): entering a state, latching a stop cause, and what each block does at FAULT, THREAD and IDLE. The
blocks act in the order of Figure 1 after LINE-STATE is raised (log 8). -/

namespace Sys2Proof.Machine

/-- Every owed trim is set to 0 (R66, R68). -/
def zeroTrims (s : State) : State :=
  s.onRlu (fun r => { r with channels := r.channels.map (fun c => { c with owed := 0 }) })

/-- A lane's cut is disarmed (R146): ARMED enters WINDING and the force flag is cleared. -/
def LaneControl.disarm (c : LaneControl) : LaneControl :=
  { c with cut := none, force := false, state := if c.state = .armed then .winding else c.state }

/-- The open roll of a lane gets TRACK-GAP (R147). -/
def LaneControl.gap (c : LaneControl) : LaneControl :=
  { c with roll := c.roll.map (fun r => { r with flags := { r.flags with trackGap := true } }) }

/-- Both lanes at entry to FAULT (R146). -/
def disarmLanes (s : State) : State :=
  s.onRku (fun r => { r with laneA := r.laneA.disarm, laneB := r.laneB.disarm })

/-- Both lanes at JOB STOP and RECOVER (R146, R147). -/
def gapLanes (s : State) : State :=
  s.onRku (fun r => { r with laneA := r.laneA.disarm.gap, laneB := r.laneB.disarm.gap })

/-- The scanner goes OFF: a half-seen mark is abandoned and the coast count is 0 (R22, R24, R27). -/
def scannerOff (s : State) : State :=
  s.onTku (fun t => { t with scanner := .off, halfSeen := none, coastCount := 0 })

/-- The track is emptied (R47): records, mark blocks, those of departed records included, cursors and the pending
splice list; the track read cursor is set to the number the next record will take. -/
def emptyTrack (s : State) : State :=
  (scannerOff s).onTku (fun t => { t with
    track := [], departed := [], cursors := ⟨none, none, none, none⟩, splices := [], readCursor := t.nextRepeat })

/-- Entry to FAULT from THREAD, RUN or HOLD (R16): the line state and LINE-STATE, then the blocks' fault
changes: track frozen, owed trims discarded, nip opened, head work abandoned, cuts disarmed. -/
def enterFault (s : State) : State :=
  let s := noticeLineState .stopCause (s.onWtb (fun w => { w with line := .fault, resumeArmed := false }))
  disarmLanes (shadeAtFault (embossAtStop (zeroTrims (scannerOff s))))

/-- A stop cause latches when its latch is clear (R16): STOP-CAUSE with the line state at that moment, then
FAULT from THREAD, RUN or HOLD. -/
def latchCause (c : StopCause) (s : State) : State :=
  if s.wtb.latched.get c then s
  else
    let line := s.wtb.line
    let s := notice .stopCause c.code line.code (s.onWtb (fun w => { w with latched := w.latched.put c true }))
    match line with
    | .thread | .run | .hold => enterFault s
    | .fault | .idle => s

/-- Entry to THREAD (R3, R13): HW is set to WP and resume is cleared; no count is a new-web advance there. -/
def enterThread (s : State) : State :=
  noticeLineState .request (s.onWtb (fun w => { w with
    line := .thread, resumeArmed := false, hw := w.wp, newWeb := false }))

/-- Entry to RUN (R9, R13): resume is cleared and a calibration run in progress ends early (R124). -/
def enterRun (reason : Reason) (s : State) : State :=
  endCalibrationEarly (noticeLineState reason (s.onWtb (fun w => { w with line := .run, resumeArmed := false })))

end Sys2Proof.Machine
end

