-- ==== Sys2Proof/Machine/Operands.lean ====
section
/-! DEFINITION. The operands of the set requests: the range of every field as its owner's table gives it. A
request is checked whole before any field is written (R19); `none` is BAD-VALUE. -/

namespace Sys2Proof

open Machine

/-- A number lies within a range, both ends included. -/
def within (lo hi n : Nat) : Bool := lo ≤ n && n ≤ hi

/-- INPUT SET (R21). -/
def InputFields.resolve (f : InputFields) : Option Polarity := do
  return { est := ← f.est, npf := ← f.npf, prk := ← f.prk, wra := ← f.wra, wrb := ← f.wrb, scn := ← f.scn,
           eix := ← f.eix, spl := ← f.spl, tda := ← f.tda, tdb := ← f.tdb, reversed := ← f.reversed }

/-- REPEAT SET (R39). -/
def RepeatParams.inRange (r : RepeatParams) : Bool :=
  within 2000 64000 r.n && within 1 102 r.g && within 0 6 r.f && within 40 8000 r.wMaster &&
  within 8 2000 r.masterWidth && within 8 2000 r.stationWidth && within 2 500 r.widthTol && within 1 8 r.c

/-- PATH SET (R40). -/
def PathTable.inRange (p : PathTable) : Bool :=
  p.d.toList.all (within 0 4000000) && within 1 4000000 p.de && within 1 4000000 p.ds &&
  within 1 4000000 p.dka && within 1 4000000 p.dkb && within 0 8000000 p.du

/-- STATION SET (R52), but for the station number. -/
def StationParams.inRange (p : StationParams) : Bool :=
  within 1 63999 p.d && within 40 4000 p.w && within 1 4000 p.tol && within 1 32 p.alarmCount &&
  within 0 1000 p.deadband && within 0 256 p.gain && within 1 2000 p.maxStep && within 1 64 p.rate

/-- EMBOSS SET (R74): the emboss tolerance is at most the fault limit of the same request, and the fault limit
at most floor(N / 2) where N is set, one held already included (log 20). -/
def EmbossFields.resolve (f : EmbossFields) (n : Nat) : Option EmbossParams := do
  let configured ← f.configured
  let required ← f.required
  let auto ← f.autoReengage
  if within 1 4 f.ratio && within 0 63999 f.offset && within 0 256 f.gain && within 0 1000 f.deadband &&
      within 1 2000 f.maxStep && within 10 2000 f.engageWindow && within 20 32000 f.faultLimit &&
      within 1 f.faultLimit f.tol && within 100 5000 f.nipTimeout && within 1 64 f.rate &&
      (n == 0 || f.faultLimit ≤ n / 2) then
    return ⟨configured, f.ratio, f.offset, required, f.gain, f.deadband, f.maxStep, f.engageWindow,
      f.faultLimit, f.tol, f.nipTimeout, auto, f.rate⟩
  else none

/-- An offset within its range, and where N is set at most N - 1 or the one `held` already (R19, R95, R127;
log 20). -/
def offsetAllowed (n held offset : Nat) : Bool :=
  within 0 63999 offset && (n == 0 || offset ≤ n - 1 || offset == held)

/-- SHADE SET (R95, R119): the scan list names 1 to 6 slots, each at most once. `held` is the offset held. -/
def ShadeFields.resolve (f : ShadeFields) (n held : Nat) : Option ShadeParams := do
  let keep ← f.keep
  let overwrite ← f.overwrite
  let list ← f.scanList.mapM slotIndex
  if within 1 6 list.length && decide list.Nodup && within 1 6 f.nscan && within 0 4 f.kreg &&
      offsetAllowed n held f.offset && within 1000 4000 f.whiteTarget then
    return ⟨list, f.nscan, f.kreg, f.offset, keep, overwrite, f.whiteTarget⟩
  else none

/-- GUARD SET (R105), but for the channel. -/
def GuardFields.resolve (f : GuardFields) : Option Guard := do
  let all ← f.all
  let spots ← f.spots
  let slot ← slotIndex f.slot
  if within 0 4095 f.low && within 0 4095 f.high && f.low ≤ f.high then
    return ⟨f.low, f.high, all, slot, spots⟩
  else none

/-- The factors of CAL WRITE (R120). -/
def Factors.inRange (f : Factors) : Bool :=
  within 8192 65535 f.gainR && within 8192 65535 f.gainG && within 8192 65535 f.gainB &&
  within 0 1023 f.blackR && within 0 1023 f.blackG && within 0 1023 f.blackB

/-- LANE SET (R127), but for the lane. `held` is the cut offset the lane holds. -/
def LaneFields.resolve (f : LaneFields) (n held : Nat) : Option LaneParams := do
  let enabled ← f.enabled
  if offsetAllowed n held f.cutOffset && within 8000 4000000 f.target && within 0 4000000 f.minLength &&
      within 0 65535 f.defectLimit && within 0 50000 f.knifeLead && within 1 8 f.maxDeferrals && within 500 10000 f.turretTimeout then
    return ⟨enabled, f.cutOffset, f.target, f.minLength, f.defectLimit, f.knifeLead, f.maxDeferrals,
      f.turretTimeout⟩
  else none

/-- An ASCII capital letter A to Z (R153). -/
def isCapital (b : Byte) : Bool := within 0x41 0x5A b.toNat

/-- An ASCII digit. -/
def isDigit (b : Byte) : Bool := within 0x30 0x39 b.toNat

/-- BATCH SET (R153). -/
def BatchFields.resolve (f : BatchFields) : Option BatchParams := do
  let mode ← f.mode
  if isCapital f.char1 && isCapital f.char2 && within 0 4095 f.tol && within 0 64 f.wR && within 0 64 f.wG &&
      within 0 64 f.wB && within 1 9999 f.rollsPerBatch then
    return ⟨f.char1, f.char2, f.tol, f.wR, f.wG, f.wB, f.rollsPerBatch, mode⟩
  else none

/-- A batch code is two capital letters and three digits (R161). -/
def isBatchCode : List Byte → Bool
  | [a, b, x, y, z] => isCapital a && isCapital b && isDigit x && isDigit y && isDigit z
  | _ => false

/-- LABEL SET (R166): the timeout is a multiple of 50 ms. -/
def LabelFields.resolve (f : LabelFields) : Option LabelParams := do
  let a ← f.enabledA
  let b ← f.enabledB
  if within 0 15 f.templateA && within 0 15 f.templateB && within 50 5000 f.timeout && f.timeout % 50 == 0 &&
      within 0 1 f.retries then
    return ⟨a, b, f.templateA, f.templateB, f.timeout, f.retries⟩
  else none

/-- The parameter of a route action (R176). -/
def RouteAction.inRange : RouteAction → Bool
  | .spot (some t) => within 0 5 t.slot && within 0 4 t.k && within 0 255 t.tag
  | .spot none | .cut _ | .holdLine | .releaseEmboss | .newBatch => true

/-- A spot target (R109): a repeat number lies from 1 to 4,294,967,295. -/
def SpotTarget.inRange : SpotTarget → Bool
  | .number n => within 1 4294967295 n
  | .next | .immediate => true

end Sys2Proof
end

