-- ==== Sys2Proof/Machine/Rlu.lean ====
section
/-! DEFINITION. The Register Loop Unit (chapter 3): register entries, alarms, the correction law and the trim
channels. -/

namespace Sys2Proof.Machine

/-- The settle value (R53): min(255, ceil(16 * Dk / estimate) + 1), and 255 while the estimate is 0. -/
def settleValue (d : Nat) (estimate : Int) : Nat :=
  if estimate = 0 then 255 else min 255 ((ceilDiv (16 * d) estimate).toNat + 1)

/-- The settle value of a station as it stands. -/
def State.settleOf (s : State) (k : Fin 8) : Nat := settleValue s.tku.path.d[k] s.tku.estimate

/-- Load the settle countdown of every station in AUTO (R54, R64). -/
def loadAutoSettles (s : State) : State :=
  s.onRlu (fun r => { r with
    stations := r.stations.mapFinIdx (fun i st h =>
      if st.mode = .auto then { st with settle := s.settleOf ⟨i, h⟩ } else st) })

/-- An addition to an owed trim, with saturation (R66); `number` is the repeat number of the entry that gave
the correction, 0 for a TRIM request. -/
def addOwed (c : Fin 9) (amount : Int) (number : Nat) (s : State) : State :=
  let sum := s.rlu.channels[c].owed + amount
  let kept := clampInt sum (-Config.owedLimit) Config.owedLimit
  let s := s.onRlu (fun r => r.onChannel c (fun ch => { ch with owed := kept }))
  if kept = sum then s else raise .trimSaturated (c.val + 1) number s

/-- A reading that adds REGISTER to the defect set (R35): out of tolerance or MISSING. -/
def RegReading.isDefect : RegReading → Bool
  | .missing => true
  | .error _ inTol => !inTol

/-- The register entry and its defect are written into the record (R55, R56). Entries stand in the order in which they
are written (R49, R191; log 37). -/
def writeRegEntry (k : Fin 8) (n : Nat) (rd : RegReading) (s : State) : State :=
  s.onTku (fun t => t.onRecord n (fun r => { r with
    regs := r.regs ++ [⟨k, rd⟩]
    defects := { r.defects with register := r.defects.register || rd.isDefect } }))

/-- The out-of-tolerance run and the alarm at an entry of a non-coasted record (R57). -/
def countOutOfTolerance (k : Fin 8) (n : Nat) (rd : RegReading) (s : State) : State :=
  match rd with
  | .missing => s
  | .error _ true => s.onRlu (fun r => r.onStation k (fun st => { st with outRun := 0, alarmArmed := true }))
  | .error _ false =>
    let st := s.rlu.stations[k]
    let run := satInc 255 st.outRun
    if st.alarmArmed ∧ st.params.alarmCount ≤ run then
      raise .registerAlarm (k.val + 1) n
        (s.onRlu (fun r => r.onStation k (fun st => { st with outRun := run, alarmArmed := false })))
    else s.onRlu (fun r => r.onStation k (fun st => { st with outRun := run }))

/-- A station in AUTO drops to MONITOR (R58, R59). -/
def Station.dropAuto (st : Station) : Station :=
  { st with mode := if st.mode = .auto then .monitor else st.mode }

/-- The missing run at an entry of a non-coasted record (R58): the fourth MISSING in a row raises MARK-LOST
and drops an AUTO station. -/
def countMissing (k : Fin 8) (n : Nat) (rd : RegReading) (s : State) : State :=
  match rd with
  | .error _ _ => s.onRlu (fun r => r.onStation k (fun st => { st with missRun := 0 }))
  | .missing =>
    if s.rlu.stations[k].missRun + 1 < Config.missingLimit then
      s.onRlu (fun r => r.onStation k (fun st => { st with missRun := st.missRun + 1 }))
    else
      (raise .markLost (k.val + 1) n
        (s.onRlu (fun r => r.onStation k (fun st => { st with missRun := 0 })))).onRlu
        (fun r => r.onStation k Station.dropAuto)

/-- The station loop (R61 to R63): in RUN, in AUTO, it counts down, or corrects and reloads its countdown. -/
def stationLoop (k : Fin 8) (n : Nat) (rd : RegReading) (s : State) : State :=
  let st := s.rlu.stations[k]
  if s.wtb.line ≠ .run ∨ st.mode ≠ .auto then s
  else if 0 < st.settle then s.onRlu (fun r => r.onStation k (fun st => { st with settle := st.settle - 1 }))
  else match rd with
    | .missing => s
    | .error e _ =>
      if e.natAbs ≤ st.params.deadband then s
      else
        let c := correctionOf e st.params.gain st.params.maxStep
        if c = 0 then s
        else
          let s := addOwed (channelOfStation k) c n s
          s.onRlu (fun r => r.onStation k (fun st => { st with settle := s.settleOf k }))

/-- What the unit does for one capture or missing report, in the order of R60. Entries of a COASTED record are
written and change nothing else (R57, R58, R61). -/
def registerEntry (k : Fin 8) (n : Nat) (coasted : Bool) (rd : RegReading) (s : State) : State :=
  let s := writeRegEntry k n rd s
  if coasted then s else stationLoop k n rd (countMissing k n rd (countOutOfTolerance k n rd s))

/-- A capture (R55): the error against the window's target, and the in-tolerance bit. -/
def captureReading (s : State) (k : Fin 8) (mark origin : Pos) (target : Int) : RegReading :=
  let e := sdiff mark origin - target
  .error e (e.natAbs ≤ s.rlu.stations[k].params.tol)

/-- MASTER-LOST drops every station in AUTO to MONITOR (R59). -/
def dropAllAuto (s : State) : State :=
  s.onRlu (fun r => { r with stations := r.stations.map Station.dropAuto })

/-! ### The commands -/

/-- STATION MODE (R51). -/
def execStationMode (tag : Byte) (station : Nat) (mode : Coded StationMode) (s : State) :
    Host.Outcome State Fault Refusal :=
  let structural : StationMode → Bool := fun m => m == .off || m == .master
  .next (match stationIndex station, mode with
    | some k, some m =>
      let old := s.rlu.stations[k].mode
      if m = old then answer tag 0x19#8 .ok (le1 m.code) s
      else if (structural m || structural old) ∧ s.wtb.line ≠ .idle ∧ s.wtb.line ≠ .thread then
        answer tag 0x19#8 .wrongState [] s
      else
        let settle := if m = .auto then s.settleOf k else s.rlu.stations[k].settle
        answer tag 0x19#8 .ok (le1 m.code)
          (s.onRlu (fun r => r.onStation k (fun st => { st with mode := m, settle := settle })))
    | _, _ => answer tag 0x19#8 .badValue [] s)

/-- STATION SET (R52): dk and Wk are structural, the rest run-changeable (R19). -/
def execStationSet (tag : Byte) (station : Nat) (f : StationParams) (s : State) :
    Host.Outcome State Fault Refusal :=
  .next (match stationIndex station with
    | none => answer tag 0x18#8 .badValue [] s
    | some k =>
      let old := s.rlu.stations[k].params
      if !f.inRange then answer tag 0x18#8 .badValue [] s
      else if (f.d ≠ old.d ∨ f.w ≠ old.w) ∧ s.wtb.line ≠ .idle ∧ s.wtb.line ≠ .thread then
        answer tag 0x18#8 .wrongState [] s
      else answer tag 0x18#8 .ok [] (s.onRlu (fun r => r.onStation k (fun st => { st with params := f }))))

/-- A TRIM of this channel is refused for the loop that owns it (R71): a station in AUTO, or the emboss loop
in SYNCING or ENGAGED. -/
def loopOwns (c : Fin 9) (s : State) : Bool :=
  if h : c.val < 8 then s.rlu.stations[c.val].mode == .auto
  else s.epu.state == .syncing || s.epu.state == .engaged

/-- TRIM (R71): the reply carries the owed trim after the addition. -/
def execTrim (tag : Byte) (channel : Nat) (count : Int) (s : State) : Host.Outcome State Fault Refusal :=
  .next (match channelIndex channel with
    | none => answer tag 0x1A#8 .badValue [] s
    | some c =>
      if count < -Config.owedLimit ∨ Config.owedLimit < count then answer tag 0x1A#8 .badValue [] s
      else if s.wtb.line = .idle ∨ s.wtb.line = .fault ∨ loopOwns c s = true then
        answer tag 0x1A#8 .wrongState [] s
      else
        let s := addOwed c count 0 s
        answer tag 0x1A#8 .ok (sle2 s.rlu.channels[c].owed) s)

/-- TRIM_PULSE (R67, R68): in THREAD and RUN a channel that owes emits one pulse; DIR is set to the sign of
the owed trim, which moves one count toward 0, and the total by the pulse's direction. -/
def execTrimPulse (channel : Nat) (s : State) : Host.Outcome State Fault Refusal :=
  .next (match channelIndex channel with
    | none => s
    | some c =>
      let ch := s.rlu.channels[c]
      if ch.owed = 0 ∨ (s.wtb.line ≠ .thread ∧ s.wtb.line ≠ .run) then s
      else if 0 < ch.owed then
        s.onRlu (fun r => r.onChannel c (fun ch => ⟨ch.owed - 1, ch.total + 1, true⟩))
      else s.onRlu (fun r => r.onChannel c (fun ch => ⟨ch.owed + 1, ch.total - 1, false⟩)))

end Sys2Proof.Machine
end

