-- ==== Sys2Proof/Machine/Epu.lean ====
section
/-! DEFINITION. The Emboss Phase Unit (chapter 4): index and phase, the emboss loop, engaging and opening the
nip, and its requests. -/

namespace Sys2Proof.Machine

/-- The half repeat of the phase search: floor(estimate / 32) (R77). -/
def State.halfRepeat (s : State) : Int := s.tku.estimate / 32

/-- The emboss reference of a record: On + DE + emboss offset (R77). -/
def State.embossReference (s : State) (r : RepeatRecord) : Pos :=
  posPlus r.origin (s.tku.path.de + s.epu.params.offset)

/-- The record with the greatest emboss reference at or below `limit`, each comparison a signed difference
(R77). -/
def State.referenceRecord (s : State) (limit : Pos) : Option RepeatRecord :=
  s.tku.track.foldl (fun best r =>
    if sdiff limit (s.embossReference r) < 0 then best
    else match best with
      | none => some r
      | some b => if 0 < sdiff (s.embossReference r) (s.embossReference b) then some r else best) none

/-- The phase of an index at `pe` (R77): none is NO-REFERENCE (log 25). -/
def State.phaseAt (s : State) (pe : Pos) : Option PhaseRegister :=
  let h := s.halfRepeat
  match s.referenceRecord (posPlus pe h) with
  | none => none
  | some r =>
    let phase := sdiff pe (s.embossReference r)
    if -h ≤ phase ∧ phase ≤ h then some ⟨phase, r.number⟩ else none

/-- The fault limit in force: floor(N / 2) where a later N has brought it lower (R74). -/
def State.faultLimit (s : State) : Nat := min s.epu.params.faultLimit (s.tku.params.n / 2)

/-- EMBOSS-OUT (R82, R87): it is raised, the re-engage flag is set where auto re-engage is ENABLED, and the
unit enters RELEASING. -/
def embossOut (reason number : Nat) (s : State) : State :=
  let s := raise .embossOut reason number s
  enterReleasing (s.onEpu (fun e => { e with reengage := e.reengage || e.params.autoReengage }))

/-- EMBOSS-NIP (R81): it is raised, the re-engage flag is cleared, and the unit enters RELEASING. -/
def embossNip (reason : Nat) (s : State) : State :=
  let s := raise .embossNip reason 0 s
  enterReleasing (s.onEpu (fun e => { e with reengage := false }))

/-- Enter ENGAGED at the index that completes the count (R80, R82): NPC active, the close timer started, the
nip confirmed at once where NPF already shows closed, then EMBOSS-ENGAGED. -/
def enterEngaged (pe : Pos) (number : Nat) (s : State) : State :=
  let closed := s.nipClosed
  raise .embossEngaged 0 number (s.onEpu (fun e => { e with
    state := .engaged
    npc := true
    closeTimer := if closed then none else some e.params.nipTimeout
    nipConfirmed := closed
    engageCount := 0
    lastIndex := some pe }))

/-- The state controller at an index (R80, R82). -/
def embossController (pe : Pos) (phase : Option PhaseRegister) (s : State) : State :=
  match s.epu.state, phase with
  | .syncing, some p =>
    if p.phase.natAbs ≤ s.epu.params.engageWindow then
      if s.epu.engageCount + 1 < Config.engageTarget then
        s.onEpu (fun e => { e with engageCount := e.engageCount + 1 })
      else enterEngaged pe p.number s
    else s.onEpu (fun e => { e with engageCount := 0 })
  | .syncing, none => s.onEpu (fun e => { e with engageCount := 0 })
  | .engaged, some p =>
    if s.faultLimit < p.phase.natAbs then embossOut 1 p.number s
    else s.onEpu (fun e => { e with lastIndex := some pe })
  | .engaged, none => embossOut 3 0 s
  | .none, _ | .opened, _ | .releasing, _ => s

/-- The emboss loop at an index, after the controller (R78). -/
def embossLoop (phase : Option PhaseRegister) (s : State) : State :=
  match phase with
  | none => s
  | some p =>
    if s.wtb.line ≠ .run ∨ (s.epu.state ≠ .syncing ∧ s.epu.state ≠ .engaged) then s
    else if 0 < s.epu.settle then s.onEpu (fun e => { e with settle := 0 })
    else if p.phase.natAbs ≤ s.epu.params.deadband then s
    else
      let c := correctionOf p.phase s.epu.params.gain s.epu.params.maxStep
      if c = 0 then s
      else (addOwed embossChannel c p.number s).onEpu (fun e => { e with settle := 1 })

/-- The phase is written into the last phase register and the outcome recorded (R77). -/
def recordPhase (phase : Option PhaseRegister) (s : State) : State :=
  match phase with
  | some p => s.onEpu (fun e => { e with lastPhase := some p, lastOutcome := some .valid })
  | none => s.onEpu (fun e => { e with lastOutcome := some .noReference })

/-- An index with this phase throws the unit out of ENGAGED (R82): it lies beyond the fault limit, or has no
reference. -/
def State.throwsOut (s : State) (phase : Option PhaseRegister) : Bool :=
  s.epu.state == .engaged && (match phase with
    | some p => decide (s.faultLimit < p.phase.natAbs)
    | none => true)

/-- An index is worked: phase, controller, loop (R77). One that raised EMBOSS-OUT reaches the loop as a RELEASING
index and makes no correction, wherever the release has since taken the unit (R82). -/
def workIndex (s : State) : State :=
  let pe := s.wtb.wp
  let phase := s.phaseAt pe
  let controlled := embossController pe phase (recordPhase phase s)
  if s.throwsOut phase then controlled else embossLoop phase controlled

/-- EIX is read at a new-web advance in RUN or HOLD while the state is not NONE; an active reading after an inactive
one is an index (R76). DESIGN CHOICE (log 53): each command that carries EIX at one advance is a reading of its own. -/
def readEix (energised : Bool) (s : State) : State :=
  let s := s.onPins (fun p => { p with eix := energised })
  if s.advancing ∧ s.epu.state ≠ .none then
    let active := s.eixActive
    let edge := active && !s.epu.eixPrev
    let s := s.onEpu (fun e => { e with eixPrev := active })
    if edge then workIndex s else s
  else s

/-- EMBOSS_INDEX (R76). -/
def execEmbossIndex (energised : Bool) (s : State) : Host.Outcome State Fault Refusal := .next (readEix energised s)

/-- The index loss limit: floor(3 * m * estimate / 32) counts (R82). -/
def State.lossLimit (s : State) : Int := 3 * s.epu.params.ratio * s.tku.estimate / 32

/-- The loss test (R82): in ENGAGED, at a new-web advance more than the loss limit above the last index. -/
def lossTest (s : State) : State :=
  match s.epu.lastIndex with
  | some p =>
    if s.advancing ∧ s.epu.state = .engaged ∧ s.lossLimit < sdiff s.wtb.wp p then embossOut 2 0 s else s
  | none => s

/-- INDEX_LOST (R82): an index at this advance is worked first, and the loss test made on what it leaves. -/
def execIndexLost (s : State) (energised : Bool := false) : Host.Outcome State Fault Refusal :=
  .next (lossTest (readEix energised s))

/-- NPF_CLOSED (R81): NPF shows closed; in ENGAGED an unconfirmed nip is confirmed. -/
def execNpfClosed (s : State) : Host.Outcome State Fault Refusal :=
  let s := s.onPins (fun p => { p with npf := !s.wtb.polarity.npf })
  .next (if s.epu.state = .engaged ∧ s.epu.nipConfirmed = false then
      s.onEpu (fun e => { e with nipConfirmed := true, closeTimer := none })
    else s)

/-- NPF shows open (R84): the release watch stops, and a unit in RELEASING enters OPEN under R87. -/
def nipSeenOpen (s : State) : State :=
  let s := s.onEpu (fun e => { e with releaseWatch := none })
  if s.epu.state = .releasing then actOnReengage (s.onEpu (fun e => { e with state := .opened })) else s

/-- NPF_OPEN (R81, R84): a release in progress ends; in ENGAGED with the nip confirmed, EMBOSS-NIP. -/
def execNpfOpen (s : State) : Host.Outcome State Fault Refusal :=
  let s := s.onPins (fun p => { p with npf := s.wtb.polarity.npf })
  .next (if s.epu.state = .engaged ∧ s.epu.nipConfirmed = true then embossNip 2 s else nipSeenOpen s)

/-- CLOSE_TIMER_EXPIRY (R81): the close timer runs out before the nip is confirmed. NPF may show closed in the same
interval with the timer taken first: the release watch then waits for it to show open. -/
def execCloseTimerExpiry (s : State) (energised : Bool := false) : Host.Outcome State Fault Refusal :=
  .next (if s.epu.state = .engaged ∧ s.epu.closeTimer.isSome = true then
      embossNip 1 ((s.onPins (fun p => { p with npf := energised })).onEpu (fun e => { e with closeTimer := none }))
    else s)

/-- RELEASE_WATCH_EXPIRY (R84): the deadline passes with NPF closed, and NIP-STUCK latches; a watch that finds
NPF open at its deadline ends as NPF_OPEN ends it. -/
def execReleaseWatchExpiry (s : State) : Host.Outcome State Fault Refusal :=
  .next (if s.epu.releaseWatch.isSome = true then
      if s.nipClosed then latchCause .nipStuck (s.onEpu (fun e => { e with releaseWatch := none }))
      else nipSeenOpen s
    else s)

/-! ### The requests -/

/-- A structural field of EMBOSS SET changes (R19, R74). -/
def EmbossParams.structuralChange (old new : EmbossParams) : Bool :=
  old.configured != new.configured || old.ratio != new.ratio || old.offset != new.offset ||
  old.required != new.required

/-- EMBOSS SET (R74, R75). -/
def execEmbossSet (tag : Byte) (f : EmbossFields) (s : State) : Host.Outcome State Fault Refusal :=
  .next (match f.resolve s.tku.params.n with
    | none => answer tag 0x20#8 .badValue [] s
    | some p =>
      let old := s.epu.params
      if old.structuralChange p ∧ s.wtb.line ≠ .idle ∧ s.wtb.line ≠ .thread then
        answer tag 0x20#8 .wrongState [] s
      else
        let state := if s.wtb.line = .thread ∧ old.configured ≠ p.configured then
            (if p.configured then EmbossState.opened else .none) else s.epu.state
        answer tag 0x20#8 .ok [] (s.onEpu (fun e => { e with params := p, state := state })))

/-- EMBOSS ENGAGE (R79). -/
def execEmbossEngage (tag : Byte) (s : State) : Host.Outcome State Fault Refusal :=
  .next (if s.wtb.line ≠ .run ∨ s.epu.state ≠ .opened then answer tag 0x21#8 .wrongState [] s
    else if s.epu.releaseWatch.isSome then answer tag 0x21#8 .busy [] s
    else answer tag 0x21#8 .ok [] (enterSyncing s))

/-- EMBOSS RELEASE (R85). -/
def execEmbossRelease (tag : Byte) (s : State) : Host.Outcome State Fault Refusal :=
  .next (if s.epu.state = .none then answer tag 0x22#8 .wrongState [] s
    else answer tag 0x22#8 .ok [] (releaseEmboss s))

end Sys2Proof.Machine
end

