-- ==== Sys2Proof/Machine/Tku.lean ====
section
/-! DEFINITION. The Track Unit (chapter 2): marks, records, mark blocks, the estimator, splices, and the track's
commands but for the crossings (Machine/Crossing.lean) and the requests (Machine/TrackRequests.lean). -/

namespace Sys2Proof.Machine

/-! ### Station windows (R31, R32) -/

/-- A position lies in a station window, both ends included (R31). -/
def windowHolds (r : RepeatRecord) (w : Window) (p : Pos) : Bool :=
  (sdiff p (posPlus r.origin w.target)).natAbs ≤ w.half

/-- WP has gone above the window's end (R32). -/
def windowPassed (r : RepeatRecord) (w : Window) (wp : Pos) : Bool :=
  0 < sdiff wp (posPlus r.origin (w.target + w.half))

/-- Of two windows that hold a mark, the nearer target takes it; at equal distance the lower station, which
stands first (R31). -/
def nearerWindow (r : RepeatRecord) (p : Pos) (best : Option Window) (w : Window) : Option Window :=
  if w.closed || w.captured || !windowHolds r w p then best
  else match best with
    | none => some w
    | some b =>
      if (sdiff p (posPlus r.origin w.target)).natAbs < (sdiff p (posPlus r.origin b.target)).natAbs then some w
      else best

/-- The window a station-shaped mark is taken by: record by record, oldest first (R31). -/
def takingWindow (p : Pos) (blocks : List RepeatRecord) : Option (RepeatRecord × Window) :=
  blocks.findSome? (fun r => (r.windows.foldl (nearerWindow r p) none).map (fun w => (r, w)))

/-- Change the window of one station in a record. -/
def RepeatRecord.onWindow (r : RepeatRecord) (k : Fin 8) (f : Window → Window) : RepeatRecord :=
  { r with windows := r.windows.map (fun w => if w.station = k then f w else w) }

/-- Change the window of one station in the record of a repeat number, on the track or departed (R32). -/
def Tku.onWindow (t : Tku) (n : Nat) (k : Fin 8) (f : Window → Window) : Tku :=
  Tku.forget { t.onRecord n (fun r => r.onWindow k f) with
    departed := t.departed.map (fun r => if r.number = n then r.onWindow k f else r) }

/-- A stray mark (R33). -/
def strayMark (s : State) : State := s.onTku (fun t => { t with stray := satInc Config.countLimit t.stray })

/-- A station-shaped mark is offered to the open windows: a capture, or a stray (R31, R55). -/
def offerMark (p : Pos) (s : State) : State :=
  match takingWindow p s.tku.blocks with
  | none => strayMark s
  | some (r, w) =>
    let rd := captureReading s w.station p r.origin w.target
    registerEntry w.station r.number r.coasted rd
      (s.onTku (fun t => t.onWindow r.number w.station (fun w => { w with captured := true })))

/-- The open window of a station in a record. -/
def Tku.openWindow (t : Tku) (n : Nat) (k : Fin 8) : Option (RepeatRecord × Window) :=
  match t.blocks.find? (fun r => r.number == n) with
  | none => none
  | some r => (r.windows.find? (fun w => w.station == k && !w.closed)).map (fun w => (r, w))

/-- A window closes; without a capture it raises MARK-MISSING and gives a missing report (R32, R56), whose entry is
discarded where the record has left the track (R34). -/
def closeWindow (n : Nat) (k : Fin 8) (s : State) : State :=
  match s.tku.openWindow n k with
  | none => s
  | some (r, w) =>
    let s := s.onTku (fun t => t.onWindow n k (fun w => { w with closed := true }))
    if w.captured then s
    else registerEntry k n r.coasted .missing (raise .markMissing (k.val + 1) n s)

/-- The windows not yet closed that satisfy `p`, record by record, oldest first. -/
def openWindows (p : RepeatRecord → Window → Bool) (blocks : List RepeatRecord) : List (Nat × Fin 8) :=
  blocks.flatMap (fun r => (r.windows.filter (fun w => !w.closed && p r w)).map (fun w => (r.number, w.station)))

/-- Close the windows not yet closed that satisfy `p`, in that order (R32; log 36). -/
def closeWindows (p : RepeatRecord → Window → Bool) (s : State) : State :=
  (openWindows p s.tku.blocks).foldl (fun t x => closeWindow x.1 x.2 t) s

/-! ### Creating a record (R29 to R31, R36, R37, R41, R45) -/

/-- How a record comes about (R25, R26, R27). -/
inductive Birth | seen | acquired | coasted
deriving DecidableEq, Repr

/-- The estimator's step for an accepted length (R37). -/
def estimatorRun (estimate m : Int) (f : Nat) : Int :=
  if f = 0 then 16 * m else estimate + ((16 * m - estimate) + 2 ^ (f - 1)) / 2 ^ f

/-- The target of a station: floor((dk * estimate + 8 * N) / (16 * N)) (R31). -/
def targetOf (d : Nat) (estimate : Int) (n : Nat) : Int := (d * estimate + 8 * n) / (16 * n)

/-- Write the length of a record at its span close (R30). -/
def writeLength (n : Nat) (m : Int) (rejected : Bool) (s : State) : State :=
  s.onTku (fun t => t.onRecord n (fun r => { r with length := some ⟨m, rejected⟩ }))

/-- The length of the closing span is written and offered to the estimator, by the cases of R36. -/
def closeLength (old : RepeatRecord) (origin : Pos) (birth : Birth) (s : State) : State :=
  let m := sdiff origin old.origin
  if old.coasted ∨ birth = .coasted then writeLength old.number m false s
  else if birth = .acquired then writeLength old.number m true s
  else if (limOf s.tku.params.n s.tku.params.g : Int) < (m - s.tku.params.n).natAbs then
    raise .repeatLength 0 old.number (writeLength old.number m true s)
  else (writeLength old.number m false s).onTku
    (fun t => { t with estimate := estimatorRun t.estimate m t.params.f })

/-- One splice that leaves the pending list: it marks the record whose span holds it, or is lost (R45). -/
def settleSplice (old : RepeatRecord) (s : State) (q : Pos) : State :=
  if 0 ≤ sdiff q old.origin then
    s.onTku (fun t => t.onRecord old.number (fun r => { r with
      splice := true, defects := { r.defects with splice := true } }))
  else raise .spliceSeen 2 0 s

/-- The pending splices below the next origin leave the list, in its order (R45). -/
def closeSplices (old : RepeatRecord) (origin : Pos) (s : State) : State :=
  let leaving := s.tku.splices.filter (fun q => sdiff q origin < 0)
  leaving.foldl (settleSplice old)
    (s.onTku (fun t => { t with splices := t.splices.filter (fun q => ¬ sdiff q origin < 0) }))

/-- The span of the previous record closes (R30). -/
def closeSpan (old : RepeatRecord) (origin : Pos) (birth : Birth) (s : State) : State :=
  closeSplices old origin (closeLength old origin birth s)

/-- The station windows of a new record: one per active station, with targets from the estimate (R31). -/
def State.newWindows (s : State) : List Window :=
  ((List.finRange 8).filter (fun k => s.rlu.stations[k].isActive)).map (fun k =>
    ⟨k, targetOf s.rlu.stations[k].params.d s.tku.estimate s.tku.params.n, s.rlu.stations[k].params.w,
      false, false⟩)

/-- A record as it joins the track, every other field absent or empty (R29). -/
def newRecord (s : State) (number : Nat) (origin : Pos) (birth : Birth) : RepeatRecord where
  number := number
  origin := origin
  length := none
  coasted := birth == .coasted
  acquired := birth == .acquired
  splice := false
  regs := []
  emboss := none
  shade := none
  defects := ⟨false, false, false, false, false⟩
  markA := none
  markB := none
  at_ := ⟨s.crossingPosition origin .emboss, s.crossingPosition origin .shade,
    s.crossingPosition origin (.knife .a), s.crossingPosition origin (.knife .b)⟩
  windows := []

/-- An enabled point whose cursor was empty holds the new record (R29, step 4). -/
def State.cursorsWith (s : State) (n : Nat) : Cursors :=
  let fill : Point → Option Nat := fun p =>
    match s.tku.cursors.get p with
    | some m => some m
    | none => if s.pointEnabled p then some n else none
  ⟨fill .emboss, fill .shade, fill (.knife .a), fill (.knife .b)⟩

/-- The new record takes the next number and joins the track; the counter advances (R29, step 2). -/
def joinTrack (origin : Pos) (birth : Birth) (s : State) : State :=
  s.onTku (fun t => { t with
    track := t.track ++ [newRecord s t.nextRepeat origin birth], nextRepeat := nextRepeatAfter t.nextRepeat })

/-- The steps of R29 for a track that has room. The span that closes is that of the newest record, also where that one
has left the track already: then only the writes to it are discarded (R30, R34, R45; log 35). -/
def addRecord (origin : Pos) (birth : Birth) (s : State) : State :=
  let s := if birth = .acquired then closeWindows (fun _ _ => true) s else s
  let old := s.tku.newest
  let n := s.tku.nextRepeat
  let s := joinTrack origin birth s
  let s := match old with
    | some r => closeSpan r origin birth s
    | none => s
  s.onTku (fun t => Tku.forget
    { t.onRecord n (fun r => { r with windows := s.newWindows }) with cursors := s.cursorsWith n })

/-- The track has no room for a record (R29). -/
def State.trackFull (s : State) : Bool := Config.trackCapacity ≤ s.tku.track.length

/-- A record from a seen master mark (R25, R26), or TRACK-OVERFLOW (R29): the scanner tracks and the coast count
is 0. -/
def createSeen (origin : Pos) (birth : Birth) (s : State) : State :=
  if s.trackFull then latchCause .trackOverflow s
  else (addRecord origin birth s).onTku (fun t => { t with scanner := .tracking, coastCount := 0 })

/-- MASTER-LOST (R28, R59). -/
def masterLost (n : Nat) (s : State) : State :=
  (dropAllAuto (raise .masterLost 0 n s)).onTku (fun t => { t with scanner := .acquire, coastCount := 0 })

/-- A coasted record at the expected origin, or TRACK-OVERFLOW (R27 to R29). -/
def createCoasted (origin : Pos) (s : State) : State :=
  if s.trackFull then latchCause .trackOverflow s
  else
    let n := s.tku.nextRepeat
    let s := (addRecord origin .coasted s).onTku (fun t => { t with coastCount := t.coastCount + 1 })
    let count := s.tku.coastCount
    let s := raise .masterCoast count n s
    if s.tku.params.c ≤ count then masterLost n s else s

/-! ### Marks (R22, R23, R25 to R27) -/

/-- Mark classes (R23). -/
inductive MarkClass | master | station | stray
deriving DecidableEq, Repr

/-- A mark is classified by its width alone (R23). -/
def classify (p : RepeatParams) (w : Int) : MarkClass :=
  if (w - p.masterWidth).natAbs ≤ p.widthTol then .master
  else if (w - p.stationWidth).natAbs ≤ p.widthTol then .station
  else .stray

/-- The expected origin of the next repeat, from the newest record on the track or departed (R26). -/
def Tku.expected (t : Tku) : Option Pos := t.newest.map (fun r => posPlus r.origin t.repeatCounts)

/-- A position lies in the master window around `e`, both ends included (R26). -/
def Tku.inMasterWindow (t : Tku) (e p : Pos) : Bool := (sdiff p e).natAbs ≤ t.params.wMaster

/-- WP is above the end of the master window around `e` (R27). -/
def Tku.windowOver (t : Tku) (e wp : Pos) : Bool := (t.params.wMaster : Int) < sdiff wp e

/-- A mark in ACQUIRE (R25). -/
def markInAcquire (cls : MarkClass) (p : Pos) (s : State) : State :=
  match cls with
  | .master => createSeen p .acquired s
  | .station => offerMark p s
  | .stray => strayMark s

/-- A mark in TRACKING (R26). -/
def markInTracking (cls : MarkClass) (p : Pos) (s : State) : State :=
  match cls with
  | .master =>
    match s.tku.expected with
    | some e => if s.tku.inMasterWindow e p then createSeen p .seen s else strayMark s
    | none => strayMark s
  | .station => offerMark p s
  | .stray => strayMark s

/-- The windows that waited for this mark close at its trailing edge, after it has been offered (R32). -/
def closeHeldWindows (p : Pos) (s : State) : State :=
  if s.running then closeWindows (fun r w => windowHolds r w p && windowPassed r w s.wtb.wp) s else s

/-- The coast that waited for this mark (R27): no record came of it, and the master window it lay in is over. -/
def coastAfterMark (p : Pos) (created : Bool) (s : State) : State :=
  if created || !s.running || s.tku.scanner ≠ .tracking then s
  else match s.tku.expected with
    | some e =>
      if s.tku.inMasterWindow e p && s.tku.windowOver e s.wtb.wp then createCoasted e s else s
    | none => s

/-- A master-shaped mark creates a record here: any in ACQUIRE, one inside the master window in TRACKING
(R25, R26). -/
def marksRecord (cls : MarkClass) (p : Pos) (t : Tku) : Bool :=
  cls == .master && (match t.scanner with
    | .acquire => true
    | .tracking => (t.expected.map (fun e => t.inMasterWindow e p)).getD false
    | .off => false)

/-- A mark from `p` to WP has ended (R23): it is handled by class and scanner state, then what waited for it. DESIGN
CHOICE (log 47): the windows that waited close before the repeat that waited is coasted; R27 and R32 do not order the
two. -/
def settleMark (p : Pos) (s : State) : State :=
  let cls := classify s.tku.params (sdiff s.wtb.wp p)
  let created := marksRecord cls p s.tku
  let s := match s.tku.scanner with
    | .acquire => markInAcquire cls p s
    | .tracking => markInTracking cls p s
    | .off => s
  coastAfterMark p created (closeHeldWindows p s)

/-- The scanner reads SCN now: ACQUIRE or TRACKING, at a new-web advance (R22). -/
def State.scans (s : State) : Bool := s.advancing && s.tku.scanner != .off

/-- MARK_LEADING_EDGE (R22): SCN reads active; at a new-web advance after an inactive reading it fixes P. -/
def execMarkLeadingEdge (s : State) : Host.Outcome State Fault Refusal :=
  let s := s.onPins (fun p => { p with scn := !s.wtb.polarity.scn })
  .next (if s.scans ∧ s.tku.scnPrev = false then
      s.onTku (fun t => { t with scnPrev := true, halfSeen := some s.wtb.wp })
    else s)

/-- MARK_TRAILING_EDGE (R22, R23): SCN reads inactive; at a new-web advance later than that of P it ends the half-seen
mark. A mark that begins and ends at one advance gives no reading (log 43). -/
def execMarkTrailingEdge (s : State) : Host.Outcome State Fault Refusal :=
  let s := s.onPins (fun p => { p with scn := s.wtb.polarity.scn })
  .next (if s.scans ∧ s.tku.scnPrev = true then
      let mark := s.tku.halfSeen
      let s := s.onTku (fun t => { t with scnPrev := false, halfSeen := none })
      match mark with
      | some p => if p = s.wtb.wp then s else settleMark p s
      | none => s
    else s)

/-- A half-seen mark whose position satisfies `p` holds a decision back (R27, R32). -/
def Tku.heldBy (t : Tku) (p : Pos → Bool) : Bool := (t.halfSeen.map p).getD false

/-- WINDOW_CLOSE (R32): at a new-web advance above a window's end the window closes, unless a mark half-seen
inside it holds it open. -/
def execWindowClose (n station : Nat) (s : State) : Host.Outcome State Fault Refusal :=
  .next (match stationIndex station with
    | none => s
    | some k =>
      match s.tku.openWindow n k with
      | none => s
      | some (r, w) =>
        if s.advancing ∧ windowPassed r w s.wtb.wp = true ∧ s.tku.heldBy (windowHolds r w) = false then
          closeWindow n k s
        else s)

/-- MASTER_COAST (R27): in TRACKING, at a new-web advance above the master window, with no mark half-seen
inside it, the repeat is coasted. -/
def execMasterCoast (s : State) : Host.Outcome State Fault Refusal :=
  .next (match s.tku.expected with
    | none => s
    | some e =>
      if s.advancing ∧ s.tku.scanner = .tracking ∧ s.tku.windowOver e s.wtb.wp = true ∧
          s.tku.heldBy (s.tku.inMasterWindow e) = false then createCoasted e s
      else s)

/-- SPL_EDGE (R44): in RUN or HOLD the splice's position at the scanner joins the pending list, if it holds
fewer than four. -/
def execSplEdge (energised : Bool) (s : State) : Host.Outcome State Fault Refusal :=
  .next (if reading energised s.wtb.polarity.spl ∧ s.running then
      if s.tku.splices.length < Config.spliceCapacity then
        raise .spliceSeen 0 0
          (s.onTku (fun t => { t with splices := t.splices ++ [posPlus s.wtb.wp t.path.du] }))
      else raise .spliceSeen 1 0 s
    else s)

end Sys2Proof.Machine
end

