-- ==== Sys2Proof/Machine/TrackRequests.lean ====
section
/-! DEFINITION. The requests of the Track Unit (chapter 2: REPEAT SET, PATH SET, TRACK SEEK, TRACK READ) and the
JOB START checks of R10, which REPEAT SET shares in HOLD (R20). -/

namespace Sys2Proof.Machine

/-! ### The checks of R10, against the repeat parameters `r` -/

/-- The active stations (R10). -/
def State.activeStations (s : State) : List (Fin 8) :=
  (List.finRange 8).filter (fun k => s.rlu.stations[k].isActive)

/-- Check 3, first half: a station's window lies strictly between Wm and N - Wm - Lim. -/
def windowFits (r : RepeatParams) (p : StationParams) : Bool :=
  let d : Int := p.d
  let w : Int := p.w
  (r.wMaster : Int) < d - w && d + w < r.n - r.wMaster - limOf r.n r.g

/-- Check 3, second half: two windows share no offset. -/
def windowsApart (p q : StationParams) : Bool := p.w + q.w < ((p.d : Int) - q.d).natAbs

/-- The enabled lanes. -/
def State.enabledLanes (s : State) : List Lane := [Lane.a, Lane.b].filter (fun l => (s.lane l).params.enabled)

/-- Check 3 of R10. -/
def checkWindows (r : RepeatParams) (s : State) : Bool :=
  let active := s.activeStations.map (fun k => s.rlu.stations[k].params)
  active.all (windowFits r) && decide (active.Pairwise (fun p q => windowsApart p q = true))

/-- Check 5 of R10: the downstream points stand a repeat apart. -/
def checkPath (n : Nat) (p : PathTable) : Bool :=
  n ≤ p.de && p.de + n ≤ p.ds && p.ds + n ≤ p.dka && p.ds + n ≤ p.dkb

/-- Check 6 of R10: the farther knife, with its cut offset, stands within 480 repeats. -/
def checkTrackLength (n : Nat) (s : State) : Bool :=
  s.enabledLanes.all (fun l => max s.tku.path.dka s.tku.path.dkb + (s.lane l).params.cutOffset ≤ 480 * n)

/-- A check of R10 by its order, which is its reason code. -/
def checkHolds (r : RepeatParams) (s : State) (code : Nat) : Bool :=
  match code with
  | 1 => r.n != 0
  | 2 => ((List.finRange 8).filter (fun k => s.rlu.stations[k].mode == .master)).length == 1
  | 3 => checkWindows r s
  | 4 => decide (2 * (r.widthTol : Int) < (r.masterWidth : Int) - r.stationWidth)
  | 5 => checkPath r.n s.tku.path
  | 6 => checkTrackLength r.n s
  | 7 => !s.enabledLanes.isEmpty
  | 8 => s.enabledLanes.all (fun l => 2 * r.n ≤ (s.lane l).params.target)
  | 9 => !s.epu.params.configured || decide (s.epu.params.offset < r.n)
  | _ => true

/-- The first of these checks that fails, as its reason code (R10). -/
def firstFailing (codes : List Nat) (r : RepeatParams) (s : State) : Option Nat :=
  codes.find? (fun c => !checkHolds r s c)

/-- The JOB START checks, in their order (R10). -/
def jobStartChecks : List Nat := [1, 2, 3, 4, 5, 6, 7, 8, 9]

/-- The checks a change of N in HOLD must pass (R20). -/
def holdChangeChecks : List Nat := [3, 5, 6, 8, 9]

/-! ### REPEAT SET and PATH SET -/

/-- A structural field other than N changes (R19, R39). -/
def otherStructuralChange (old new : RepeatParams) : Bool :=
  old.g != new.g || old.wMaster != new.wMaster || old.masterWidth != new.masterWidth ||
  old.stationWidth != new.stationWidth || old.widthTol != new.widthTol

/-- What a REPEAT SET whose fields are in range is refused with, if it is (R19, R20): the status and the reason
byte. -/
def repeatRefusal (f : RepeatParams) (s : State) : Option (Status × List Byte) :=
  let old := s.tku.params
  if f.n = old.n ∧ otherStructuralChange old f = false then none
  else match s.wtb.line with
    | .idle | .thread => none
    | .run | .fault => some (.wrongState, [])
    | .hold =>
      if otherStructuralChange old f then some (.wrongState, [])
      else (firstFailing holdChangeChecks f s).map (fun c => (.invalidJob, le1 c))

/-- Seed the estimate to 16 * N (R38). -/
def seedEstimate (s : State) : State :=
  s.onTku (fun t => { t with estimate := 16 * (t.params.n : Int) })

/-- A change of N is noted against the offsets held (R95, R127). -/
def noteOvertaken (n : Nat) (s : State) : State :=
  if n = s.tku.params.n then s else s.onTku (fun t => { t with overtaken := s.overtaken n })

/-- A REPEAT SET is written: the offsets that a new N overtakes are noted (R95, R127), the estimate is seeded when
N or G changes (R38), and a change of N in HOLD loads the settle countdown of every AUTO station (R20, R64). -/
def writeRepeat (f : RepeatParams) (s : State) : State :=
  let old := s.tku.params
  let s := noteOvertaken f.n s
  let s := s.onTku (fun t => { t with params := f })
  let s := if f.n = old.n ∧ f.g = old.g then s else seedEstimate s
  if s.wtb.line = .hold ∧ f.n ≠ old.n then loadAutoSettles s else s

/-- REPEAT SET (R19, R20, R38, R39). -/
def execRepeatSet (tag : Byte) (f : RepeatParams) (s : State) : Host.Outcome State Fault Refusal :=
  .next (if !f.inRange then answer tag 0x10#8 .badValue [] s
    else match repeatRefusal f s with
      | some (st, fields) => answer tag 0x10#8 st fields s
      | none => answer tag 0x10#8 .ok [] (writeRepeat f s))

/-- PATH SET (R19, R40): every distance is structural. -/
def execPathSet (tag : Byte) (f : PathTable) (s : State) : Host.Outcome State Fault Refusal :=
  .next (if !f.inRange then answer tag 0x11#8 .badValue [] s
    else if f ≠ s.tku.path ∧ s.wtb.line ≠ .idle ∧ s.wtb.line ≠ .thread then
      answer tag 0x11#8 .wrongState [] s
    else answer tag 0x11#8 .ok [] (s.onTku (fun t => { t with path := f })))

/-! ### Reading the track -/

/-- The oldest record's number, or the next repeat number where the track is empty. -/
def Tku.oldestOrNext (t : Tku) : Nat := (t.track.head?.map (·.number)).getD t.nextRepeat

/-- The newest record's number, or the next repeat number where the track is empty. -/
def Tku.newestOrNext (t : Tku) : Nat := (t.track.getLast?.map (·.number)).getD t.nextRepeat

/-- The status and the cursor after a TRACK SEEK (R48). -/
def seekTrack (target : SeekTarget) (t : Tku) : Status × Nat :=
  match target with
  | .oldest => (.ok, t.oldestOrNext)
  | .newest => (.ok, t.newestOrNext)
  | .number n =>
    if n = 0 then (.badValue, t.readCursor)
    else if (t.record? n).isSome = true ∨ n = t.nextRepeat then (.ok, n)
    else if t.nextRepeat < n then (.notFound, t.readCursor)
    else (.gone, t.oldestOrNext)

/-- TRACK SEEK (R48): every reply carries the cursor after the request. -/
def execTrackSeek (tag : Byte) (target : Coded SeekTarget) (s : State) : Host.Outcome State Fault Refusal :=
  .next (match target with
    | none => answer tag 0x12#8 .badValue (le4 s.tku.readCursor) s
    | some x =>
      let r := seekTrack x s.tku
      answer tag 0x12#8 r.1 (le4 r.2) (s.onTku (fun t => { t with readCursor := r.2 })))

/-- A register entry in a reply (R191). -/
def RegEntry.bytes (e : RegEntry) : List Byte :=
  le1 (e.station.val + 1) ++ (match e.reading with
    | .missing => le1 0 ++ le2 0
    | .error v true => le1 1 ++ sle2 v
    | .error v false => le1 2 ++ sle2 v)

/-- A shade entry in a reply (R191). -/
def ShadeEntry.bytes (e : ShadeEntry) : List Byte :=
  le1 e.slot.val ++ (match e.reading with
    | .ok v => le1 0 ++ le2 v.r ++ le2 v.g ++ le2 v.b
    | .excursion v => le1 1 ++ le2 v.r ++ le2 v.g ++ le2 v.b
    | .invalid => le1 2 ++ le2 0 ++ le2 0 ++ le2 0)

/-- The length and its status in a reply (R191). -/
def lengthBytes : Option SpanLength → List Byte
  | none => le4 0 ++ le1 0
  | some l => sle4 l.counts ++ le1 (if l.rejected then 2 else 1)

/-- The emboss entry in a reply (R191). -/
def embossBytes : Option EmbossEntry → List Byte
  | none => le1 0 ++ le4 0
  | some (.embossed p) => le1 1 ++ sle4 p
  | some .unembossed => le1 2 ++ le4 0

/-- The shade list in a reply: 0xFF where it is absent (R191). -/
def shadeBytes : Option (List ShadeEntry) → List Byte
  | none => le1 0xFF
  | some es => le1 es.length ++ es.flatMap ShadeEntry.bytes

/-- The bits of a set of flags, bit 0 first. -/
def flagBits (bs : List Bool) : Nat := bs.foldr (fun b n => 2 * n + (if b then 1 else 0)) 0

/-- A repeat record in a reply (R191), its register entries in the order in which they were written (log 37). -/
def RepeatRecord.bytes (r : RepeatRecord) : List Byte :=
  le4 r.number ++ le4 r.origin.toNat ++ lengthBytes r.length ++
  le1 (flagBits [r.coasted, r.acquired, r.splice]) ++
  le1 (flagBits [r.defects.register, r.defects.emboss, r.defects.shadeA, r.defects.shadeB, r.defects.splice]) ++
  le1 r.regs.length ++ r.regs.flatMap RegEntry.bytes ++ embossBytes r.emboss ++ shadeBytes r.shade ++
  le2 (r.markA.getD 0) ++ le2 (r.markB.getD 0)

/-- What TRACK READ answers (R49): the status, the records, and the cursor after. -/
def readTrack (count : Nat) (t : Tku) : Status × List RepeatRecord × Nat :=
  if t.readCursor = t.nextRepeat then (.ok, [], t.readCursor)
  else if (t.record? t.readCursor).isNone then (.gone, [], t.oldestOrNext)
  else
    let rs := (t.track.dropWhile (fun r => r.number != t.readCursor)).take count
    (.ok, rs, (rs.getLast?.map (fun r => nextRepeatAfter r.number)).getD t.readCursor)

/-- TRACK READ (R49, R191). -/
def execTrackRead (tag : Byte) (count : Nat) (s : State) : Host.Outcome State Fault Refusal :=
  .next (if !within 1 4 count then answer tag 0x13#8 .badValue [] s
    else
      let r := readTrack count s.tku
      answer tag 0x13#8 r.1 (le1 r.2.1.length ++ le4 r.2.2 ++ r.2.1.flatMap RepeatRecord.bytes)
        (s.onTku (fun t => { t with readCursor := r.2.2 })))

end Sys2Proof.Machine
end

