-- ==== Sys2Proof/Machine/Btu.lean ====
section
/-! DEFINITION. The Batch Table Unit (chapter 8): the batch distance, the taking of a good candidate, and the
batch requests. -/

namespace Sys2Proof.Machine

/-! ### Codes and distance -/

/-- An ASCII digit. -/
def digit (n : Nat) : Byte := BitVec.ofNat 8 (0x30 + n % 10)

/-- The code of a batch: the prefix in force and the sequence in three digits (R152). -/
def batchCode (p : BatchParams) (sequence : Nat) : BatchCode :=
  [p.char1, p.char2, digit (sequence / 100), digit (sequence / 10), digit sequence]

/-- The square of the difference of two shade values. -/
def squareDiff (x r : Nat) : Nat := ((x : Int) - r).natAbs ^ 2

/-- The weighted squared distance D2 of a mean to a reference (R154). -/
def distance2 (p : BatchParams) (x r : Rgb) : Nat :=
  p.wR * squareDiff x.r r.r + p.wG * squareDiff x.g r.g + p.wB * squareDiff x.b r.b

/-- One bit of the integer square root, the greatest first. -/
def sqrtBit (n r b : Nat) : Nat := if (r + b) * (r + b) ≤ n then r + b else r

/-- The integer square root of a number below 2^28, as every floor(D2 / 16) is (R154). -/
def sqrtFloor (n : Nat) : Nat :=
  [8192, 4096, 2048, 1024, 512, 256, 128, 64, 32, 16, 8, 4, 2, 1].foldl (sqrtBit n) 0

/-- The distance reported, S (R154). -/
def reportedDistance (d2 : Nat) : Nat := sqrtFloor (d2 / 16)

/-- A batch qualifies for a mean: D2 is at most 16 * T^2 (R154). -/
def qualifies (p : BatchParams) (mean : Rgb) (b : Batch) : Bool :=
  distance2 p mean b.reference ≤ 16 * p.tol ^ 2

/-- The batches compared for a candidate (R155, step 2): in CURRENT-ONLY the one with the highest sequence opened
in the job, if it is still open. -/
def Btu.compared (b : Btu) : List Batch :=
  match b.params.mode with
  | .nearest => b.batches
  | .currentOnly => b.batches.filter (fun x => x.sequence + 1 == b.sequence)

/-- Of two batches the nearer; at one distance the earlier in the table, which is the older (R155, step 3). -/
def nearerBatch (p : BatchParams) (mean : Rgb) (best : Option Batch) (b : Batch) : Option Batch :=
  if qualifies p mean b then
    match best with
    | none => some b
    | some a => if distance2 p mean b.reference < distance2 p mean a.reference then some b else best
  else best

/-- The batch a candidate joins, if one qualifies (R155). -/
def Btu.nearest (b : Btu) (mean : Rgb) : Option Batch := b.compared.foldl (nearerBatch b.params mean) none

/-! ### Taking a candidate -/

/-- A good candidate as the roll unit hands it (R155). -/
structure Candidate where
  roll : Nat
  lane : Lane
  length : Int
  mean : Rgb
deriving DecidableEq, Repr

/-- The unit's answer with the state it leaves: the code and distance of a GOOD roll, or none for
HOLD-UNBATCHED. -/
structure BatchTaking where
  state : State
  answer : Option (BatchCode × Nat)

/-- Reasons of BATCH-CLOSED (R156, R158, R161). -/
inductive CloseReason | closed | full | displaced
deriving DecidableEq, Repr

/-- The codes of the reasons of BATCH-CLOSED. -/
def CloseReason.code : CloseReason → Nat
  | .closed => 1 | .full => 2 | .displaced => 3

/-- A batch leaves the table, and BATCH-CLOSED is raised. -/
def closeBatch (reason : CloseReason) (sequence : Nat) (s : State) : State :=
  raise .batchClosed reason.code sequence
    (s.onBtu (fun b => { b with batches := b.batches.filter (fun x => x.sequence != sequence) }))

/-- A batch whose roll count stands at or above the rolls per batch in force closes FULL (R156). -/
def closeIfFull (sequence : Nat) (s : State) : State :=
  match s.btu.batches.find? (fun b => b.sequence == sequence) with
  | none => s
  | some b => if s.btu.params.rollsPerBatch ≤ b.rolls then closeBatch .full sequence s else s

/-- The entry of a batch after a roll has joined it (R156). -/
def Batch.join (b : Batch) (c : Candidate) (take : BitVec 32) : Batch :=
  { b with
    rolls := b.rolls + 1
    totalLength := b.totalLength + BitVec.ofInt 64 c.length
    lastRoll := c.roll
    lastTake := take
    seenA := b.seenA || c.lane == .a
    seenB := b.seenB || c.lane == .b }

/-- A roll joins a batch (R156). -/
def joinBatch (b : Batch) (c : Candidate) (s : State) : BatchTaking where
  state := closeIfFull b.sequence (s.onBtu (fun t => { t with
    batches := t.batches.map (fun x => if x.sequence = b.sequence then x.join c t.takes else x) }))
  answer := some (b.code, reportedDistance (distance2 s.btu.params c.mean b.reference))

/-- The open batch that has gone longest without a roll (R157, step 2). -/
def leastRecent (bs : List Batch) : Option Batch :=
  bs.foldl (fun best b => match best with
    | none => some b
    | some a => if b.lastTake.toNat < a.lastTake.toNat then some b else best) none

/-- Room is made in a full table (R157, step 2, R158). -/
def displaceBatch (s : State) : State :=
  if s.btu.batches.length < Config.batchCapacity then s
  else match leastRecent s.btu.batches with
    | none => s
    | some b => closeBatch .displaced b.sequence s

/-- The entry of a batch as its first roll opens it (R152). -/
def firstEntry (c : Candidate) (b : Btu) : Batch where
  code := batchCode b.params b.sequence
  sequence := b.sequence
  reference := c.mean
  rolls := 1
  totalLength := BitVec.ofInt 64 c.length
  lastRoll := c.roll
  lastTake := b.takes
  seenA := c.lane == .a
  seenB := c.lane == .b

/-- A new batch opens for a roll, or none can (R157). -/
def openBatch (c : Candidate) (s : State) : BatchTaking :=
  if Config.lastSequence < s.btu.sequence then ⟨s, none⟩
  else
    let s := displaceBatch s
    let sequence := s.btu.sequence
    let entry := firstEntry c s.btu
    let s := s.onBtu (fun b => { b with
      batches := b.batches ++ [entry], sequence := b.sequence + 1, breakPending := false })
    ⟨closeIfFull sequence (raise .batchOpened c.lane.code sequence s), some (entry.code, 0)⟩

/-- A good candidate is taken (R155). -/
def takeCandidate (c : Candidate) (s : State) : BatchTaking :=
  let s := s.onBtu (fun b => { b with takes := b.takes + 1 })
  if s.btu.breakPending then openBatch c s
  else match s.btu.nearest c.mean with
    | some b => joinBatch b c s
    | none => openBatch c s

/-! ### The requests -/

/-- BATCH SET (R153): the tolerance and the weights are frozen while a batch is open. -/
def execBatchSet (tag : Byte) (f : BatchFields) (s : State) : Host.Outcome State Fault Refusal :=
  .next (match f.resolve with
    | none => answer tag 0x40#8 .badValue [] s
    | some p =>
      let old := s.btu.params
      if (p.tol ≠ old.tol ∨ p.wR ≠ old.wR ∨ p.wG ≠ old.wG ∨ p.wB ≠ old.wB) ∧ s.btu.batches ≠ [] then
        answer tag 0x40#8 .full (le1 1) s
      else answer tag 0x40#8 .ok [] (s.onBtu (fun b => { b with params := p })))

/-- A batch entry in a reply (R191). -/
def Batch.bytes (b : Batch) : List Byte :=
  b.code ++ le2 b.sequence ++ le2 b.reference.r ++ le2 b.reference.g ++ le2 b.reference.b ++ le2 b.rolls ++
  le8 b.totalLength.toNat ++ le2 b.lastRoll ++ le4 b.lastTake.toNat ++ le1 (flagBits [b.seenA, b.seenB])

/-- The code of a batch mode (R153, R191). -/
def batchModeCode : BatchMode → Nat
  | .nearest => 0 | .currentOnly => 1

/-- BATCH LIST (R163). -/
def execBatchList (tag : Byte) (s : State) : Host.Outcome State Fault Refusal :=
  .next (answer tag 0x41#8 .ok
    (le1 s.btu.batches.length ++ s.btu.batches.flatMap Batch.bytes ++ le2 s.btu.sequence ++
      mark s.btu.breakPending ++ le4 s.btu.takes.toNat ++ le1 (batchModeCode s.btu.params.mode)) s)

/-- BATCH CLOSE (R161): the reply follows the BATCH-CLOSED it raises. -/
def execBatchClose (tag : Byte) (code : List Byte) (s : State) : Host.Outcome State Fault Refusal :=
  .next (if !isBatchCode code then answer tag 0x42#8 .badValue [] s
    else match s.btu.batches.find? (fun b => b.code == code) with
      | none => answer tag 0x42#8 .notFound [] s
      | some b =>
        answer tag 0x42#8 .ok (le2 b.rolls ++ le8 b.totalLength.toNat) (closeBatch .closed b.sequence s))

/-- BATCH BREAK (R162): the mark shows whether the flag was already set. -/
def execBatchBreak (tag : Byte) (s : State) : Host.Outcome State Fault Refusal :=
  .next (if s.wtb.line = .idle then answer tag 0x43#8 .wrongState [] s
    else answer tag 0x43#8 .ok (mark s.btu.breakPending) (setBreak s))

end Sys2Proof.Machine
end

