-- ==== Sys2Proof/Machine/Lbp.lean ====
section
/-! DEFINITION. The Label Port (chapter 9): label jobs, the lists, the grant, the print exchange and the label
requests. -/

namespace Sys2Proof.Machine

/-! ### Jobs -/

/-- The five characters HOLD- (R165). -/
def codeHold : BatchCode := [0x48#8, 0x4F#8, 0x4C#8, 0x44#8, 0x2D#8]
/-- The five characters REJCT (R165). -/
def codeReject : BatchCode := [0x52#8, 0x45#8, 0x4A#8, 0x43#8, 0x54#8]
/-- The five characters PARTL (R165). -/
def codePartial : BatchCode := [0x50#8, 0x41#8, 0x52#8, 0x54#8, 0x4C#8]

/-- The code field of a roll's label, from its disposition (R165). -/
def RollRecord.labelCode (r : RollRecord) : BatchCode :=
  match r.disposition with
  | .good => r.code.getD codeHold
  | .holdUnbatched | .holdGap | .holdUnshaded => codeHold
  | .rejectShort | .rejectDefect => codeReject
  | .partialRoll => codePartial

/-- The printed length: floor(counts / 400) cm, saturating (R165); of a negative length a free value (log 17). -/
def labelLength (counts : Int) : Nat :=
  if counts < 0 then (Config.labelLengthOfNegative counts).toNat else min 65535 (counts / 400).toNat

/-- The template of a lane in force. -/
def LabelParams.template (p : LabelParams) : Lane → Nat
  | .a => p.templateA | .b => p.templateB

/-- Labelling of a lane is ENABLED. -/
def LabelParams.enabled (p : LabelParams) : Lane → Bool
  | .a => p.enabledA | .b => p.enabledB

/-- The label job of a roll record (R165). -/
def buildJob (p : LabelParams) (r : RollRecord) : LabelJob where
  roll := r.number
  lane := r.lane
  code := r.labelCode
  length := labelLength r.length
  repeats := r.counts.repeats
  defectRepeats := r.counts.defectRepeats
  splice := r.flags.splice
  distance := if r.disposition = .good then r.distance else none
  template := p.template r.lane
  linked := true

/-- A label state is written through a job's history link; a lost link discards it (R143, R165). -/
def writeLabel (j : LabelJob) (st : LabelState) (s : State) : State :=
  if j.linked then
    s.onRku (fun r => { r with
      history := r.history.map (fun x => if x.number = j.roll then { x with label := st } else x) })
  else s

/-- The jobs that satisfy `p` lose their history link (R165). -/
def Lbp.unlink (b : Lbp) (p : LabelJob → Bool) : Lbp :=
  let cut : LabelJob → LabelJob := fun j => if p j then { j with linked := false } else j
  { b with
    listA := b.listA.map cut
    listB := b.listB.map cut
    inFlight := b.inFlight.map (fun f => { f with job := cut f.job }) }

/-! ### Lists and grant -/

/-- The label list of a lane. -/
def Lbp.list (b : Lbp) : Lane → List LabelJob
  | .a => b.listA | .b => b.listB

/-- Write the label list of a lane. -/
def Lbp.putList (b : Lbp) (l : Lane) (js : List LabelJob) : Lbp :=
  match l with
  | .a => { b with listA := js }
  | .b => { b with listB := js }

/-- The other lane. -/
def otherLane : Lane → Lane
  | .a => .b | .b => .a

/-- PRINT (R191). -/
def printFrame (exchange : Byte) (j : LabelJob) : List Byte :=
  linkFrame 0x01#8 ([exchange] ++ le2 j.roll ++ le1 j.lane.code ++ j.code ++ le2 j.length ++ le2 j.repeats ++
    le2 j.defectRepeats ++ mark j.splice ++ le2 (j.distance.getD 0xFFFF) ++ le1 j.template)

/-- PRINT is sent for the job in flight: the exchange number advances first, and the timer waits for the last
byte (R169). A PRINT still being sent gives way to it at once (log 45). -/
def Lbp.sendPrint (b : Lbp) (f : InFlight) : Lbp :=
  { b with
    inFlight := some f
    exchange := b.exchange + 1
    printing := some (printFrame (b.exchange + 1) f.job)
    timer := none }

/-- The lane the grant goes to (R168). -/
def Lbp.grantLane (b : Lbp) : Option Lane :=
  let first := otherLane b.lastGranted
  if b.list first ≠ [] then some first
  else if b.list b.lastGranted ≠ [] then some b.lastGranted
  else none

/-- The printer is granted to a lane (R168). -/
def grantTo (l : Lane) (s : State) : State :=
  match s.lbp.list l with
  | [] => s
  | j :: js =>
    writeLabel j .printing
      (s.onLbp (fun b => { (b.putList l js).sendPrint ⟨j, 1⟩ with lastGranted := l }))

/-- The grant logic acts when the link is idle (R168). -/
def grant (s : State) : State :=
  match s.lbp.inFlight, s.lbp.grantLane with
  | none, some l => grantTo l s
  | _, _ => s

/-- A job joins the tail of its lane's list: QUEUED, and a grant if the link is idle (R167, R171). -/
def joinLabel (j : LabelJob) (s : State) : State :=
  grant (writeLabel j .queued (s.onLbp (fun b => b.putList j.lane (b.list j.lane ++ [j]))))

/-- A finalised roll's job is offered to its lane's list (R167). -/
def offerLabel (j : LabelJob) (s : State) : State :=
  if (s.lbp.list j.lane).length < Config.labelCapacity then joinLabel j s
  else raise .labelQueueFull j.lane.code j.roll (writeLabel j .notQueued s)

/-! ### The print exchange -/

/-- The job in flight ends (R169): its label state, its event, then the link is idle and the grant acts. Where an
answer ends it before its PRINT has been sent whole, the rest of that PRINT is not sent (log 45). -/
def endJob (f : InFlight) (st : LabelState) (ev : Event) (s : State) : State :=
  let s := raise ev f.job.lane.code f.job.roll (writeLabel f.job st s)
  grant (s.onLbp (fun b => { b with inFlight := none, printing := none, timer := none }))

/-- An attempt ends without DONE (R169): the retry, or LABEL-FAILED; `code` is kept as the last failure code. -/
def failAttempt (f : InFlight) (code : Byte) (s : State) : State :=
  let s := s.onLbp (fun b => { b with lastFailure := code })
  if f.attempt = 1 ∧ s.lbp.params.retries = 1 then s.onLbp (fun b => b.sendPrint { f with attempt := 2 })
  else endJob f .failed .labelFailed s

/-- PRINTER_DONE (R169, R170): an answer that fails its check, or that names another exchange, or that finds no
job in flight, is discarded, and so is one whose TYPE or body is off the layout of R191 (log 27). -/
def execPrinterDone (frame : List Byte) (s : State) : Host.Outcome State Fault Refusal :=
  .next (match s.lbp.inFlight, parseLink frame with
    | some f, some (type, [e, z]) =>
      if type = 0x81#8 ∧ z = 0 ∧ e = s.lbp.exchange then endJob f .done .labelDone s else s
    | _, _ => s)

/-- PRINTER_FAULT (R169, R170); an answer whose TYPE or body is off the layout of R191 is discarded (log 27). -/
def execPrinterFault (frame : List Byte) (s : State) : Host.Outcome State Fault Refusal :=
  .next (match s.lbp.inFlight, parseLink frame with
    | some f, some (type, [e, code]) =>
      if type = 0x82#8 ∧ e = s.lbp.exchange then failAttempt f code s else s
    | _, _ => s)

/-- LABEL_TIMEOUT (R169): the label timer runs out. -/
def execLabelTimeout (s : State) : Host.Outcome State Fault Refusal :=
  .next (match s.lbp.inFlight, s.lbp.timer with
    | some f, some _ => failAttempt f 0 s
    | _, _ => s)

/-- PRINT_SENT (R169): the last byte of PRINT has been sent, and the label timer starts. -/
def execPrintSent (s : State) : Host.Outcome State Fault Refusal :=
  .next (match s.lbp.printing with
    | some _ => s.onLbp (fun b => { b with printing := none, timer := some b.params.timeout })
    | none => s)

/-! ### The requests -/

/-- LABEL SET (R166). -/
def execLabelSet (tag : Byte) (f : LabelFields) (s : State) : Host.Outcome State Fault Refusal :=
  .next (match f.resolve with
    | none => answer tag 0x48#8 .badValue [] s
    | some p => answer tag 0x48#8 .ok [] (s.onLbp (fun b => { b with params := p })))

/-- LABEL REPRINT (R171). -/
def execLabelReprint (tag : Byte) (roll : Nat) (s : State) : Host.Outcome State Fault Refusal :=
  .next (if !within 1 65535 roll then answer tag 0x49#8 .badValue [] s
    else match s.rku.history.find? (fun r => r.number == roll) with
      | none => answer tag 0x49#8 .notFound [] s
      | some r =>
        if Config.labelCapacity ≤ (s.lbp.list r.lane).length then answer tag 0x49#8 .full (le1 0) s
        else answer tag 0x49#8 .ok [] (joinLabel (buildJob s.lbp.params r) s))

/-- The queued jobs that bear a roll number. -/
def Lbp.queued (b : Lbp) (roll : Nat) : List LabelJob := (b.listA ++ b.listB).filter (fun j => j.roll == roll)

/-- Every queued job of a roll leaves its list; DISCARDED is written through each job's link (R172). -/
def discardJobs (roll : Nat) (s : State) : State :=
  (s.lbp.queued roll).foldl (fun t j => writeLabel j .discarded t)
    (s.onLbp (fun b => { b with
      listA := b.listA.filter (fun j => j.roll != roll), listB := b.listB.filter (fun j => j.roll != roll) }))

/-- LABEL DISCARD (R172). -/
def execLabelDiscard (tag : Byte) (roll : Nat) (s : State) : Host.Outcome State Fault Refusal :=
  .next (if !within 1 65535 roll then answer tag 0x4A#8 .badValue [] s
    else if s.lbp.queued roll ≠ [] then
      answer tag 0x4A#8 .ok (le1 (s.lbp.queued roll).length) (discardJobs roll s)
    else if (s.lbp.inFlight.map (fun f => f.job.roll)) = some roll then answer tag 0x4A#8 .busy [] s
    else answer tag 0x4A#8 .notFound [] s)

end Sys2Proof.Machine
end

