-- ==== Sys2Proof/Machine/Rku.lean ====
section
/-! DEFINITION. The Roll and Knife Unit (chapter 7): counting into rolls, finalising, the leader cut, arming,
firing and deferral, the turret, and the lane and roll requests. -/

namespace Sys2Proof.Machine

/-! ### Finalising (R140 to R143) -/

/-- The shade mean, or none while the sample count is 0 (R142). -/
def RollCounts.mean (c : RollCounts) : Option Rgb :=
  if c.samples = 0 then none
  else
    let m : Nat → Nat := fun s => (s + c.samples / 2) / c.samples
    some ⟨m c.sums.r, m c.sums.g, m c.sums.b⟩

/-- How a roll was closed (R140). -/
inductive Closing | byCut | byJobEnd
deriving DecidableEq, Repr

/-- The verdict of R141: a disposition decided there, or a good candidate for the batch table. -/
inductive Verdict | decided (d : Disposition) | candidate (mean : Rgb)
deriving DecidableEq, Repr

/-- The disposition of a closed roll (R141), the first of the rule's tests that applies. A negative length lies
below a minimum length of 0 (log 42). -/
def verdict (how : Closing) (p : LaneParams) (r : OpenRoll) (length : Int) : Verdict :=
  if how = .byJobEnd then .decided .partialRoll
  else if length < p.minLength then .decided .rejectShort
  else if p.defectLimit < r.counts.defectRepeats then .decided .rejectDefect
  else if r.flags.trackGap then .decided .holdGap
  else match r.counts.mean with
    | none => .decided .holdUnshaded
    | some m => .candidate m

/-- The record of a finalised roll (R140). -/
def rollRecord (l : Lane) (r : OpenRoll) (length : Int) (d : Disposition) (code : Option (BatchCode × Nat))
    (label : LabelState) : RollRecord where
  number := r.number
  lane := l
  counts := r.counts
  length := length
  flags := r.flags
  mean := r.counts.mean
  code := code.map (·.1)
  distance := code.map (·.2)
  disposition := d
  label := label

/-- The disposition decided, with the batch unit's answer for a good candidate (R140, step 2). -/
def dispose (how : Closing) (l : Lane) (r : OpenRoll) (length : Int) (s : State) :
    State × Disposition × Option (BatchCode × Nat) :=
  match verdict how (s.lane l).params r length with
  | .decided d => (s, d, none)
  | .candidate m =>
    let t := takeCandidate ⟨r.number, l, length, m⟩ s
    (t.state, (if t.answer.isSome then .good else .holdUnbatched), t.answer)

/-- A record enters the roll history; at 64 the oldest leaves, and the jobs built from it lose their link
(R143, R165). -/
def enterHistory (r : RollRecord) (s : State) : State :=
  if s.rku.history.length < Config.historyCapacity then
    s.onRku (fun k => { k with history := k.history ++ [r] })
  else match s.rku.history with
    | old :: rest =>
      (s.onRku (fun k => { k with history := rest ++ [r] })).onLbp (fun b => b.unlink (fun j => j.roll == old.number))
    | [] => s

/-- A closed roll is finalised (R140). -/
def finalise (how : Closing) (l : Lane) (r : OpenRoll) (closing : Pos) (s : State) : State :=
  let length := sdiff closing r.opening
  let d := dispose how l r length s
  let s := d.1
  let labelled := s.lbp.params.enabled l
  let rec_ := rollRecord l r length d.2.1 d.2.2 (if labelled then .none else .off)
  let s := raise .rollDone l.code r.number (enterHistory rec_ s)
  if labelled then offerLabel (buildJob s.lbp.params rec_) s else s

/-! ### Opening and counting (R128, R130, R150) -/

/-- The counts of a roll as it opens (section 7.2). -/
def RollCounts.zero : RollCounts := ⟨none, none, 0, 0, 0, 0, 0, 0, 0, ⟨0, 0, 0⟩, 0⟩

/-- A roll opens at a reference with the next roll number; after 65,535 the counter gives 1 (R128, R150). -/
def openRoll (l : Lane) (reference : Pos) (s : State) : State :=
  let n := s.rku.nextRoll
  (s.onRku (fun k => { k with
      nextRoll := if n < 65535 then n + 1 else 1, wrapped := k.wrapped || decide (65535 ≤ n) })).onLane l
    (fun c => { c with
      roll := some ⟨n, reference, reference, RollCounts.zero, ⟨false, false, false, false, false⟩, 0⟩ })

/-- A shade defect of the lane's own slots (R130). -/
def Defects.shadeOf (d : Defects) : Lane → Bool
  | .a => d.shadeA | .b => d.shadeB

/-- One more where the condition holds, saturating at 65,535. -/
def countIf (b : Bool) (n : Nat) : Nat := if b then satInc Config.countLimit n else n

/-- The OK shade values of a record over a lane (R130). -/
def laneShade (l : Lane) (r : RepeatRecord) : List Rgb :=
  (r.shade.getD []).filterMap (fun e => match e.reading with
    | .ok v => if laneOfSlot e.slot.val = l then some v else none
    | .excursion _ | .invalid => none)

/-- One value added to the three sums. -/
def Rgb.plus (a b : Rgb) : Rgb := ⟨a.r + b.r, a.g + b.g, a.b + b.b⟩

/-- The counts after a record (R130). -/
def RollCounts.add (c : RollCounts) (l : Lane) (r : RepeatRecord) : RollCounts :=
  let d := r.defects
  let shade := d.shadeOf l
  let vs := if c.repeats < Config.countLimit then laneShade l r else []
  { startRepeat := some (c.startRepeat.getD r.number)
    endRepeat := some r.number
    repeats := satInc Config.countLimit c.repeats
    defectRepeats := countIf (d.register || d.emboss || d.splice || shade) c.defectRepeats
    register := countIf d.register c.register
    emboss := countIf d.emboss c.emboss
    shade := countIf shade c.shade
    splice := countIf d.splice c.splice
    coasted := countIf r.coasted c.coasted
    sums := vs.foldl Rgb.plus c.sums
    samples := c.samples + vs.length }

/-- An open roll after a record has been counted into it (R130). -/
def OpenRoll.add (o : OpenRoll) (l : Lane) (r : RepeatRecord) : OpenRoll :=
  { o with
    counts := o.counts.add l r
    flags := { o.flags with splice := o.flags.splice || r.splice }
    lastRef := r.at_.get (.knife l) }

/-- The knife mark of a lane is written into a record (R34, R130). -/
def RepeatRecord.mark (r : RepeatRecord) (l : Lane) (roll : Nat) : RepeatRecord :=
  match l with
  | .a => { r with markA := some roll }
  | .b => { r with markB := some roll }

/-- A record is counted into the lane's open roll (R130). -/
def countRecord (l : Lane) (r : RepeatRecord) (s : State) : State :=
  match (s.lane l).roll with
  | none => s
  | some o =>
    (s.onLane l (fun c => { c with roll := some (o.add l r) })).onTku
      (fun t => t.onRecord r.number (fun x => x.mark l o.number))

/-! ### Cut attempts (R133, R135, R136) -/

/-- The lead of a cut in counts (R132). -/
def leadOf (v knifeLead : Nat) : Int := ceilDiv (v * knifeLead) 1000

/-- The cut fires (R133, R135): pulse and turret timer, the open roll closes at the reference, a new roll opens
there, INDEXING, CUT-DONE, and the closed roll is finalised. -/
def fireCut (l : Lane) (c : ArmedCut) (s : State) : State :=
  let closed := (s.lane l).roll
  let s := s.onLane l (fun k => { k with
    pulses := k.pulses + 1, turret := some k.params.turretTimeout, cut := none, state := .indexing })
  let s := raise .cutDone l.code ((closed.map (·.number)).getD 0) (openRoll l c.reference s)
  match closed with
  | some r => finalise .byCut l r c.reference s
  | none => s

/-- The armed cut waits for its cut record's crossing (R133, R136). -/
def LaneControl.wait (k : LaneControl) : LaneControl :=
  { k with cut := k.cut.map (fun c => { c with waiting := true }) }

/-- A roll cut is deferred (R136): CUT-DEFERRED, and at the first deferral past the max deferrals OVERLENGTH and
CUT-MISSED. -/
def deferRoll (l : Lane) (r : OpenRoll) (s : State) : State :=
  let n := satInc 255 r.deferrals
  let s := raise .cutDeferred l.code r.number
    (s.onLane l (fun k => { k.wait with roll := some { r with deferrals := n } }))
  if (s.lane l).params.maxDeferrals < n ∧ r.flags.overlength = false then
    raise .cutMissed l.code r.number (s.onLane l (fun k => { k with
      roll := k.roll.map (fun o => { o with flags := { o.flags with overlength := true } }) }))
  else s

/-- A cut is attempted (R133, R135): it fires where the winder-ready level, at this field level, reads ready, and
is deferred otherwise. -/
def attemptCut (l : Lane) (winder : Bool) (s : State) : State :=
  match (s.lane l).cut with
  | none => s
  | some c =>
    if s.winderReady l winder then fireCut l c s
    else match (s.lane l).state, (s.lane l).roll with
      | .armed, some r => deferRoll l r s
      | _, _ => raise .cutDeferred l.code 0 (s.onLane l LaneControl.wait)

/-- The reference of the record after `n` at a lane's knife, where that record exists (R42; log 24). -/
def State.followingReference (s : State) (l : Lane) (n : Nat) : Option (Nat × Pos) :=
  (s.tku.track.find? (fun r => n < r.number)).map (fun r => (r.number, r.at_.get (.knife l)))

/-- WP is at or past a position (R2). -/
def State.reached (s : State) (p : Pos) : Bool := 0 ≤ sdiff s.wtb.wp p

/-- The cut of a lane with this cut record and reference: the fire position lies the lead before it (R131,
R132). -/
def State.cutAt (s : State) (l : Lane) (record : Nat) (reference : Pos) : ArmedCut :=
  ⟨record, reference, posPlus reference (-(leadOf s.wtb.v (s.lane l).params.knifeLead)), false⟩

/-- A cut is armed or re-armed; one whose fire position has been passed is attempted at once (R131 to R133,
R136), and a roll cut attempted so gets CUT-LATE. -/
def armCut (l : Lane) (record : Nat) (reference : Pos) (winder : Bool) (s : State) : State :=
  let cut := s.cutAt l record reference
  let s := s.onLane l (fun k => { k with cut := some cut })
  if s.reached cut.fire then
    attemptCut l winder (if (s.lane l).state = .armed then
        s.onLane l (fun k => { k with
          roll := k.roll.map (fun o => { o with flags := { o.flags with cutLate := true } }) })
      else s)
  else s

/-! ### A knife crossing (R129 to R136) -/

/-- LEADER with no leader cut armed (R131). -/
def leaderArming (l : Lane) (r : RepeatRecord) (winder : Bool) (s : State) : State :=
  match s.followingReference l r.number with
  | none => s
  | some (n, x) => armCut l n x winder s

/-- The arming test of R132 in WINDING, after the record has been counted. -/
def armingTest (l : Lane) (r : RepeatRecord) (winder : Bool) (s : State) : State :=
  match s.followingReference l r.number, (s.lane l).roll with
  | some (n, x), some o =>
    if ((s.lane l).params.target : Int) ≤ sdiff x o.opening ∨ (s.lane l).force = true then
      armCut l n x winder (s.onLane l (fun k => { k with state := .armed, force := false }))
    else s
  | _, _ => s

/-- The cut record test of R134: a crossing of the cut record of a cut not yet attempted is itself a fire
moment. -/
def cutRecordTest (l : Lane) (r : RepeatRecord) (winder : Bool) (s : State) : State :=
  match (s.lane l).cut with
  | some c => if c.record = r.number ∧ c.waiting = false then attemptCut l winder s else s
  | none => s

/-- A cut that waits for this record's crossing is re-armed from it (R133, R136); where the following origin is
absent it waits for the next crossing (log 29). -/
def rearm (l : Lane) (r : RepeatRecord) (winder : Bool) (s : State) : State :=
  match (s.lane l).cut with
  | some c =>
    if c.record = r.number ∧ c.waiting = true then
      match s.followingReference l r.number with
      | some (n, x) => armCut l n x winder s
      | none => s.onLane l (fun k => { k with cut := some { c with record := nextRepeatAfter r.number } })
    else s
  | none => s

/-- The lane's action at a crossing, by its lane state (R129). A leader cut that fires at its cut record's
crossing takes that record into the new roll (R134; log 14). -/
def laneCrossing (l : Lane) (r : RepeatRecord) (winder : Bool) (s : State) : State :=
  match (s.lane l).state with
  | .off => s
  | .leader =>
    if (s.lane l).cut.isNone then leaderArming l r winder s
    else
      let s := cutRecordTest l r winder s
      if (s.lane l).state = .leader then rearm l r winder s else countRecord l r s
  | .winding => armingTest l r winder (countRecord l r s)
  | .armed => rearm l r winder (countRecord l r (cutRecordTest l r winder s))
  | .indexing => countRecord l r s

/-- What the unit does at a knife crossing (R129): the lane's action, then SPLICE-AT-KNIFE. -/
def knifeCrossing (l : Lane) (r : RepeatRecord) (winder : Bool) (s : State) : State :=
  let s := laneCrossing l r winder s
  if r.splice then raise .spliceAtKnife l.code r.number s else s

/-- FIRE_POSITION (R133, R135): at a new-web advance WP has reached the fire position of an armed cut not yet
attempted there. -/
def execFirePosition (l : Lane) (winder : Bool) (s : State) : Host.Outcome State Fault Refusal :=
  .next (match (s.lane l).cut with
    | some c =>
      if s.advancing ∧ c.waiting = false ∧ s.reached c.fire = true then attemptCut l winder s else s
    | none => s)

/-! ### The turret (R139) -/

/-- TURRET_DONE (R139): the edge of TDA or TDB. -/
def execTurretDone (l : Lane) (energised : Bool) (s : State) : Host.Outcome State Fault Refusal :=
  let inverted := match l with | .a => s.wtb.polarity.tda | .b => s.wtb.polarity.tdb
  .next (if reading energised inverted then
      match (s.lane l).state with
      | .indexing => s.onLane l (fun k => { k with state := .winding, turret := none })
      | .leader => s.onLane l (fun k => { k with turret := none })
      | .off | .winding | .armed => s
    else s)

/-- TURRET_TIMEOUT (R139): the turret timer runs out in INDEXING or LEADER, and WINDER is reported. -/
def execTurretTimeout (l : Lane) (s : State) : Host.Outcome State Fault Refusal :=
  .next (if (s.lane l).turret.isSome ∧ ((s.lane l).state = .indexing ∨ (s.lane l).state = .leader) then
      latchCause .winder (s.onLane l (fun k => { k with turret := none }))
    else s)

/-! ### The line's transitions (R146 to R149) -/

/-- One lane at JOB START (R148). -/
def LaneControl.start (k : LaneControl) : LaneControl :=
  if k.params.enabled then { k with state := .leader, force := false, cut := none } else k

/-- One lane's open roll is finalised PARTIAL at JOB END (R149). DESIGN CHOICE (log 50): its length is the signed
difference of the two references also where the last counted one lies behind the opening. -/
def endRoll (l : Lane) (s : State) : State :=
  match (s.lane l).roll with
  | some r => finalise .byJobEnd l r r.lastRef (s.onLane l (fun k => { k with roll := none }))
  | none => s

/-- One lane enters OFF at JOB END (R149). -/
def LaneControl.off (k : LaneControl) : LaneControl :=
  { k with state := .off, turret := none, cut := none, force := false }

/-- The unit at JOB END (R149): lane A first. -/
def rollsAtEnd (s : State) : State :=
  (endRoll .b (endRoll .a s)).onRku (fun r => { r with laneA := r.laneA.off, laneB := r.laneB.off })

/-! ### The requests -/

/-- What a LANE SET whose fields are in range is refused with (R19, R127). -/
def laneRefusal (l : Lane) (p : LaneParams) (s : State) : Option Status :=
  let k := s.lane l
  if (p.enabled ≠ k.params.enabled ∨ p.cutOffset ≠ k.params.cutOffset) ∧ s.wtb.line ≠ .idle ∧
      s.wtb.line ≠ .thread then some .wrongState
  else if k.params.enabled = true ∧ p.enabled = false ∧ k.roll.isSome = true then some .busy
  else none

/-- The roll target of LANE SET while a track runs: at least 2 * N, unless it is the one held (R19, R127;
log 20). -/
def targetAllowed (l : Lane) (p : LaneParams) (s : State) : Bool :=
  !s.running || decide (p.target = (s.lane l).params.target) || decide (2 * s.tku.params.n ≤ p.target)

/-- A LANE SET is written; one that clears the enable takes the lane to OFF and stops its turret timer (R127). -/
def writeLane (p : LaneParams) (k : LaneControl) : LaneControl :=
  if k.params.enabled = true ∧ p.enabled = false then { k with params := p, state := .off, turret := none }
  else { k with params := p }

/-- LANE SET (R19, R127). -/
def execLaneSet (tag : Byte) (lane : Coded Lane) (f : LaneFields) (s : State) :
    Host.Outcome State Fault Refusal :=
  .next (match lane with
    | none => answer tag 0x38#8 .badValue [] s
    | some l => match f.resolve s.tku.params.n (s.lane l).params.cutOffset with
      | none => answer tag 0x38#8 .badValue [] s
      | some p =>
        if !targetAllowed l p s then answer tag 0x38#8 .badValue [] s
        else match laneRefusal l p s with
          | some st => answer tag 0x38#8 st [] s
          | none => answer tag 0x38#8 .ok [] (s.onLane l (writeLane p)))

/-- CUT (R137). -/
def execCut (tag : Byte) (lane : Coded Lane) (s : State) : Host.Outcome State Fault Refusal :=
  .next (match lane with
    | none => answer tag 0x39#8 .badValue [] s
    | some l => match cutAnswer l s with
      | .wrongState => answer tag 0x39#8 .wrongState [] s
      | .busy => answer tag 0x39#8 .busy [] s
      | .taken => answer tag 0x39#8 .ok [] (cutLane l s))

/-- The roll read cursor in a ROLL SEEK reply or in STATUS (R191): a kind byte, 0 for a number and 1 for END, then
two bytes (log 11). -/
def rollCursorBytes : Option Nat → List Byte
  | some n => le1 0 ++ le2 n
  | none => le1 1 ++ le2 0

/-- A roll number has been given in the job (R144). -/
def Rku.given (k : Rku) (n : Nat) : Bool := k.wrapped || decide (n < k.nextRoll)

/-- A number is that of an open roll. -/
def Rku.isOpen (k : Rku) (n : Nat) : Bool :=
  k.laneA.roll.map (·.number) == some n || k.laneB.roll.map (·.number) == some n

/-- The status and the cursor after a ROLL SEEK (R144). -/
def seekRoll (target : SeekTarget) (k : Rku) : Status × Option Nat :=
  match target with
  | .oldest => (.ok, k.history.head?.map (·.number))
  | .newest => (.ok, k.history.getLast?.map (·.number))
  | .number n =>
    if !within 1 65535 n then (.badValue, k.readCursor)
    else if k.history.any (fun r => r.number == n) then (.ok, some n)
    else if k.isOpen n || !k.given n then (.notFound, k.readCursor)
    else (.gone, k.history.head?.map (·.number))

/-- ROLL SEEK (R144): every reply carries the cursor after the request. -/
def execRollSeek (tag : Byte) (target : Coded SeekTarget) (s : State) : Host.Outcome State Fault Refusal :=
  .next (match target with
    | none => answer tag 0x3A#8 .badValue (rollCursorBytes s.rku.readCursor) s
    | some x =>
      let r := seekRoll x s.rku
      answer tag 0x3A#8 r.1 (rollCursorBytes r.2) (s.onRku (fun k => { k with readCursor := r.2 })))

/-- The codes of the dispositions (R191). -/
def Disposition.code : Disposition → Nat
  | .good => 1 | .holdUnbatched => 2 | .holdGap => 3 | .holdUnshaded => 4 | .rejectShort => 5
  | .rejectDefect => 6 | .partialRoll => 7

/-- The codes of the label states (R191). -/
def LabelState.code : LabelState → Nat
  | .none => 0 | .queued => 1 | .printing => 2 | .done => 3 | .failed => 4 | .discarded => 5
  | .notQueued => 6 | .off => 7

/-- A shade mean in a reply: 0xFFFF each when absent (R191). -/
def meanBytes : Option Rgb → List Byte
  | some m => le2 m.r ++ le2 m.g ++ le2 m.b
  | none => le2 0xFFFF ++ le2 0xFFFF ++ le2 0xFFFF

/-- The counts of a roll record from the start repeat number to the coasted count (R191). -/
def RollCounts.bytes (c : RollCounts) (length : Int) : List Byte :=
  le4 (c.startRepeat.getD 0) ++ le4 (c.endRepeat.getD 0) ++ le2 c.repeats ++ sle4 length ++
  le2 c.defectRepeats ++ le2 c.register ++ le2 c.emboss ++ le2 c.shade ++ le2 c.splice ++ le2 c.coasted

/-- A roll record in a reply (R191): 61 bytes. -/
def RollRecord.bytes (r : RollRecord) : List Byte :=
  le2 r.number ++ le1 r.lane.code ++ r.counts.bytes r.length ++
  le1 (flagBits [r.flags.splice, r.flags.trackGap, r.flags.cutLate, r.flags.overlength, r.flags.forced]) ++
  le4 r.counts.samples ++ le4 r.counts.sums.r ++ le4 r.counts.sums.g ++ le4 r.counts.sums.b ++
  meanBytes r.mean ++ r.code.getD [0, 0, 0, 0, 0] ++ le2 (r.distance.getD 0xFFFF) ++
  le1 r.disposition.code ++ le1 r.label.code

/-- What ROLL READ answers (R145): the status, the records, and the cursor after. DESIGN CHOICE (log 49): a cursor at
END stays there when a roll enters the history, so that a seek comes before the roll can be read. -/
def readRolls (count : Nat) (k : Rku) : Status × List RollRecord × Option Nat :=
  match k.readCursor with
  | none => (.ok, [], none)
  | some n =>
    let rest := k.history.dropWhile (fun r => r.number != n)
    if rest = [] then (.gone, [], k.history.head?.map (·.number))
    else (.ok, rest.take count, (rest.drop count).head?.map (·.number))

/-- ROLL READ (R145, R191): the cursor is two bytes, 0 for END. -/
def execRollRead (tag : Byte) (count : Nat) (s : State) : Host.Outcome State Fault Refusal :=
  .next (if !within 1 4 count then answer tag 0x3B#8 .badValue [] s
    else
      let r := readRolls count s.rku
      answer tag 0x3B#8 r.1 (le1 r.2.1.length ++ le2 (r.2.2.getD 0) ++ r.2.1.flatMap RollRecord.bytes)
        (s.onRku (fun k => { k with readCursor := r.2.2 })))

end Sys2Proof.Machine
end

