-- ==== Sys2Proof/Machine/Crossing.lean ====
section
/-! DEFINITION. Record crossings (R41 to R43): what each consumer does when a record crosses its point, the cursor,
and retirement. -/

namespace Sys2Proof.Machine

/-! ### The emboss point (R88) -/

/-- The emboss entry a crossing writes, and whether it adds EMBOSS to the defect set (R88; log 26). -/
def State.stamp (s : State) : EmbossEntry × Bool :=
  match s.epu.state, s.epu.nipConfirmed, s.epu.lastPhase with
  | .engaged, true, some p => (.embossed p.phase, decide (s.epu.params.tol < p.phase.natAbs))
  | _, _, _ => (.unembossed, s.epu.params.required)

/-- A record crosses the emboss point (R88). -/
def embossCrossing (n : Nat) (s : State) : State :=
  let e := s.stamp
  s.onTku (fun t => t.onRecord n (fun r => { r with
    emboss := some e.1, defects := { r.defects with emboss := r.defects.emboss || e.2 } }))

/-! ### The shade point (R96, R99, R112) -/

/-- A pending context at the crossing of record n (R112): an unbound NEXT is bound to it, and what targets it
becomes due. -/
def SpotContext.atCrossing (c : SpotContext) (n : Nat) : SpotContext :=
  match c.target with
  | .next => if c.bound.isNone then { c with bound := some n, due := true } else c
  | .number m => if m = n then { c with due := true } else c
  | .immediate => c

/-- Binding at a shade crossing (R112). -/
def bindSpots (n : Nat) (s : State) : State :=
  s.onSmu (fun m => { m with contexts := m.contexts.map (fun c => c.atCrossing n) })

/-- The slot at the rotation pointer (R97). -/
def Smu.slotAtPointer (m : Smu) : Nat := ((m.params.scanList[m.pointer - 1]?).map Fin.val).getD 0

/-- The bus holds a regular measurement of this record. -/
def Smu.measures (m : Smu) (record : Nat) : Bool :=
  match m.bus with
  | some b => match b.user with
    | .scan r _ => r == record
    | .spot _ | .cal => false
  | none => false

/-- A scan has left a slot by the counts of R99, `running` telling whether a measurement it has chosen is still
running (log 13). The enables of the positions left are not looked at (log 40). -/
def Scan.leftSlots (c : Scan) (running : Bool) (m : Smu) : Bool :=
  c.completed + (if running then 1 else 0) < c.nscan && c.visited < m.params.scanList.length

/-- SCAN-OVERRUN is raised for a scan that left slots (R99). -/
def raiseOverrun (c : Scan) (left : Bool) (s : State) : State :=
  if left then raise .scanOverrun s.smu.slotAtPointer c.record s else s

/-- A scan in flight at a new crossing is settled (R99): a running measurement is left to complete, and otherwise
the scan ends here. -/
def settleScan (s : State) : State :=
  match s.smu.scan with
  | none => s
  | some c =>
    if s.smu.measures c.record then s.onSmu (fun m => { m with scan := none, overrun := some c })
    else raiseOverrun c (c.leftSlots false s.smu) (s.onSmu (fun m => { m with scan := none }))

/-- A regular scan starts for a record (R96), at the crossing also where the scan before it was overrun with a
measurement still running (R99; log 41). -/
def startScan (n : Nat) (s : State) : State :=
  (s.onTku (fun t => t.onRecord n (fun r => { r with shade := some [] }))).onSmu
    (fun m => { m with scan := some ⟨n, m.params.nscan, m.params.kreg, 0, 0⟩ })

/-- A record crosses the shade point (R96, R112). -/
def shadeCrossing (n : Nat) (s : State) : State :=
  let s := bindSpots n s
  if s.parked then s else startScan n (settleScan s)

/-! ### The knife points (R42, R100, R115, R129) -/

/-- The scan of a record is cut short at its knife crossing (R100). -/
def cutScanShort (n : Nat) (s : State) : State :=
  let running := s.smu.measures n
  let scans := ([s.smu.scan, s.smu.overrun].filterMap id).filter (fun c => c.record == n)
  let s := if running then dropScanMeasurement s else s
  let keep : Option Scan → Option Scan := fun o => o.filter (fun c => c.record != n)
  scans.foldl (fun t c => raiseOverrun c (c.leftSlots running t.smu) t)
    (s.onSmu (fun m => { m with scan := keep m.scan, overrun := keep m.overrun }))

/-- The measurement unit at a knife crossing of record n (R100, R115): pending spots of the record end MISSED, one
in progress ends ABANDONED, and its scan is cut short. DESIGN CHOICE (log 31): they do so in that order; R100 and R115
give none between the three. -/
def shadeAtKnife (n : Nat) (s : State) : State :=
  let ofRecord : SpotContext → Bool := fun c => c.serves == some n
  cutScanShort n (abandonSpotIf ofRecord (missAll ofRecord s))

/-- A record crosses a knife: the measurement unit first, then the lane, which reads the record as it stands
(R34, R42; log 31). -/
def knifePoint (l : Lane) (n : Nat) (winder : Bool) (s : State) : State :=
  let s := shadeAtKnife n s
  match s.tku.record? n with
  | some r => knifeCrossing l r winder s
  | none => s

/-! ### The crossing (R41, R43) -/

/-- The record under the cursor is handed to the point's consumer (R42). -/
def handOff (p : Point) (n : Nat) (winder : Bool) (s : State) : State :=
  match p with
  | .emboss => embossCrossing n s
  | .shade => shadeCrossing n s
  | .knife l => knifePoint l n winder s

/-- The cursor of a point moves past record n (R41). -/
def moveCursor (p : Point) (n : Nat) (s : State) : State :=
  s.onTku (fun t => { t with cursors := t.cursors.put p (t.after n) })

/-- Record n has crossed a knife, or that knife is not enabled (R43). -/
def State.pastKnife (s : State) (l : Lane) (n : Nat) : Bool :=
  !s.pointEnabled (.knife l) || (match s.tku.cursors.get (.knife l) with
    | none => true
    | some m => decide (n < m))

/-- Record n leaves the track (R43): a cursor still on it moves on (R41), and what the scanner still reads of it stands
among the departed (R26, R32). -/
def Tku.release (t : Tku) (n : Nat) : Tku :=
  Tku.forget { t with
    track := t.track.filter (fun r => r.number != n)
    departed := t.departed ++ t.track.filter (fun r => r.number == n)
    cursors := t.cursors.leave n (t.after n) }

/-- A record that has crossed every enabled knife leaves the track (R43). -/
def retire (n : Nat) (s : State) : State :=
  if s.pastKnife .a n && s.pastKnife .b n then s.onTku (fun t => t.release n) else s

/-- Record n crosses a point: hand-off, cursor, and retirement at a knife. -/
def crossOne (p : Point) (n : Nat) (winder : Bool) (s : State) : State :=
  let s := moveCursor p n (handOff p n winder s)
  match p with
  | .knife _ => retire n s
  | .emboss | .shade => s

/-- The record a point crosses now, if WP has reached the one under its cursor (R41). -/
def State.crossingDue (s : State) (p : Point) : Option Nat :=
  match s.tku.cursors.get p with
  | none => none
  | some n => (s.tku.record? n).bind (fun r => if s.reached (r.at_.get p) then some n else none)

/-- The crossings of a point at one advance, repeated until the record under the cursor has not been reached
(R41). -/
def crossAll (p : Point) (winder : Bool) : Nat → State → State
  | 0, s => s
  | fuel + 1, s =>
    match s.crossingDue p with
    | none => s
    | some n => crossAll p winder fuel (crossOne p n winder s)

/-- POINT_CROSSING (R41). -/
def execPointCrossing (p : Point) (winder : Bool) (s : State) : Host.Outcome State Fault Refusal :=
  .next (if s.advancing ∧ s.pointEnabled p = true then crossAll p winder s.tku.track.length s else s)

end Sys2Proof.Machine
end

