-- ==== Sys2Proof/Machine/Smu.lean ====
section
/-! DEFINITION. The Shade Measurement Unit (chapters 5 and 6): the frame slots of the head bus, the arbiter, the
completion of a measurement, the heads-parked input, and the unit's requests. -/

namespace Sys2Proof.Machine

/-! ### Beginning a measurement (R90, R92, R97, R113) -/

/-- The SAMPLE byte: slot number in the low three bits, sequence bit in the top bit (R191). -/
def sampleByte (slot : Fin 6) (seq : Bool) : Byte :=
  BitVec.ofNat 8 slot.val ||| (if seq then 0x80#8 else 0#8)

/-- The exchange that a SAMPLE opens: its byte, and its frame on HB, TYPE 0x01 with that byte as BODY (R191). -/
def Exchange.opened (sample : Byte) : Exchange := ⟨sample, linkFrame 0x01#8 [sample], none⟩

/-- SAMPLE is sent to the measurement's slot, and the slot's sequence bit is then inverted (R90). -/
def sendSample (b : Measurement) (m : Smu) : Smu :=
  { m with
    bus := some { b with exchange := some (.opened (sampleByte b.slot m.seqBits[b.slot])) }
    seqBits := m.seqBits.set b.slot (!m.seqBits[b.slot]) }

/-- A measurement begins in this frame slot (R92). -/
def beginMeasurement (slot : Fin 6) (k : Nat) (user : BusUser) (s : State) : State :=
  s.onSmu (sendSample ⟨slot, k, 0, ⟨0, 0, 0⟩, false, user, none⟩)

/-- The list position after `p`, wrapping after the last (R97). -/
def nextPosition (len p : Nat) : Nat := if p < len then p + 1 else 1

/-- The choice of a scan (R97): from position `p` with `visited` positions looked at, the first position whose slot
is enabled, with the visited count after it. -/
def chooseSlot (m : Smu) : Nat → Nat → Nat → Option (Fin 6 × Nat × Nat)
  | 0, _, _ => none
  | fuel + 1, p, visited =>
    if m.params.scanList.length ≤ visited then none
    else match m.params.scanList[p - 1]? with
      | none => none
      | some slot =>
        if m.enables[slot] then some (slot, p, visited + 1)
        else chooseSlot m fuel (nextPosition m.params.scanList.length p) (visited + 1)

/-- The regular scan takes the bus for its next measurement, or ends without choosing (R97, R113). -/
def scanTurn (s : State) : State :=
  match s.smu.scan with
  | none => s
  | some c =>
    if c.nscan ≤ c.completed then s.onSmu (fun m => { m with scan := none })
    else match chooseSlot s.smu s.smu.params.scanList.length s.smu.pointer c.visited with
      | none => s.onSmu (fun m => { m with scan := none })
      | some (slot, p, visited) =>
        beginMeasurement slot c.kreg (.scan c.record p)
          (s.onSmu (fun m => { m with scan := some { c with visited := visited } }))

/-- Spots may begin (R113): PRK reads inactive and the line is not in IDLE or FAULT. -/
def State.spotsMayBegin (s : State) : Bool :=
  !s.parked && s.wtb.line != .idle && s.wtb.line != .fault

/-- The arbiter after the calibration run (R113): the oldest due spot, then the regular scan. A spot whose slot is
disabled ends INVALID, and the arbiter looks again. -/
def spotTurn : Nat → State → State
  | 0, s => s
  | fuel + 1, s =>
    if s.spotsMayBegin then
      match takeFirst (fun c => c.due) s.smu.contexts with
      | none => scanTurn s
      | some (c, rest) =>
        let s := s.onSmu (fun m => m.consume c rest)
        if s.smu.enables[c.slot] then beginMeasurement c.slot c.k (.spot c) s
        else spotTurn fuel (endSpot c .invalid s)
    else scanTurn s

/-- More looks of the arbiter than one frame slot can take: each consumes a context, and a context joins meanwhile
only by a route action, which takes one from a route's count. -/
def State.looks (s : State) : Nat :=
  s.smu.contexts.length + (s.evu.routes.toList.map (fun r => (r.map (·.remaining)).getD 0)).sum + 1

/-- The arbiter hands a free frame slot (R113). -/
def arbitrate (s : State) : State :=
  match s.smu.calRun.bind (fun c => c.todo.head?) with
  | some slot => beginMeasurement slot 4 .cal s
  | none => spotTurn s.looks s

/-- FRAME_SLOT_START (R90, R92, R113): the measurement that holds the bus sends its next SAMPLE, or the arbiter
hands the frame slot. -/
def execFrameSlotStart (s : State) : Host.Outcome State Fault Refusal :=
  .next (match s.smu.bus with
    | none => arbitrate s
    | some b => match b.exchange with
      | none => s.onSmu (sendSample b)
      | some _ => s)

/-! ### Answers (R91) -/

/-- A raw value: the low 12 bits of two bytes (R191). -/
def rawValue (bs : List Byte) (at_ : Nat) : Nat := field bs at_ 2 % 4096

/-- An answer judged against the SAMPLE of its frame slot (R91). DESIGN CHOICE (log 54): a whole, checked frame of
another TYPE or another BODY length is the exchange's bad answer. -/
def judgeAnswer (sample : Byte) (frame : List Byte) : Answer :=
  match parseLink frame with
  | some (type, body) =>
    if type = 0x81#8 ∧ body.length = 8 ∧ body.head? = some sample ∧ field body 7 1 = 0 then
      .good ⟨rawValue body 1, rawValue body 3, rawValue body 5⟩
    else .bad
  | none => .bad

/-- HEAD_ANSWER (R91): the first answer of the frame slot is judged, a late one to an earlier SAMPLE included; one
with no exchange open is discarded (log 18). -/
def execHeadAnswer (frame : List Byte) (s : State) : Host.Outcome State Fault Refusal :=
  .next (match s.smu.bus with
    | some b => match b.exchange with
      | some ⟨sample, sent, none⟩ =>
        s.onSmu (fun m => { m with
          bus := some { b with exchange := some ⟨sample, sent, some (judgeAnswer sample frame)⟩ } })
      | _ => s
    | none => s)

/-! ### From samples to values (R103 to R106) -/

/-- The average of 2^k raw values (R103). -/
def averageOf (sum k : Nat) : Nat := if k = 0 then sum else (sum + 2 ^ (k - 1)) / 2 ^ k

/-- The calibrated value (R104). -/
def calibrated (a black gain : Nat) : Nat :=
  (clampInt ((((a : Int) - black) * gain + 16384) / 32768) 0 4095).toNat

/-- The three calibrated values of a measurement (R103, R104). -/
def factorValues (f : Factors) (sums : Rgb) (k : Nat) : Rgb :=
  ⟨calibrated (averageOf sums.r k) f.blackR f.gainR, calibrated (averageOf sums.g k) f.blackG f.gainG,
    calibrated (averageOf sums.b k) f.blackB f.gainB⟩

/-- The value of a measurement: none is INVALID (R92, R103). -/
def Smu.outcome (m : Smu) (b : Measurement) : Option Rgb :=
  if b.bad then none else some (factorValues m.active[b.slot] b.sums b.k)

/-- A window applies to a measurement and its value lies outside (R106). -/
def Guard.flags (g : Guard) (slot : Fin 6) (isSpot : Bool) (v : Nat) : Bool :=
  (g.all || g.slot == slot) && (!isSpot || g.spots) && (v < g.low || g.high < v)

/-- The guard judgement of a measurement's values: it is an EXCURSION (R106). -/
def Smu.outside (m : Smu) (slot : Fin 6) (isSpot : Bool) (v : Rgb) : Bool :=
  m.guardR.flags slot isSpot v.r || m.guardG.flags slot isSpot v.g || m.guardB.flags slot isSpot v.b

/-- The status and values of a completed measurement (R107). -/
def Smu.judged (m : Smu) (slot : Fin 6) (isSpot : Bool) (v : Option Rgb) : ShadeReading :=
  match v with
  | none => .invalid
  | some v => if m.outside slot isSpot v then .excursion v else .ok v

/-- SHADE-GUARD of an EXCURSION (R106). -/
def raiseGuard (slot : Fin 6) (rd : ShadeReading) (number : Option Nat) (s : State) : State :=
  match rd with
  | .excursion _ => raise .shadeGuard slot.val (number.getD 0) s
  | .ok _ | .invalid => s

/-- The entry at the end of a record's shade list, at most six, and an EXCURSION's defect (R107, R114). -/
def RepeatRecord.addShade (r : RepeatRecord) (slot : Fin 6) (rd : ShadeReading) : RepeatRecord :=
  let list := r.shade.getD []
  let isExcursion := match rd with
    | .excursion _ => true
    | .ok _ | .invalid => false
  if list.length < Config.shadeListCapacity then
    { r with
      shade := some (list ++ [⟨slot, rd⟩])
      defects := { r.defects with
        shadeA := r.defects.shadeA || (isExcursion && laneOfSlot slot.val == .a)
        shadeB := r.defects.shadeB || (isExcursion && laneOfSlot slot.val == .b) } }
  else r

/-- The entry is written into the record a measurement served (R107, R114). -/
def writeShade (slot : Fin 6) (rd : ShadeReading) (number : Option Nat) (s : State) : State :=
  match number with
  | some n => s.onTku (fun t => t.onRecord n (fun r => r.addShade slot rd))
  | none => s

/-- The head fault count at a completed measurement (R94): the eighth INVALID in a row raises HEAD-FAILED. -/
def countFault (slot : Fin 6) (rd : ShadeReading) (number : Option Nat) (s : State) : State :=
  match rd with
  | .ok _ | .excursion _ => s.onSmu (fun m => { m with faults := m.faults.set slot 0 })
  | .invalid =>
    if s.smu.faults[slot] + 1 < Config.headFaultLimit then
      s.onSmu (fun m => { m with faults := m.faults.set slot (m.faults[slot] + 1) })
    else
      raise .headFailed slot.val (number.getD 0)
        (s.onSmu (fun m => { m with enables := m.enables.set slot false, faults := m.faults.set slot 0 }))

/-- The steps a regular measurement and a spot share at completion, in the order of R107 and R114. -/
def completeShade (b : Measurement) (rd : ShadeReading) (number : Option Nat) (s : State) : State :=
  countFault b.slot rd number (writeShade b.slot rd number (raiseGuard b.slot rd number s))

/-! ### Completions (R98, R99, R114, R123) -/

/-- The scan after a completed measurement: it goes on, or ends (R97, R98). -/
def Scan.afterCompletion (c : Scan) (m : Smu) : Option Scan :=
  let c := { c with completed := c.completed + 1 }
  if c.nscan ≤ c.completed ∨ m.params.scanList.length ≤ c.visited then none else some c

/-- The pointer and the scan at a regular measurement's completion (R98); an overrun scan ends here, with
SCAN-OVERRUN where it left slots (R99; log 12). -/
def advanceScan (record position : Nat) (s : State) : State :=
  let s := s.onSmu (fun m => { m with pointer := nextPosition m.params.scanList.length position })
  match s.smu.overrun with
  | some c =>
    if c.record = record then
      raiseOverrun c (c.leftSlots true s.smu) (s.onSmu (fun m => { m with overrun := none }))
    else s
  | none =>
    match s.smu.scan with
    | some c =>
      if c.record = record then s.onSmu (fun m => { m with scan := c.afterCompletion m }) else s
    | none => s

/-- A regular measurement completes (R98, R107); the staged set behind it is applied last (R120). -/
def completeScan (b : Measurement) (record position : Nat) (s : State) : State :=
  let rd := s.smu.judged b.slot false (s.smu.outcome b)
  applyStaged b.slot (advanceScan record position (completeShade b rd (some record) (dropBus s)))

/-- The result of a spot whose measurement completed (R114). -/
def SpotContext.completed (c : SpotContext) (rd : ShadeReading) : SpotResult :=
  match rd with
  | .ok v => ⟨c.tag, c.source, c.slot, c.serves, .ok, some v, some false⟩
  | .excursion v => ⟨c.tag, c.source, c.slot, c.serves, .ok, some v, some true⟩
  | .invalid => c.resultOf .invalid

/-- A spot's measurement completes (R114). -/
def completeSpot (b : Measurement) (c : SpotContext) (s : State) : State :=
  let rd := s.smu.judged b.slot true (s.smu.outcome b)
  applyStaged b.slot (offerResult (c.completed rd) (completeShade b rd c.serves (dropBus s)))

/-- The gain that makes the white reading of a channel the white target (R123); none fails the slot. -/
def calibrationGain (white sum black : Nat) : Option Nat :=
  let d : Int := ((sum + 8) / 16 : Nat) - (black : Int)
  if d ≤ 0 then none
  else some (clampInt ((2 * (white : Int) * 32768 + d) / (2 * d)) 8192 65535).toNat

/-- The active set of a slot after a calibration of it; none fails the slot (R123). -/
def calibrateFactors (f : Factors) (white : Nat) (b : Measurement) : Option Factors :=
  if b.bad then none
  else do
    let r ← calibrationGain white b.sums.r f.blackR
    let g ← calibrationGain white b.sums.g f.blackG
    let l ← calibrationGain white b.sums.b f.blackB
    return { f with gainR := r, gainG := g, gainB := l }

/-- A slot of the calibration run is done; after the last, CAL-DONE (R123). -/
def nextCalibration (c : CalRun) (s : State) : State :=
  match c.todo with
  | [] => raise .calDone (slotMask c.passed) (slotMask c.requested) (s.onSmu (fun m => { m with calRun := none }))
  | _ :: _ => s.onSmu (fun m => { m with calRun := some c })

/-- The 16th sample of a slot of a calibration run is in (R123). -/
def completeCalibration (b : Measurement) (s : State) : State :=
  match s.smu.calRun with
  | none => applyStaged b.slot (dropBus s)
  | some c =>
    let s := dropBus s
    match calibrateFactors s.smu.active[b.slot] c.white b with
    | some f =>
      nextCalibration { c with todo := c.todo.tail, passed := c.passed ++ [b.slot] }
        (applyStaged b.slot (s.onSmu (fun m => { m with active := m.active.set b.slot f })))
    | none => nextCalibration { c with todo := c.todo.tail } (applyStaged b.slot s)

/-- A measurement completes (R92). -/
def completeMeasurement (b : Measurement) (s : State) : State :=
  match b.user with
  | .scan record position => completeScan b record position s
  | .spot c => completeSpot b c s
  | .cal => completeCalibration b s

/-- The measurement with the sample of the ended frame slot settled (R91, R92). -/
def Measurement.settle (b : Measurement) (e : Exchange) : Measurement :=
  match e.answer with
  | some (.good v) => { b with exchange := none, taken := b.taken + 1, sums := b.sums.plus v }
  | some .bad | none => { b with exchange := none, taken := b.taken + 1, bad := true }

/-- What follows a settled sample: a held SPOT STOP ends a spot ABANDONED (R117), the last sample completes the
measurement (R92), and otherwise it keeps the bus. -/
def afterSample (b : Measurement) (s : State) : State :=
  match b.user, s.smu.heldStops with
  | .spot c, _ :: _ => abandonSpot c s
  | _, _ =>
    if 2 ^ b.k ≤ b.taken then completeMeasurement b s
    else s.onSmu (fun m => { m with bus := some b })

/-- FRAME_SLOT_END (R91, R92). -/
def execFrameSlotEnd (s : State) : Host.Outcome State Fault Refusal :=
  .next (match s.smu.bus with
    | some b => match b.exchange with
      | some e => afterSample (b.settle e) s
      | none => s
    | none => s)

/-! ### The heads-parked input (R101, R115, R124) -/

/-- PRK_ACTIVE (R101, R115): regular scans and a spot in progress are abandoned. -/
def execPrkActive (s : State) : Host.Outcome State Fault Refusal :=
  .next (abandonSpotIf (fun _ => true)
    (abandonScans (s.onPins (fun p => { p with prk := !s.wtb.polarity.prk }))))

/-- PRK_INACTIVE (R124): a calibration run in progress ends early. -/
def execPrkInactive (s : State) : Host.Outcome State Fault Refusal :=
  .next (endCalibrationEarly (s.onPins (fun p => { p with prk := s.wtb.polarity.prk })))

/-! ### The requests -/

/-- SHADE SET is written: a new scan list sets the pointer to position 1 (R95), and KEEP to EMPTY drops the
standing context (R111). -/
def Smu.write (m : Smu) (p : ShadeParams) : Smu :=
  { m with
    params := p
    pointer := if p.scanList = m.params.scanList then m.pointer else 1
    standing := if m.params.keep = true ∧ p.keep = false then none else m.standing }

/-- SHADE SET (R95, R111, R119): the scan list is structural (R19). -/
def execShadeSet (tag : Byte) (f : ShadeFields) (s : State) : Host.Outcome State Fault Refusal :=
  .next (match f.resolve s.tku.params.n s.smu.params.offset with
    | none => answer tag 0x28#8 .badValue [] s
    | some p =>
      if p.scanList ≠ s.smu.params.scanList ∧ s.wtb.line ≠ .idle ∧ s.wtb.line ≠ .thread then
        answer tag 0x28#8 .wrongState [] s
      else answer tag 0x28#8 .ok [] (s.onSmu (fun m => m.write p)))

/-- The enables as a mask byte. -/
def Smu.enableMask (m : Smu) : List Byte := le1 (flagBits m.enables.toList)

/-- The enables after a SLOT ENABLE, and the fault counts of newly enabled slots at 0 (R93). -/
def Smu.enable (m : Smu) (mask : Byte) : Smu :=
  { m with
    enables := Vector.ofFn (fun i : Fin 6 => mask.getLsbD i.val)
    faults := Vector.ofFn (fun i : Fin 6 => if mask.getLsbD i.val && !m.enables[i] then 0 else m.faults[i]) }

/-- SLOT ENABLE (R93): the reply carries the mask after the request. -/
def execSlotEnable (tag mask : Byte) (s : State) : Host.Outcome State Fault Refusal :=
  let s := s.onSmu (fun m => m.enable mask)
  .next (answer tag 0x29#8 .ok s.smu.enableMask s)

/-- Write the guard window of a channel. -/
def Smu.putGuard (m : Smu) (c : Colour) (g : Guard) : Smu :=
  match c with
  | .r => { m with guardR := g }
  | .g => { m with guardG := g }
  | .b => { m with guardB := g }

/-- GUARD SET (R105). -/
def execGuardSet (tag : Byte) (channel : Coded Colour) (f : GuardFields) (s : State) :
    Host.Outcome State Fault Refusal :=
  .next (match channel, f.resolve with
    | some c, some g => answer tag 0x2A#8 .ok [] (s.onSmu (fun m => m.putGuard c g))
    | _, _ => answer tag 0x2A#8 .badValue [] s)

/-- Record n has passed the shade point (R112). -/
def Tku.passedShade (t : Tku) (n : Nat) : Bool :=
  match t.track with
  | [] => n < t.nextRepeat
  | oldest :: _ =>
    n < oldest.number || ((t.record? n).isSome && (match t.cursors.shade with
      | none => true
      | some m => decide (n < m)))

/-- A context whose numbered record has passed the shade point is consumed as it joins, and ends MISSED (R112). -/
def missIfPassed (c : SpotContext) (s : State) : State :=
  match c.target with
  | .number n =>
    if s.tku.passedShade n then endSpot c .missed (s.onSmu (fun m => m.consume c m.contexts.dropLast)) else s
  | .next | .immediate => s

/-- The context of a SPOT (R109). -/
def spotContext (slot : Fin 6) (k : Nat) (target : SpotTarget) (spotTag : Nat) : SpotContext :=
  ⟨slot, k, target, none, target == .immediate, spotTag, .link⟩

/-- SPOT (R109, R112): the reply does not wait for the measurement. -/
def execSpot (tag : Byte) (slot k : Nat) (target : Coded SpotTarget) (spotTag : Nat) (s : State) :
    Host.Outcome State Fault Refusal :=
  .next (match slotIndex slot, target with
    | some i, some t =>
      if !within 0 4 k || !t.inRange || !within 0 255 spotTag then answer tag 0x2B#8 .badValue [] s
      else match spotRefusal s with
        | some .full => answer tag 0x2B#8 .full (le1 0) s
        | some st => answer tag 0x2B#8 st [] s
        | none =>
          let c := spotContext i k t spotTag
          missIfPassed c (joinSpot c (answer tag 0x2B#8 .ok [] s))
    | _, _ => answer tag 0x2B#8 .badValue [] s)

/-- SPOT TRIGGER (R110): the outcome is 0 for DROPPED and 1 for QUEUED. -/
def execSpotTrigger (tag : Byte) (s : State) : Host.Outcome State Fault Refusal :=
  .next (match triggerAnswer s with
    | .wrongState => answer tag 0x2C#8 .wrongState [] s
    | .busy => answer tag 0x2C#8 .busy [] s
    | .full => answer tag 0x2C#8 .full (le1 0) s
    | .dropped => answer tag 0x2C#8 .ok (le1 0) (spotTrigger .link s)
    | .queued => answer tag 0x2C#8 .ok (le1 1) (spotTrigger .link s))

/-- SPOT STOP (R117): the queue is emptied at once; the reply is held while a spot is in progress. -/
def execSpotStop (tag : Byte) (s : State) : Host.Outcome State Fault Refusal :=
  let stop : HeldStop := ⟨tag, s.smu.contexts.length⟩
  let emptied := s.onSmu (fun m => { m with contexts := [], standing := none })
  .next (match s.smu.spotInProgress with
    | some _ => emptied.onSmu (fun m => { m with heldStops := m.heldStops ++ [stop] })
    | none => pushReply (stopReply stop) emptied)

/-- The source of a spot in a reply: LINK 0, or route slot 1 with its number (R191). -/
def SpotSource.bytes : SpotSource → List Byte
  | .link => le1 0 ++ le1 0
  | .route i => le1 1 ++ le1 i.val

/-- The codes of the spot outcomes (R116, R191). -/
def SpotStatus.code : SpotStatus → Nat
  | .ok => 0 | .invalid => 1 | .missed => 2 | .abandoned => 3

/-- A spot result in a reply (R114, R191; log 11). -/
def SpotResult.bytes (r : SpotResult) : List Byte :=
  le1 r.tag ++ r.source.bytes ++ le1 r.slot.val ++ le4 (r.number.getD 0) ++ le1 r.status.code ++
  optional 7 (r.values.map (fun v => le2 v.r ++ le2 v.g ++ le2 v.b ++ coded2 (r.outside != some true)))

/-- SPOT READ (R116). -/
def execSpotRead (tag : Byte) (count : Nat) (s : State) : Host.Outcome State Fault Refusal :=
  .next (if !within 1 4 count then answer tag 0x2E#8 .badValue [] s
    else
      let rs := s.smu.results.take count
      answer tag 0x2E#8 .ok (le1 rs.length ++ rs.flatMap SpotResult.bytes)
        (s.onSmu (fun m => { m with results := m.results.drop count })))

/-- A measurement or a calibration of the slot is in progress (R120). -/
def Smu.busyWith (m : Smu) (slot : Fin 6) : Bool := (m.bus.map (fun b => b.slot == slot)).getD false

/-- CAL WRITE (R120): APPLIED is 0 and STAGED is 1. -/
def execCalWrite (tag : Byte) (slot : Nat) (f : Factors) (s : State) : Host.Outcome State Fault Refusal :=
  .next (match slotIndex slot with
    | none => answer tag 0x2F#8 .badValue [] s
    | some i =>
      if !f.inRange then answer tag 0x2F#8 .badValue [] s
      else if s.smu.busyWith i then
        answer tag 0x2F#8 .ok (le1 1) (s.onSmu (fun m => { m with staged := m.staged.set i (some f) }))
      else
        answer tag 0x2F#8 .ok (le1 0)
          (s.onSmu (fun m => { m with active := m.active.set i f, staged := m.staged.set i none })))

/-- The six factors of a slot in a reply, in the order in which CAL WRITE carries them (R120, R121; log 11). -/
def factorBytes (f : Factors) : List Byte :=
  le2 f.gainR ++ le2 f.gainG ++ le2 f.gainB ++ le2 f.blackR ++ le2 f.blackG ++ le2 f.blackB

/-- CAL READ (R121). -/
def execCalRead (tag : Byte) (slot : Nat) (s : State) : Host.Outcome State Fault Refusal :=
  .next (match slotIndex slot with
    | none => answer tag 0x30#8 .badValue [] s
    | some i =>
      answer tag 0x30#8 .ok (factorBytes s.smu.active[i] ++ optional 12 (s.smu.staged[i].map factorBytes)) s)

/-- CALIBRATE (R122). -/
def execCalibrate (tag mask : Byte) (s : State) : Host.Outcome State Fault Refusal :=
  let slots := slotsOfMask mask
  .next (if slots = [] then answer tag 0x31#8 .badValue [] s
    else if s.wtb.line = .run ∨ s.wtb.line = .fault then answer tag 0x31#8 .wrongState [] s
    else if s.smu.calRun.isSome then answer tag 0x31#8 .busy [] s
    else if !s.parked then answer tag 0x31#8 .notParked [] s
    else answer tag 0x31#8 .ok []
      (s.onSmu (fun m => { m with calRun := some ⟨slots, slots, [], m.params.whiteTarget⟩ })))

end Sys2Proof.Machine
end

