-- ==== Sys2Proof/Machine/Wtb.lean ====
section
/-! DEFINITION. The Web Timebase (chapter 1): the encoder, the speed sampler, the emergency stop, the inputs'
settings and the job requests with what each block does at them. A job request's reply joins the reply path
first (log 9); LINE-STATE is raised next, and the blocks then act in the order of Figure 1 (log 8). -/

namespace Sys2Proof.Machine

/-! ### Encoder and speed (R1 to R5) -/

/-- The levels of the encoder pair after one channel has changed (R1). -/
def Pins.toggle (p : Pins) : EncChannel → Pins
  | .a => { p with encA := !p.encA }
  | .b => { p with encB := !p.encB }

/-- A count is forward (R1): from the channel that changed, the levels after it and the count-direction
setting. -/
def countForward (channel : EncChannel) (after : Pins) (reversed : Bool) : Bool :=
  let plain := match channel with
    | .a => after.encA == after.encB
    | .b => after.encA != after.encB
  plain != reversed

/-- HW, the new-web flag and the end of a reverse excursion after a forward count (R3, R4). -/
def Wtb.forward (w : Wtb) : Wtb :=
  let w := { w with wp := w.wp + 1, netCount := w.netCount + 1 }
  match w.line with
  | .idle | .thread => { w with hw := w.wp, newWeb := false }
  | .run | .hold | .fault =>
    let w := { w with excursion := w.excursion && decide (sdiff w.wp w.hw < 0) }
    if 0 < sdiff w.wp w.hw then { w with hw := w.wp, newWeb := true } else { w with newWeb := false }

/-- WP and HW after a reverse count (R2, R3). -/
def Wtb.backward (w : Wtb) : Wtb :=
  let w := { w with wp := w.wp - 1, netCount := w.netCount - 1, newWeb := false }
  match w.line with
  | .idle | .thread => { w with hw := w.wp }
  | .run | .hold | .fault => w

/-- The depth of reverse travel passes N outside an excursion (R4). DESIGN CHOICE (log 52): a depth that a change of N
in HOLD has brought above N counts as passing it at the next reverse count. -/
def State.reversedTooFar (s : State) : Bool :=
  s.running && !s.wtb.excursion && decide ((s.tku.params.n : Int) < sdiff s.wtb.hw s.wtb.wp)

/-- REVERSE (R4): the flag, the occurrence, then HOLD with resume disarmed. -/
def reverseExcursion (s : State) : State :=
  let s := raise .reverse 0 s.wtb.hw.toNat (s.onWtb (fun w => { w with excursion := true }))
  match s.wtb.line with
  | .run => noticeLineState .reverse (enterHold false s)
  | .hold => s.onWtb (fun w => { w with resumeArmed := false })
  | .idle | .thread | .fault => s

/-- ENCODER_COUNT (R1 to R4): one level change of ENC A or ENC B. -/
def execEncoderCount (channel : EncChannel) (s : State) : Host.Outcome State Fault Refusal :=
  let s := s.onPins (fun p => p.toggle channel)
  .next (if countForward channel s.pins s.wtb.polarity.reversed then s.onWtb Wtb.forward
    else
      let s := s.onWtb Wtb.backward
      if s.reversedTooFar then reverseExcursion s else s)

/-- ILLEGAL_TRANSITION (R1): both channels change; WP stands and ENCODER latches. -/
def execIllegalTransition (s : State) : Host.Outcome State Fault Refusal :=
  .next (latchCause .encoder (s.onPins (fun p => (p.toggle .a).toggle .b)))

/-- The sampler closes a net count and forms v and the direction (R5). -/
def Wtb.sample (w : Wtb) : Wtb :=
  let sum := w.netCount + w.s1 + w.s2 + w.s3
  { w with
    s1 := w.netCount, s2 := w.s1, s3 := w.s2, s4 := w.s3, netCount := 0
    v := if 0 ≤ sum then min 255 (sum / 4).toNat else 0
    reverse := decide (sum < 0) }

/-- SPEED_SAMPLE (R5, R12, R13, R87). -/
def execSpeedSample (s : State) : Host.Outcome State Fault Refusal :=
  let s := s.onWtb Wtb.sample
  .next (match s.wtb.line with
    | .run =>
      if s.wtb.autoHold = true ∧ s.wtb.v < s.wtb.crawl then noticeLineState .crawl (enterHold true s) else s
    | .hold =>
      if s.wtb.resumeArmed = true ∧ s.wtb.crawl + 2 ≤ s.wtb.v then actOnReengage (enterRun .speed s) else s
    | .idle | .thread | .fault => s)

/-! ### The emergency stop and the inputs (R16, R17, R21) -/

/-- EST is read (R16): active with the latch clear, ESTOP latches. -/
def readEst (s : State) : State := if s.estActive then latchCause .estop s else s

/-- EST_ACTIVE (R16; log 4). -/
def execEstActive (energised : Bool) (s : State) : Host.Outcome State Fault Refusal :=
  .next (readEst (s.onPins (fun p => { p with est := energised })))

/-- A change of polarity acts (R21): the present SCN and EIX levels become the inputs' levels without an edge,
and a half-seen mark is abandoned; then EST is read. -/
def applyPolarity (p : Polarity) (s : State) : State :=
  let old := s.wtb.polarity
  let s := s.onWtb (fun w => { w with polarity := p })
  let s := if p.scn = old.scn then s
    else s.onTku (fun t => { t with scnPrev := s.scnActive, halfSeen := none })
  let s := if p.eix = old.eix then s else s.onEpu (fun e => { e with eixPrev := s.eixActive })
  readEst s

/-- INPUT SET (R19, R21): every field is structural. -/
def execInputSet (tag : Byte) (f : InputFields) (s : State) : Host.Outcome State Fault Refusal :=
  .next (match f.resolve with
    | none => answer tag 0x09#8 .badValue [] s
    | some p =>
      if p = s.wtb.polarity then answer tag 0x09#8 .ok [] s
      else if s.wtb.line ≠ .idle ∧ s.wtb.line ≠ .thread then answer tag 0x09#8 .wrongState [] s
      else applyPolarity p (answer tag 0x09#8 .ok [] s))

/-- LINE SET (R6). -/
def execLineSet (tag : Byte) (crawl : Nat) (autoHold : Coded Bool) (s : State) :
    Host.Outcome State Fault Refusal :=
  .next (match autoHold with
    | none => answer tag 0x0A#8 .badValue [] s
    | some h =>
      if !within 2 40 crawl then answer tag 0x0A#8 .badValue [] s
      else answer tag 0x0A#8 .ok [] (s.onWtb (fun w => { w with crawl := crawl, autoHold := h })))

/-- The present condition of a stop cause (section 1.4). -/
def State.causePresent (s : State) : StopCause → Bool
  | .estop => s.estActive
  | .nipStuck => s.nipClosed
  | .encoder | .trackOverflow | .winder => false

/-- The causes a STOP ACK names (R17). -/
def causesNamed (code : Nat) : List StopCause := StopCause.all.filter (fun c => code == 0 || c.code == code)

/-- The latched causes as a set byte (R17, R191): bit c - 1 for cause c. -/
def Latches.bytes (l : Latches) : List Byte := le1 (flagBits (StopCause.all.map l.get))

/-- The latches after a STOP ACK of these causes (R17): one whose condition is absent clears. -/
def State.acknowledge (s : State) (causes : List StopCause) : Latches :=
  causes.foldl (fun l c => l.put c (l.get c && s.causePresent c)) s.wtb.latched

/-- STOP ACK (R17). -/
def execStopAck (tag : Byte) (code : Nat) (s : State) : Host.Outcome State Fault Refusal :=
  .next (if !within 0 5 code then answer tag 0x08#8 .badValue [] s
    else
      let l := s.acknowledge (causesNamed code)
      answer tag 0x08#8 (if (causesNamed code).any l.get then .stillActive else .ok) l.bytes
        (s.onWtb (fun w => { w with latched := l })))

/-! ### Opening and starting a job (R8, R9) -/

/-- The blocks' job-open changes (R38, R47, R70, R72, R75, R77, R116, R118, R143, R144, R150, R152, R173). The last
index outcome becomes none with the phase register (R89; log 39). -/
def openBlocks (s : State) : State :=
  let s := seedEstimate (s.onTku (fun t => { t with nextRepeat := 1, readCursor := 1 }))
  let s := s.onRlu (fun r => { r with channels := r.channels.map (fun c => { c with total := 0 }) })
  let s := s.onEpu (fun e => { e with
    state := if e.params.configured then .opened else .none, lastPhase := none, lastOutcome := none })
  let s := s.onSmu (fun m => { m with results := [], drops := 0 })
  let s := s.onRku (fun k => { k with history := [], readCursor := none, nextRoll := 1, wrapped := false })
  let s := s.onBtu (fun b => { b with batches := [], sequence := 1, breakPending := false, takes := 0 })
  s.onLbp (fun b => b.unlink (fun _ => true))

/-- JOB OPEN (R8). -/
def execJobOpen (tag : Byte) (s : State) : Host.Outcome State Fault Refusal :=
  .next (if s.wtb.line ≠ .idle then answer tag 0x01#8 .wrongState [] s
    else if s.wtb.latched.any then answer tag 0x01#8 .stillActive [] s
    else openBlocks (enterThread (answer tag 0x01#8 .ok [] s)))

/-- The loop state of a station at JOB START (R54). -/
def Station.start (st : Station) : Station := { st with outRun := 0, missRun := 0, alarmArmed := true }

/-- The blocks' changes as the track starts (R4, R9, R22, R24, R27, R33, R38, R54, R76, R77, R97, R148). -/
def startTrack (s : State) : State :=
  let s := s.onWtb (fun w => { w with excursion := false })
  let s := (seedEstimate s).onTku (fun t => { t with
    scanner := .acquire, scnPrev := s.scnActive, halfSeen := none, coastCount := 0, stray := 0 })
  let s := loadAutoSettles (s.onRlu (fun r => { r with stations := r.stations.map Station.start }))
  let s := s.onEpu (fun e => { e with lastPhase := none, lastOutcome := none, eixPrev := s.eixActive })
  let s := s.onSmu (fun m => { m with pointer := 1 })
  s.onRku (fun k => { k with laneA := k.laneA.start, laneB := k.laneB.start })

/-- The line enters RUN, or HOLD with resume armed, by the v of the latest speed sample (R9). -/
def enterRunning (s : State) : State :=
  if s.wtb.crawl ≤ s.wtb.v then enterRun .request s
  else noticeLineState .request (s.onWtb (fun w => { w with line := .hold, resumeArmed := true }))

/-- JOB START (R9, R10): INVALID-JOB carries the reason code of the first check that fails. -/
def execJobStart (tag : Byte) (s : State) : Host.Outcome State Fault Refusal :=
  .next (if s.wtb.line ≠ .thread then answer tag 0x02#8 .wrongState [] s
    else match firstFailing jobStartChecks s.tku.params s with
      | some c => answer tag 0x02#8 .invalidJob (le1 c) s
      | none => enterRunning (startTrack (answer tag 0x02#8 .ok [] s)))

/-! ### Holding and resuming (R11, R13) -/

/-- JOB HOLD (R11). -/
def execJobHold (tag : Byte) (s : State) : Host.Outcome State Fault Refusal :=
  .next (match s.wtb.line with
    | .run => noticeLineState .request (enterHold false (answer tag 0x03#8 .ok [] s))
    | .hold => (answer tag 0x03#8 .ok [] s).onWtb (fun w => { w with resumeArmed := false })
    | .idle | .thread | .fault => answer tag 0x03#8 .wrongState [] s)

/-- JOB RESUME (R13). -/
def execJobResume (tag : Byte) (s : State) : Host.Outcome State Fault Refusal :=
  .next (if s.wtb.line = .hold then
      (answer tag 0x04#8 .ok [] s).onWtb (fun w => { w with resumeArmed := true })
    else answer tag 0x04#8 .wrongState [] s)

/-! ### Stopping, ending and recovering (R14, R15, R18) -/

/-- The blocks' stop changes (R14, R47, R86, R102, R118, R146, R147). -/
def stopBlocks (s : State) : State := gapLanes (shadeAtStop (embossAtStop (emptyTrack s)))

/-- JOB STOP (R14). -/
def execJobStop (tag : Byte) (s : State) : Host.Outcome State Fault Refusal :=
  .next (if s.running then stopBlocks (enterThread (answer tag 0x05#8 .ok [] s))
    else answer tag 0x05#8 .wrongState [] s)

/-- The line enters IDLE (R15). -/
def enterIdle (s : State) : State :=
  noticeLineState .request (s.onWtb (fun w => { w with line := .idle, resumeArmed := false }))

/-- The emboss unit at JOB END (R86): NONE, and a running release watch runs on. -/
def embossAtEnd (s : State) : State :=
  s.onEpu (fun e => { e with state := .none, npc := false, closeTimer := none, reengage := false })

/-- The blocks' job-end changes (R15, R68, R86, R118, R149, R164, R183), the routes last. -/
def endBlocks (s : State) : State :=
  let s := rollsAtEnd (shadeAtEnd (embossAtEnd (zeroTrims s)))
  (s.onBtu (fun b => { b with batches := [] })).onEvu (fun e => { e with routes := Vector.replicate 4 none })

/-- JOB END (R15). -/
def execJobEnd (tag : Byte) (s : State) : Host.Outcome State Fault Refusal :=
  .next (if s.wtb.line = .thread then endBlocks (enterIdle (answer tag 0x06#8 .ok [] s))
    else answer tag 0x06#8 .wrongState [] s)

/-- The emboss unit at RECOVER (R86): a releasing unit enters OPEN, its release watch runs on. -/
def embossAtRecover (s : State) : State :=
  s.onEpu (fun e => { e with
    state := if e.state = .releasing then .opened else e.state, reengage := false })

/-- The blocks' recover changes (R18, R47, R86, R118, R146, R147). -/
def recoverBlocks (s : State) : State := gapLanes (shadeAtRecover (embossAtRecover (emptyTrack s)))

/-- RECOVER (R18). -/
def execRecover (tag : Byte) (s : State) : Host.Outcome State Fault Refusal :=
  .next (if s.wtb.line ≠ .fault then answer tag 0x07#8 .wrongState [] s
    else if s.wtb.latched.any then answer tag 0x07#8 .stillActive [] s
    else recoverBlocks (enterThread (answer tag 0x07#8 .ok [] s)))

end Sys2Proof.Machine
end

