-- ==== Sys2Proof/Machine/Evu.lean ====
section
/-! DEFINITION. The requests of the Event Unit (chapter 10): levels, the floor, clearing notices, and the trigger
routes. -/

namespace Sys2Proof.Machine

/-- EVENT LEVEL (R175): the reply carries the level before the request. -/
def execEventLevel (tag : Byte) (code level : Nat) (s : State) : Host.Outcome State Fault Refusal :=
  .next (match Event.ofCode code with
    | none => answer tag 0x50#8 .badValue [] s
    | some ev =>
      if !within 0 7 level then answer tag 0x50#8 .badValue [] s
      else answer tag 0x50#8 .ok (le1 (s.evu.level ev))
        (s.onEvu (fun e => { e with levels := e.levels.set ev.index level })))

/-- NOTICE FLOOR (R181): the reply carries the floor before the request; a lowered floor makes the waiting notices
available at once. -/
def execNoticeFloor (tag : Byte) (floor : Nat) (s : State) : Host.Outcome State Fault Refusal :=
  .next (if !within 0 7 floor then answer tag 0x51#8 .badValue [] s
    else pump (answer tag 0x51#8 .ok (le1 s.evu.floor) (s.onEvu (fun e => { e with floor := floor }))))

/-- A queued notice is named by a NOTICE CLEAR code (R182). -/
def Notice.named (n : Notice) (code : Nat) : Bool := code == 0 || n.event.code == code

/-- NOTICE CLEAR (R182): the reply carries the number removed. -/
def execNoticeClear (tag : Byte) (code : Nat) (s : State) : Host.Outcome State Fault Refusal :=
  .next (if !within 0 31 code then answer tag 0x52#8 .badValue [] s
    else answer tag 0x52#8 .ok (le1 (s.evu.notices.filter (fun n => n.named code)).length)
      (s.onEvu (fun e => { e with notices := e.notices.filter (fun n => !n.named code) })))

/-- ROUTE BIND (R176): the binding replaces any held before, without ROUTE-END. -/
def execRouteBind (tag : Byte) (slot code : Nat) (action : Coded RouteAction) (count : Nat) (s : State) :
    Host.Outcome State Fault Refusal :=
  .next (match routeIndex slot, Event.ofCode code, action with
    | some i, some ev, some a =>
      if ev.unroutable || !a.inRange || !within 1 255 count then answer tag 0x53#8 .badValue [] s
      else answer tag 0x53#8 .ok []
        (s.onEvu (fun e => { e with routes := e.routes.set i (some ⟨ev, a, count⟩) }))
    | _, _, _ => answer tag 0x53#8 .badValue [] s)

/-- ROUTE UNBIND (R176): the mark shows whether the slot was bound. -/
def execRouteUnbind (tag : Byte) (slot : Nat) (s : State) : Host.Outcome State Fault Refusal :=
  .next (match routeIndex slot with
    | none => answer tag 0x54#8 .badValue [] s
    | some i =>
      answer tag 0x54#8 .ok (mark s.evu.routes[i].isSome)
        (s.onEvu (fun e => { e with routes := e.routes.set i none })))

/-- The remaining count of a slot; an unbound slot has none left. -/
def Evu.remaining (e : Evu) (i : Fin 4) : Nat := (e.routes[i].map (·.remaining)).getD 0

/-- ROUTE FIRE (R179): the action runs with no occurrence behind it, so an EVENT-lane CUT names both lanes; the
outcome is 0 for DONE and 1 for NOT-DONE. -/
def execRouteFire (tag : Byte) (slot : Nat) (s : State) : Host.Outcome State Fault Refusal :=
  .next (match routeIndex slot with
    | none => answer tag 0x55#8 .badValue [] s
    | some i => match s.evu.routes[i] with
      | none => answer tag 0x55#8 .notFound [] s
      | some r =>
        let a := runAction i r.action [.a, .b] s
        let s := if a.done then finishAction i a.held a.state else a.state
        answer tag 0x55#8 .ok (coded2 a.done ++ le1 (s.evu.remaining i)) s)

end Sys2Proof.Machine
end

