-- ==== Sys2Proof/Machine/Status.lean ====
section
/-! DEFINITION. What IDENTIFY and STATUS report (R188): the sections of R188 in order, and within each the items in
the order of their rules, laid out under R191 (log 11). -/

namespace Sys2Proof.Machine

/-! ### Sections 1 to 3 -/

/-- Section 1: the line (R2, R3, R5, R13, R16). DESIGN CHOICE (log 56): the items stand in the order of R188's Items
column, not in that of the rules it names. -/
def statusLine (w : Wtb) : List Byte :=
  le1 w.line.code ++ mark w.resumeArmed ++ w.latched.bytes ++ le4 w.wp.toNat ++ le4 w.hw.toNat ++ le1 w.v ++
  coded2 (!w.reverse) ++ le1 w.crawl ++ coded2 w.autoHold

/-- The codes of the scanner states, in the order of the chapter. -/
def ScannerState.code : ScannerState → Nat
  | .off => 0 | .acquire => 1 | .tracking => 2

/-- The growth in parts per million (R38). -/
def Tku.growth (t : Tku) : Int :=
  if t.params.n = 0 then 0 else ((t.estimate - 16 * t.params.n) * 62500).tdiv t.params.n

/-- Section 2: the track (R24, R33, R38). -/
def statusTrack (t : Tku) : List Byte :=
  le1 t.scanner.code ++ le2 t.track.length ++ le4 ((t.track.head?.map (·.number)).getD 0) ++
  le4 ((t.track.getLast?.map (·.number)).getD 0) ++ le1 t.coastCount ++ le2 t.stray ++ sle4 t.estimate ++
  sle4 t.growth

/-- Section 3: stations and trim channels (R73). -/
def statusRegister (r : Rlu) : List Byte :=
  r.stations.toList.flatMap (fun st => le1 st.mode.code ++ le1 st.settle) ++
  r.channels.toList.flatMap (fun c => sle2 c.owed ++ le4 c.total.toNat)

/-! ### Section 4 -/

/-- The codes of the emboss states, in the order of the chapter. -/
def EmbossState.code : EmbossState → Nat
  | .none => 0 | .opened => 1 | .syncing => 2 | .engaged => 3 | .releasing => 4

/-- The codes of an index outcome. -/
def IndexOutcome.code : IndexOutcome → Nat
  | .valid => 0 | .noReference => 1

/-- Section 4: the emboss unit (R89). DESIGN CHOICE (log 48): the level of NPC is 1 where the output is active, and
that of NPF 1 where the input shows closed. -/
def statusEmboss (s : State) : List Byte :=
  let e := s.epu
  le1 e.state.code ++ optional 8 (e.lastPhase.map (fun p => sle4 p.phase ++ le4 p.number)) ++
  optional 1 (e.lastOutcome.map (fun o => le1 o.code)) ++ le1 e.engageCount ++ le1 e.settle ++
  mark e.nipConfirmed ++ mark e.releaseWatch.isSome ++ mark e.reengage ++ mark e.npc ++ mark s.nipClosed

/-! ### Section 5 -/

/-- The regular scan in flight: an overrun scan until its running measurement has completed (R96, R99; log 12). -/
def Smu.scanInFlight (m : Smu) : Option Scan := m.overrun.or m.scan

/-- Regular measurement (R108). DESIGN CHOICE (log 48): the level of PRK is 1 where the input reads active, the heads
parked, and 0 else. -/
def statusShade (s : State) : List Byte :=
  let m := s.smu
  mark s.parked ++ m.enableMask ++ m.faults.toList.flatMap le1 ++ le1 m.pointer ++ le1 m.slotAtPointer ++
  optional 5 (m.scanInFlight.map (fun c => le4 c.record ++ le1 c.completed))

/-- Spot work and calibration (R125). -/
def statusSpots (m : Smu) : List Byte :=
  coded2 m.params.keep ++ coded2 (!m.params.overwrite) ++ le1 m.contexts.length ++ mark m.standing.isSome ++
  optional 6 (m.spotInProgress.map (fun c => le1 c.slot.val ++ le1 c.tag ++ le4 (c.serves.getD 0))) ++
  mark (m.heldStops != []) ++ le1 m.results.length ++ le1 m.drops ++
  optional 3 (m.calRun.map (fun c =>
    le1 (slotMask c.requested) ++ le1 ((c.todo.head?.map Fin.val).getD 0) ++ le1 (slotMask c.passed)))

/-! ### Sections 6 to 10 -/

/-- The codes of the lane states, in the order of R126. -/
def LaneState.code : LaneState → Nat
  | .off => 0 | .leader => 1 | .winding => 2 | .armed => 3 | .indexing => 4

/-- One lane (R151). The open roll's number or none takes a presence byte (R191); where no roll is open its repeat
count, its length and its deferral count are 0 (log 11). DESIGN CHOICE (log 55): a cut that waits after a deferral is
reported as armed, with the fire position at which it was attempted. -/
def statusLane (k : LaneControl) : List Byte :=
  le1 k.state.code ++ optional 2 (k.roll.map (fun r => le2 r.number)) ++ le2 ((k.roll.map (·.counts.repeats)).getD 0) ++
  sle4 ((k.roll.map (fun r => sdiff r.lastRef r.opening)).getD 0) ++
  le1 ((k.roll.map (·.deferrals)).getD 0) ++
  optional 8 (k.cut.map (fun c => le4 c.record ++ le4 c.fire.toNat)) ++ mark k.force ++ mark k.turret.isSome

/-- Section 6: lanes and rolls (R151). -/
def statusRolls (k : Rku) : List Byte :=
  statusLane k.laneA ++ statusLane k.laneB ++ le1 k.history.length ++ rollCursorBytes k.readCursor ++
  le2 k.nextRoll

/-- Section 7: the batch table (R163). -/
def statusBatches (b : Btu) : List Byte := le1 b.batches.length ++ le2 b.sequence ++ mark b.breakPending

/-- Section 8: the label port (R173). -/
def statusLabels (b : Lbp) : List Byte :=
  le1 b.listA.length ++ le1 b.listB.length ++
  optional 5 (b.inFlight.map (fun f => le2 f.job.roll ++ le1 f.job.lane.code ++ le1 f.attempt ++ [b.exchange])) ++
  le1 b.lastGranted.code ++ [b.lastFailure] ++ coded2 b.params.enabledA ++ coded2 b.params.enabledB ++
  le1 b.params.templateA ++ le1 b.params.templateB ++ le2 b.params.timeout ++ le1 b.params.retries

/-- A route slot: code, action with its parameter, remaining count, or unbound (R183). -/
def Route.bytes (r : Route) : List Byte := le1 r.event.code ++ encodeAction (some r.action) ++ le1 r.remaining

/-- Section 9: the event unit (R183). -/
def statusEvents (e : Evu) : List Byte :=
  le1 e.notices.length ++ le1 e.dropped ++ le1 e.floor ++
  e.routes.toList.flatMap (fun r => optional 8 (r.map Route.bytes))

/-- Section 10: the link (R184, R185). -/
def statusLink (v : Svl) : List Byte := le1 v.input.length ++ le2 v.discarded

/-- The STATUS reply fields (R188). -/
def statusBytes (s : State) : List Byte :=
  statusLine s.wtb ++ statusTrack s.tku ++ statusRegister s.rlu ++ statusEmboss s ++ statusShade s ++
  statusSpots s.smu ++ statusRolls s.rku ++ statusBatches s.btu ++ statusLabels s.lbp ++ statusEvents s.evu ++
  statusLink s.svl

/-- The IDENTIFY reply fields (R188): vendor, part, revision letter A, and six descriptors. -/
def identifyBytes : List Byte :=
  le2 0x0A71 ++ le2 7160 ++ le1 0x41 ++ le1 6 ++ le1 1 ++ le2 8 ++ le1 2 ++ le2 6 ++ le1 3 ++ le2 2 ++
  le1 4 ++ le2 512 ++ le1 5 ++ le2 4 ++ le1 6 ++ le2 16

end Sys2Proof.Machine
end

