-- ==== Sys2Proof/Machine/Svl.lean ====
section
/-! DEFINITION. The Supervisor Link (chapter 11): the frame receiver, the input queue, the request taker, the end of
a sent frame, IDENTIFY, STATUS, RESET and power-on. -/

namespace Sys2Proof.Machine

/-! ### Frames in (R184, R185) -/

/-- A frame is discarded (R184): the count rises and the receiver hunts. -/
def discardFrame (s : State) : State :=
  s.onSvl (fun v => { v with receiver := none, discarded := satInc Config.countLimit v.discarded })

/-- A QUEUE-FULL reply waits in the reply path (R185). -/
def Svl.queueFullWaiting (v : Svl) : Bool := v.replies.any (fun r => r.kind == .queueFull)

/-- A frame that passes its check joins the input queue, or draws QUEUE-FULL, or is discarded (R185). -/
def enqueue (f : RequestFrame) (s : State) : State :=
  let s := s.onSvl (fun v => { v with receiver := none })
  if s.svl.input.length < Config.inputCapacity then s.onSvl (fun v => { v with input := v.input ++ [f] })
  else if s.svl.queueFullWaiting then discardFrame s
  else pushReply ⟨.queueFull, f.tag, f.type, .queueFull, [], false⟩ s

/-- The bytes after the start byte are a whole frame: the check decides it (R184). -/
def judgeFrame (bs : List Byte) (s : State) : State :=
  let len := field bs 0 2
  if field bs (2 + len) 2 = (crc16 (bs.take (2 + len))).toNat then
    enqueue ⟨bs.getD 2 0, bs.getD 3 0, (bs.take (2 + len)).drop 4⟩ s
  else discardFrame s

/-- One byte in RECEIVING (R184): LEN is judged when complete, CHECK at its last byte. -/
def receiveMore (bs : List Byte) (s : State) : State :=
  let len := field bs 0 2
  if bs.length < 2 then s.onSvl (fun v => { v with receiver := some bs })
  else if len < 2 ∨ 502 < len then discardFrame s
  else if bs.length < len + 4 then s.onSvl (fun v => { v with receiver := some bs })
  else judgeFrame bs s

/-- One byte arrives on SV (R184). -/
def receiveByte (s : State) (b : Byte) : State :=
  match s.svl.receiver with
  | none => if b = startByte then s.onSvl (fun v => { v with receiver := some [] }) else s
  | some bs => receiveMore (bs ++ [b]) s

/-- FRAME_RECEIVED (R184, R185): these bytes arrive without a gap above 1 ms. -/
def execFrameReceived (bytes : List Byte) (s : State) : Host.Outcome State Fault Refusal :=
  .next (bytes.foldl receiveByte s)

/-- INTER_BYTE_TIMEOUT (R184): a gap of more than 1 ms inside a frame. -/
def execInterByteTimeout (s : State) : Host.Outcome State Fault Refusal :=
  .next (if s.svl.receiver.isSome then discardFrame s else s)

/-! ### IDENTIFY, STATUS, RESET and power-on (R188 to R190) -/

/-- IDENTIFY (R188). -/
def execIdentify (tag : Byte) (s : State) : Host.Outcome State Fault Refusal :=
  .next (answer tag 0x60#8 .ok identifyBytes s)

/-- STATUS (R188): the items as they stand at the taking. -/
def execStatus (tag : Byte) (s : State) : Host.Outcome State Fault Refusal :=
  .next (answer tag 0x61#8 .ok (statusBytes s) s)

/-- RESET (R189): its OK joins the reply path, and the part returns to its power-on state when that reply has been
sent. -/
def execReset (tag : Byte) (s : State) : Host.Outcome State Fault Refusal :=
  .next (pushReply ⟨.ordinary, tag, 0x62#8, .ok, [], true⟩ s)

/-- The part after power-on (R190); the line-side levels and the waiting commands are outside it (log 5). -/
def powerOnState (s : State) : State := { State.reset with pins := s.pins, pending := s.pending }

/-- The part after RESET (R189): as after power-on, with the calibration table kept (R120). Its reply has been
sent, so the first frame since power-on has (R190; log 9). A staged set behind a measurement in flight is discarded with
the other staged sets (R120, R189; log 46). -/
def resetReturn (s : State) : State :=
  ((powerOnState s).onSmu (fun m => { m with active := s.smu.active })).onSvl (fun v => { v with replied := true })

/-- POWER_ON (R190). -/
def execPowerOn (s : State) : Host.Outcome State Fault Refusal := .next (powerOnState s)

/-! ### Frames out and the request taker (R186, R187) -/

/-- FRAME_SENT (R187, R189): the frame being sent has ended; the sender takes the next, or the RESET it answered is
made. -/
def execFrameSent (s : State) : Host.Outcome State Fault Refusal :=
  .next (match s.svl.sending with
    | none => s
    | some f => if f.resets then resetReturn s else pump (s.onSvl (fun v => { v with sending := none })))

/-- The owner takes a request under the rules of its chapter (R186). -/
def deliver (i : Instr) (s : State) : Host.Outcome State Fault Refusal :=
  match i with
  | .jobOpen t => execJobOpen t s
  | .jobStart t => execJobStart t s
  | .jobHold t => execJobHold t s
  | .jobResume t => execJobResume t s
  | .jobStop t => execJobStop t s
  | .jobEnd t => execJobEnd t s
  | .recover t => execRecover t s
  | .stopAck t c => execStopAck t c s
  | .inputSet t f => execInputSet t f s
  | .lineSet t c h => execLineSet t c h s
  | .repeatSet t f => execRepeatSet t f s
  | .pathSet t f => execPathSet t f s
  | .trackSeek t x => execTrackSeek t x s
  | .trackRead t c => execTrackRead t c s
  | .stationSet t k f => execStationSet t k f s
  | .stationMode t k m => execStationMode t k m s
  | .trim t c n => execTrim t c n s
  | .embossSet t f => execEmbossSet t f s
  | .embossEngage t => execEmbossEngage t s
  | .embossRelease t => execEmbossRelease t s
  | .shadeSet t f => execShadeSet t f s
  | .slotEnable t m => execSlotEnable t m s
  | .guardSet t c f => execGuardSet t c f s
  | .spot t i k x g => execSpot t i k x g s
  | .spotTrigger t => execSpotTrigger t s
  | .spotStop t => execSpotStop t s
  | .spotRead t c => execSpotRead t c s
  | .calWrite t i f => execCalWrite t i f s
  | .calRead t i => execCalRead t i s
  | .calibrate t m => execCalibrate t m s
  | .laneSet t l f => execLaneSet t l f s
  | .cut t l => execCut t l s
  | .rollSeek t x => execRollSeek t x s
  | .rollRead t c => execRollRead t c s
  | .batchSet t f => execBatchSet t f s
  | .batchList t => execBatchList t s
  | .batchClose t c => execBatchClose t c s
  | .batchBreak t => execBatchBreak t s
  | .labelSet t f => execLabelSet t f s
  | .labelReprint t r => execLabelReprint t r s
  | .labelDiscard t r => execLabelDiscard t r s
  | .eventLevel t c l => execEventLevel t c l s
  | .noticeFloor t f => execNoticeFloor t f s
  | .noticeClear t c => execNoticeClear t c s
  | .routeBind t i c a n => execRouteBind t i c a n s
  | .routeUnbind t i => execRouteUnbind t i s
  | .routeFire t i => execRouteFire t i s
  | .identify t => execIdentify t s
  | .status t => execStatus t s
  | .reset t => execReset t s
  | .powerOn | .frameReceived _ | .interByteTimeout | .requestTake | .frameSent | .encoderCount _
  | .illegalTransition | .speedSample | .estActive _ | .markLeadingEdge | .markTrailingEdge
  | .windowClose _ _ | .masterCoast | .splEdge _ | .pointCrossing _ _ | .embossIndex _ | .indexLost _
  | .npfClosed | .npfOpen | .closeTimerExpiry _ | .releaseWatchExpiry | .trimPulse _ | .frameSlotStart
  | .headAnswer _ | .frameSlotEnd | .prkActive | .prkInactive | .firePosition _ _ | .turretDone _ _
  | .turretTimeout _ | .printerDone _ | .printerFault _ | .labelTimeout | .printSent => .next s

/-- An ordinary reply waits in the reply path, which holds the taker back (R186). -/
def Svl.takingBlocked (v : Svl) : Bool := v.replies.any (fun r => r.kind == .ordinary)

/-- REQUEST_TAKE (R186): the head of the input queue is judged and delivered. -/
def execRequestTake (s : State) : Host.Outcome State Fault Refusal :=
  match s.svl.input with
  | [] => .next s
  | f :: rest =>
    if s.svl.takingBlocked then .next s
    else
      let s := s.onSvl (fun v => { v with input := rest })
      match decodeRequest f.tag f.type f.body with
      | .unknown => .next (answer f.tag f.type .unknown [] s)
      | .badLength => .next (answer f.tag f.type .badLength [] s)
      | .request i => deliver i s

end Sys2Proof.Machine
end

