-- ==== Sys2Proof/Machine/Dispatch.lean ====
section
/-! DEFINITION. One arm per command, each a direct call of its meaning. -/

namespace Sys2Proof.Machine

def exec (i : Instr) (s : State) : Host.Outcome State Fault Refusal :=
  match i with
  | .powerOn => Sys2Proof.Machine.execPowerOn s
  | .jobOpen tag => Sys2Proof.Machine.execJobOpen tag s
  | .jobStart tag => Sys2Proof.Machine.execJobStart tag s
  | .jobHold tag => Sys2Proof.Machine.execJobHold tag s
  | .jobResume tag => Sys2Proof.Machine.execJobResume tag s
  | .jobStop tag => Sys2Proof.Machine.execJobStop tag s
  | .jobEnd tag => Sys2Proof.Machine.execJobEnd tag s
  | .recover tag => Sys2Proof.Machine.execRecover tag s
  | .stopAck tag code => Sys2Proof.Machine.execStopAck tag code s
  | .inputSet tag fields => Sys2Proof.Machine.execInputSet tag fields s
  | .lineSet tag crawl autoHold => Sys2Proof.Machine.execLineSet tag crawl autoHold s
  | .repeatSet tag fields => Sys2Proof.Machine.execRepeatSet tag fields s
  | .pathSet tag fields => Sys2Proof.Machine.execPathSet tag fields s
  | .trackSeek tag target => Sys2Proof.Machine.execTrackSeek tag target s
  | .trackRead tag count => Sys2Proof.Machine.execTrackRead tag count s
  | .stationSet tag station fields => Sys2Proof.Machine.execStationSet tag station fields s
  | .stationMode tag station mode => Sys2Proof.Machine.execStationMode tag station mode s
  | .trim tag channel count => Sys2Proof.Machine.execTrim tag channel count s
  | .embossSet tag fields => Sys2Proof.Machine.execEmbossSet tag fields s
  | .embossEngage tag => Sys2Proof.Machine.execEmbossEngage tag s
  | .embossRelease tag => Sys2Proof.Machine.execEmbossRelease tag s
  | .shadeSet tag fields => Sys2Proof.Machine.execShadeSet tag fields s
  | .slotEnable tag mask => Sys2Proof.Machine.execSlotEnable tag mask s
  | .guardSet tag channel fields => Sys2Proof.Machine.execGuardSet tag channel fields s
  | .spot tag slot k target spotTag => Sys2Proof.Machine.execSpot tag slot k target spotTag s
  | .spotTrigger tag => Sys2Proof.Machine.execSpotTrigger tag s
  | .spotStop tag => Sys2Proof.Machine.execSpotStop tag s
  | .spotRead tag count => Sys2Proof.Machine.execSpotRead tag count s
  | .calWrite tag slot factors => Sys2Proof.Machine.execCalWrite tag slot factors s
  | .calRead tag slot => Sys2Proof.Machine.execCalRead tag slot s
  | .calibrate tag mask => Sys2Proof.Machine.execCalibrate tag mask s
  | .laneSet tag lane fields => Sys2Proof.Machine.execLaneSet tag lane fields s
  | .cut tag lane => Sys2Proof.Machine.execCut tag lane s
  | .rollSeek tag target => Sys2Proof.Machine.execRollSeek tag target s
  | .rollRead tag count => Sys2Proof.Machine.execRollRead tag count s
  | .batchSet tag fields => Sys2Proof.Machine.execBatchSet tag fields s
  | .batchList tag => Sys2Proof.Machine.execBatchList tag s
  | .batchClose tag code => Sys2Proof.Machine.execBatchClose tag code s
  | .batchBreak tag => Sys2Proof.Machine.execBatchBreak tag s
  | .labelSet tag fields => Sys2Proof.Machine.execLabelSet tag fields s
  | .labelReprint tag roll => Sys2Proof.Machine.execLabelReprint tag roll s
  | .labelDiscard tag roll => Sys2Proof.Machine.execLabelDiscard tag roll s
  | .eventLevel tag code level => Sys2Proof.Machine.execEventLevel tag code level s
  | .noticeFloor tag floor => Sys2Proof.Machine.execNoticeFloor tag floor s
  | .noticeClear tag code => Sys2Proof.Machine.execNoticeClear tag code s
  | .routeBind tag slot code action count => Sys2Proof.Machine.execRouteBind tag slot code action count s
  | .routeUnbind tag slot => Sys2Proof.Machine.execRouteUnbind tag slot s
  | .routeFire tag slot => Sys2Proof.Machine.execRouteFire tag slot s
  | .identify tag => Sys2Proof.Machine.execIdentify tag s
  | .status tag => Sys2Proof.Machine.execStatus tag s
  | .reset tag => Sys2Proof.Machine.execReset tag s
  | .frameReceived bytes => Sys2Proof.Machine.execFrameReceived bytes s
  | .interByteTimeout => Sys2Proof.Machine.execInterByteTimeout s
  | .requestTake => Sys2Proof.Machine.execRequestTake s
  | .frameSent => Sys2Proof.Machine.execFrameSent s
  | .encoderCount channel => Sys2Proof.Machine.execEncoderCount channel s
  | .illegalTransition => Sys2Proof.Machine.execIllegalTransition s
  | .speedSample => Sys2Proof.Machine.execSpeedSample s
  | .estActive energised => Sys2Proof.Machine.execEstActive energised s
  | .markLeadingEdge => Sys2Proof.Machine.execMarkLeadingEdge s
  | .markTrailingEdge => Sys2Proof.Machine.execMarkTrailingEdge s
  | .windowClose repeatNo station => Sys2Proof.Machine.execWindowClose repeatNo station s
  | .masterCoast => Sys2Proof.Machine.execMasterCoast s
  | .splEdge energised => Sys2Proof.Machine.execSplEdge energised s
  | .pointCrossing point winder => Sys2Proof.Machine.execPointCrossing point winder s
  | .embossIndex energised => Sys2Proof.Machine.execEmbossIndex energised s
  | .indexLost energised => Sys2Proof.Machine.execIndexLost s energised
  | .npfClosed => Sys2Proof.Machine.execNpfClosed s
  | .npfOpen => Sys2Proof.Machine.execNpfOpen s
  | .closeTimerExpiry energised => Sys2Proof.Machine.execCloseTimerExpiry s energised
  | .releaseWatchExpiry => Sys2Proof.Machine.execReleaseWatchExpiry s
  | .trimPulse channel => Sys2Proof.Machine.execTrimPulse channel s
  | .frameSlotStart => Sys2Proof.Machine.execFrameSlotStart s
  | .headAnswer frame => Sys2Proof.Machine.execHeadAnswer frame s
  | .frameSlotEnd => Sys2Proof.Machine.execFrameSlotEnd s
  | .prkActive => Sys2Proof.Machine.execPrkActive s
  | .prkInactive => Sys2Proof.Machine.execPrkInactive s
  | .firePosition lane winder => Sys2Proof.Machine.execFirePosition lane winder s
  | .turretDone lane energised => Sys2Proof.Machine.execTurretDone lane energised s
  | .turretTimeout lane => Sys2Proof.Machine.execTurretTimeout lane s
  | .printerDone frame => Sys2Proof.Machine.execPrinterDone frame s
  | .printerFault frame => Sys2Proof.Machine.execPrinterFault frame s
  | .labelTimeout => Sys2Proof.Machine.execLabelTimeout s
  | .printSent => Sys2Proof.Machine.execPrintSent s

end Sys2Proof.Machine
end

