-- ==== Sys2Proof/Safety.lean ====
section
/-! DEFINITION. What counts as a good state of the part: the invariants that the chapters promise "while a job is
open" or "always", unit by unit, in the terms the claims use. -/

namespace Sys2Proof.Machine

/-- The line's flags stand where their rules allow: resume is armed in HOLD alone (R13), HW is WP in IDLE and
THREAD and no count there is new web (R3), and a new-web advance leaves HW at WP (R3). -/
def LineCoherent (s : State) : Prop :=
  (s.wtb.resumeArmed = true → s.wtb.line = .hold) ∧
  (s.wtb.line = .idle ∨ s.wtb.line = .thread → s.wtb.hw = s.wtb.wp ∧ s.wtb.newWeb = false) ∧
  (s.wtb.newWeb = true → s.wtb.hw = s.wtb.wp)

/-- The track of the line's states: numbered upward below the counter with the departed records the scanner still reads
apart from it (R43), every cursor on one of its records (R41), empty in IDLE and THREAD with its splice list (R47), and
not scanned outside RUN and HOLD (R24, R27). -/
def TrackCoherent (s : State) : Prop :=
  s.tku.track.Pairwise (fun a b => a.number < b.number) ∧
  (∀ r ∈ s.tku.blocks, r.number < s.tku.nextRepeat) ∧
  (∀ d ∈ s.tku.departed, ∀ r ∈ s.tku.track, d.number ≠ r.number) ∧
  (∀ c ∈ [s.tku.cursors.emboss, s.tku.cursors.shade, s.tku.cursors.knifeA, s.tku.cursors.knifeB], ∀ n ∈ c,
    ∃ r ∈ s.tku.track, r.number = n) ∧
  (s.wtb.line = .idle ∨ s.wtb.line = .thread → s.tku.blocks = [] ∧ s.tku.splices = []) ∧
  (s.running = false → s.tku.scanner = .off ∧ s.tku.halfSeen = none ∧ s.tku.coastCount = 0)

/-- Every owed trim lies within -4,095 to +4,095 and is 0 in IDLE and FAULT (R66). -/
def TrimsBounded (s : State) : Prop :=
  ∀ c : Fin 9, -Config.owedLimit ≤ s.rlu.channels[c].owed ∧ s.rlu.channels[c].owed ≤ Config.owedLimit ∧
    (s.wtb.line = .idle ∨ s.wtb.line = .fault → s.rlu.channels[c].owed = 0)

/-- The nip is commanded closed in ENGAGED alone, SYNCING and ENGAGED exist in RUN alone (R75, R83), and the
close timer runs only in ENGAGED with the nip unconfirmed (R81). -/
def NipSafe (s : State) : Prop :=
  (s.epu.npc = true → s.epu.state = .engaged) ∧
  (s.epu.state = .syncing ∨ s.epu.state = .engaged → s.wtb.line = .run) ∧
  (s.epu.closeTimer.isSome = true → s.epu.state = .engaged ∧ s.epu.nipConfirmed = false)

/-- One lane stands as R126 and R128 allow while the line is or is not running: an open roll in WINDING, ARMED and
INDEXING, none in OFF, a cut in LEADER and ARMED alone, one always in ARMED, none outside RUN and HOLD (R146), and
the force flag in WINDING alone (R137). -/
def LaneControl.coherent (k : LaneControl) (running : Bool) : Prop :=
  (k.state = .winding ∨ k.state = .armed ∨ k.state = .indexing → k.roll.isSome = true) ∧
  (k.state = .off → k.roll = none) ∧
  (k.cut.isSome = true → (k.state = .leader ∨ k.state = .armed) ∧ running = true) ∧
  (k.state = .armed → k.cut.isSome = true) ∧
  (k.force = true → k.state = .winding) ∧
  (k.params.enabled = false → k.state = .off)

/-- Both lanes stand as R126 and R128 allow. -/
def LanesCoherent (s : State) : Prop :=
  s.rku.laneA.coherent s.running ∧ s.rku.laneB.coherent s.running

/-- Every queue, list and table holds no more than its chapter gives it (R43, R44, R111, R116, R143, R152, R167,
R180, R185). -/
def QueuesBounded (s : State) : Prop :=
  s.tku.track.length ≤ 512 ∧ s.tku.splices.length ≤ 4 ∧ s.smu.contexts.length ≤ 4 ∧ s.smu.results.length ≤ 4 ∧
  s.rku.history.length ≤ 64 ∧ s.btu.batches.length ≤ 16 ∧ s.lbp.listA.length ≤ 4 ∧ s.lbp.listB.length ≤ 4 ∧
  s.evu.notices.length ≤ 32 ∧ s.svl.input.length ≤ 4

/-- The open batches stand in ascending sequence, each sequence given before the counter, which is at most 1,000,
and each with a roll (R152). -/
def BatchesOrdered (s : State) : Prop :=
  s.btu.batches.Pairwise (fun a b => a.sequence < b.sequence) ∧
  (∀ b ∈ s.btu.batches, 1 ≤ b.sequence ∧ b.sequence < s.btu.sequence ∧ 1 ≤ b.rolls) ∧
  1 ≤ s.btu.sequence ∧ s.btu.sequence ≤ 1000

/-- Notices stand highest level first, none of level 0 (R180), levels and floor lie within 0 to 7 (R175, R181), and
a bound slot has at least one action left (R176). -/
def EventsCoherent (s : State) : Prop :=
  s.evu.notices.Pairwise (fun a b => b.level ≤ a.level) ∧
  (∀ n ∈ s.evu.notices, 1 ≤ n.level ∧ n.level ≤ 7) ∧
  (∀ i : Fin 31, s.evu.levels[i] ≤ 7) ∧ s.evu.floor ≤ 7 ∧ s.evu.dropped ≤ 255 ∧
  (∀ (i : Fin 4) (r : Route), s.evu.routes[i] = some r → 1 ≤ r.remaining ∧ r.remaining ≤ 255)

/-- An idle output sender leaves no reply waiting and, once the first frame since power-on has gone, no notice above
the floor (R181, R187, R190). -/
def SenderNeverIdles (s : State) : Prop :=
  s.svl.sending = none →
    s.svl.replies = [] ∧
      (s.svl.replied = true → ∀ n, s.evu.notices.head? = some n → n.level ≤ s.evu.floor)

/-- Spot and calibration work stands as chapter 6 allows: a standing context only with no pending one (R111), a
held SPOT STOP only behind a spot in progress with the queue emptied (R117), a calibration run only with a slot
still to do and not in RUN or FAULT (R122, R124), and head fault counts below the limit (R94). -/
def HeadWorkCoherent (s : State) : Prop :=
  (s.smu.standing.isSome = true → s.smu.contexts = []) ∧
  (s.smu.heldStops ≠ [] → s.smu.spotInProgress.isSome = true ∧ s.smu.contexts = []) ∧
  (∀ c, s.smu.calRun = some c → c.todo ≠ [] ∧ s.wtb.line ≠ .run ∧ s.wtb.line ≠ .fault) ∧
  (∀ i : Fin 6, s.smu.faults[i] < Config.headFaultLimit) ∧ s.smu.drops ≤ 255

/-- An idle label link leaves no job waiting and no PRINT or timer behind (R168, R169). -/
def PrinterGranted (s : State) : Prop :=
  (s.lbp.inFlight = none →
    s.lbp.listA = [] ∧ s.lbp.listB = [] ∧ s.lbp.printing = none ∧ s.lbp.timer = none) ∧
  (s.lbp.printing.isSome = true → s.lbp.timer = none)

/-! ### Frames the claims share -/

/-- Nothing has changed but the output of the link: the frame being sent, the reply path, whether a first frame has
gone, the notice queue and the dropped count. A reply or a notice changes no more. -/
def OnlyOutput (s t : State) : Prop :=
  t = { s with
    svl := { s.svl with sending := t.svl.sending, replies := t.svl.replies, replied := t.svl.replied }
    evu := { s.evu with notices := t.evu.notices, dropped := t.evu.dropped } }

end Sys2Proof.Machine
end

