-- ==== Sys2Proof/WellFormed.lean ====
section
/-! DEFINITION. Which commands can come to the part at all: every number of a request fits the bytes R191 gives its
field, every list its room, and the numbers a line-side row names are those of a window, a channel or a record.
A well-formed request may still hold values its owner refuses with BAD-VALUE. -/

namespace Sys2Proof

/-- A number fits one byte. -/
def fits1 (n : Nat) : Bool := n < 256
/-- A number fits two bytes. -/
def fits2 (n : Nat) : Bool := n < 65536
/-- A number fits four bytes. -/
def fits4 (n : Nat) : Bool := n < 4294967296

/-- REPEAT SET on the link (R39). -/
def RepeatParams.fits (r : RepeatParams) : Bool :=
  fits2 r.n && fits1 r.g && fits1 r.f && fits2 r.wMaster && fits2 r.masterWidth && fits2 r.stationWidth &&
  fits2 r.widthTol && fits1 r.c

/-- PATH SET on the link (R40). -/
def PathTable.fits (p : PathTable) : Bool :=
  p.d.toList.all fits4 && fits4 p.de && fits4 p.ds && fits4 p.dka && fits4 p.dkb && fits4 p.du

/-- STATION SET on the link (R52). -/
def StationParams.fits (p : StationParams) : Bool :=
  fits2 p.d && fits2 p.w && fits2 p.tol && fits1 p.alarmCount && fits2 p.deadband && fits2 p.gain &&
  fits2 p.maxStep && fits1 p.rate

/-- EMBOSS SET on the link (R74). -/
def EmbossFields.fits (f : EmbossFields) : Bool :=
  fits1 f.ratio && fits2 f.offset && fits2 f.gain && fits2 f.deadband && fits2 f.maxStep &&
  fits2 f.engageWindow && fits2 f.faultLimit && fits2 f.tol && fits2 f.nipTimeout && fits1 f.rate

/-- SHADE SET on the link (R95, R119): the scan list has room for six. -/
def ShadeFields.fits (f : ShadeFields) : Bool :=
  decide (f.scanList.length ≤ 6) && f.scanList.all fits1 && fits1 f.nscan && fits1 f.kreg && fits2 f.offset &&
  fits2 f.whiteTarget

/-- GUARD SET on the link (R105). -/
def GuardFields.fits (f : GuardFields) : Bool := fits2 f.low && fits2 f.high && fits1 f.slot

/-- CAL WRITE on the link (R120). -/
def Factors.fits (f : Factors) : Bool :=
  fits2 f.gainR && fits2 f.gainG && fits2 f.gainB && fits2 f.blackR && fits2 f.blackG && fits2 f.blackB

/-- LANE SET on the link (R127). -/
def LaneFields.fits (f : LaneFields) : Bool :=
  fits2 f.cutOffset && fits4 f.target && fits4 f.minLength && fits2 f.defectLimit && fits2 f.knifeLead &&
  fits1 f.maxDeferrals && fits2 f.turretTimeout

/-- BATCH SET on the link (R153). -/
def BatchFields.fits (f : BatchFields) : Bool :=
  fits2 f.tol && fits1 f.wR && fits1 f.wG && fits1 f.wB && fits2 f.rollsPerBatch

/-- LABEL SET on the link (R166). -/
def LabelFields.fits (f : LabelFields) : Bool :=
  fits1 f.templateA && fits1 f.templateB && fits2 f.timeout && fits1 f.retries

/-- A seek target whose number fits (R48, R144). -/
def SeekTarget.fits (size : Nat → Bool) : SeekTarget → Bool
  | .number n => size n
  | .oldest | .newest => true

/-- A spot target whose number fits (R109). -/
def SpotTarget.fits : SpotTarget → Bool
  | .number n => fits4 n
  | .next | .immediate => true

/-- A route action whose parameter fits (R176). -/
def RouteAction.fits : RouteAction → Bool
  | .spot (some t) => fits1 t.slot && fits1 t.k && fits1 t.tag
  | .spot none | .cut _ | .holdLine | .releaseEmboss | .newBatch => true

/-- A coded value that, where it names one, satisfies `p`. -/
def codedAll {α : Type} (p : α → Bool) : Coded α → Bool
  | some a => p a
  | none => true

/-- A command that can come to the part. -/
def Instr.wellFormed : Instr → Bool
  | .stopAck _ c => fits1 c
  | .lineSet _ c _ => fits1 c
  | .repeatSet _ f => f.fits
  | .pathSet _ f => f.fits
  | .trackSeek _ t => codedAll (SeekTarget.fits fits4) t
  | .trackRead _ c => fits1 c
  | .stationSet _ k f => fits1 k && f.fits
  | .stationMode _ k _ => fits1 k
  | .trim _ c n => fits1 c && decide (-32768 ≤ n ∧ n ≤ 32767)
  | .embossSet _ f => f.fits
  | .shadeSet _ f => f.fits
  | .guardSet _ _ f => f.fits
  | .spot _ slot k t g => fits1 slot && fits1 k && codedAll SpotTarget.fits t && fits1 g
  | .spotRead _ c => fits1 c
  | .calWrite _ slot f => fits1 slot && f.fits
  | .calRead _ slot => fits1 slot
  | .laneSet _ _ f => f.fits
  | .rollSeek _ t => codedAll (SeekTarget.fits fits2) t
  | .rollRead _ c => fits1 c
  | .batchSet _ f => f.fits
  | .batchClose _ code => decide (code.length = 5)
  | .labelSet _ f => f.fits
  | .labelReprint _ r => fits2 r
  | .labelDiscard _ r => fits2 r
  | .eventLevel _ c l => fits1 c && fits1 l
  | .noticeFloor _ f => fits1 f
  | .noticeClear _ c => fits1 c
  | .routeBind _ slot code a n => fits1 slot && fits1 code && codedAll RouteAction.fits a && fits1 n
  | .routeUnbind _ slot => fits1 slot
  | .routeFire _ slot => fits1 slot
  | .windowClose n k => decide (1 ≤ n) && fits4 n && decide (1 ≤ k ∧ k ≤ 8)
  | .trimPulse c => decide (1 ≤ c ∧ c ≤ 9)
  | .jobOpen _ | .jobStart _ | .jobHold _ | .jobResume _ | .jobStop _ | .jobEnd _ | .recover _
  | .inputSet _ _ | .embossEngage _ | .embossRelease _ | .slotEnable _ _ | .spotTrigger _ | .spotStop _
  | .calibrate _ _ | .cut _ _ | .batchList _ | .batchBreak _ | .identify _ | .status _ | .reset _
  | .powerOn | .frameReceived _ | .interByteTimeout | .requestTake | .frameSent | .encoderCount _
  | .illegalTransition | .speedSample | .estActive _ | .markLeadingEdge | .markTrailingEdge
  | .masterCoast | .splEdge _ | .pointCrossing _ _ | .embossIndex _ | .indexLost _
  | .npfClosed | .npfOpen | .closeTimerExpiry _ | .releaseWatchExpiry | .frameSlotStart
  | .headAnswer _ | .frameSlotEnd | .prkActive | .prkInactive | .firePosition _ _ | .turretDone _ _
  | .turretTimeout _ | .printerDone _ | .printerFault _ | .labelTimeout | .printSent => true

end Sys2Proof
end

