-- ==== Sys2Proof/Certificates/Slice0/Obligations.lean ====
section
/-! DEFINITION. The statements for the provers, family by family of the command table. `answer`, `notice`, `raise`
and `pump` are the shared operations of the link and the event unit; the statements OutputSenderOrder,
NoticeTakesItsPlace, RoutedOccurrence and RouteActionsAtOwners say what those do. -/

open Sys2Proof Sys2Proof.Machine

/-! ### The step and the state after power-on -/

/-- A step is the command at the front of the queue run with the rest; on an empty queue the part idles (log 2).
-/
def Obligations.StepRunsFrontCommand : Prop :=
  (∀ (c : Instr) (cs : List Instr) (s : State), s.pending = c :: cs → step s = exec c { s with pending := cs }) ∧
  (∀ s : State, s.pending = [] → step s = .next s)

/-- POWER_ON leaves the values the chapters give, the settings of the inputs and the path table included; the
line-side levels and the queue are outside the part (log 5), and the net count of the running millisecond is 0
(log 6). RESET answers OK and waits; when its reply has been sent the part returns to the power-on state, the
calibration table kept without any staged set (log 46). That its reply counts as the first frame, so that notices
wait for no other, is the model's reading (log 9). -/
def Obligations.PowerOnAndReset : Prop :=
  (∀ s : State, ∃ t, exec .powerOn s = .next t ∧
    t.wtb.line = .idle ∧ t.wtb.resumeArmed = false ∧ t.wtb.latched = ⟨false, false, false, false, false⟩ ∧
    t.wtb.wp = 0 ∧ t.wtb.hw = 0 ∧ t.wtb.excursion = false ∧ t.wtb.s1 = 0 ∧ t.wtb.s2 = 0 ∧ t.wtb.s3 = 0 ∧
    t.wtb.s4 = 0 ∧ t.wtb.netCount = 0 ∧ t.wtb.v = 0 ∧ t.wtb.reverse = false ∧ t.wtb.crawl = 4 ∧
    t.wtb.autoHold = true ∧
    t.wtb.polarity = ⟨false, false, false, false, false, false, false, false, false, false, false⟩ ∧
    t.tku.params = ⟨0, 20, 3, 400, 160, 80, 20, 3⟩ ∧ t.tku.scanner = .off ∧ t.tku.halfSeen = none ∧
    t.tku.path = ⟨Vector.replicate 8 0, 0, 0, 0, 0, 0⟩ ∧ t.tku.track = [] ∧ t.tku.departed = [] ∧
    t.tku.cursors = ⟨none, none, none, none⟩ ∧ t.tku.splices = [] ∧ t.tku.nextRepeat = 1 ∧
    t.tku.readCursor = 1 ∧ t.tku.estimate = 0 ∧
    t.tku.coastCount = 0 ∧ t.tku.stray = 0 ∧ t.tku.overtaken = ⟨none, none, none⟩ ∧
    (∀ k : Fin 8, t.rlu.stations[k] = ⟨.off, ⟨0, 200, 50, 8, 4, 128, 50, 16⟩, 0, 0, true, 0⟩) ∧
    (∀ c : Fin 9, t.rlu.channels[c].owed = 0 ∧ t.rlu.channels[c].total = 0) ∧
    t.epu.params = ⟨false, 1, 0, false, 64, 4, 50, 100, 1000, 100, 500, false, 16⟩ ∧ t.epu.state = .none ∧
    t.epu.npc = false ∧ t.epu.nipConfirmed = false ∧ t.epu.closeTimer = none ∧ t.epu.releaseWatch = none ∧
    t.epu.reengage = false ∧ t.epu.lastPhase = none ∧ t.epu.lastOutcome = none ∧
    t.epu.lastIndex = none ∧ t.epu.engageCount = 0 ∧ t.epu.settle = 0 ∧
    (∀ i : Fin 6, t.smu.enables[i] = true ∧ t.smu.faults[i] = 0 ∧ t.smu.seqBits[i] = false ∧
      t.smu.staged[i] = none ∧ t.smu.active[i] = ⟨32768, 32768, 32768, 0, 0, 0⟩) ∧
    t.smu.params = ⟨[0, 3, 1, 4, 2, 5], 2, 2, 0, false, false, 3000⟩ ∧ t.smu.guardR = ⟨0, 4095, true, 0, false⟩ ∧
    t.smu.guardG = ⟨0, 4095, true, 0, false⟩ ∧ t.smu.guardB = ⟨0, 4095, true, 0, false⟩ ∧ t.smu.pointer = 1 ∧
    t.smu.scan = none ∧ t.smu.overrun = none ∧ t.smu.bus = none ∧ t.smu.heldStops = [] ∧
    t.smu.contexts = [] ∧ t.smu.standing = none ∧ t.smu.results = [] ∧
    t.smu.drops = 0 ∧ t.smu.calRun = none ∧
    (∀ l : Lane, t.lane l = ⟨⟨false, 0, 400000, 200000, 100, 8000, 3, 3000⟩, .off, none, none, false, none, 0⟩) ∧
    t.rku.history = [] ∧ t.rku.readCursor = none ∧ t.rku.nextRoll = 1 ∧ t.rku.wrapped = false ∧
    t.btu.params = ⟨0x41, 0x41, 24, 16, 16, 16, 200, .nearest⟩ ∧ t.btu.batches = [] ∧ t.btu.sequence = 1 ∧
    t.btu.breakPending = false ∧ t.btu.takes = 0 ∧
    t.lbp.params = ⟨false, false, 0, 0, 500, 1⟩ ∧ t.lbp.listA = [] ∧ t.lbp.listB = [] ∧ t.lbp.inFlight = none ∧
    t.lbp.printing = none ∧ t.lbp.timer = none ∧ t.lbp.lastGranted = .b ∧ t.lbp.exchange = 0 ∧ t.lbp.lastFailure = 0 ∧
    t.evu.levels.toList = [2, 7, 3, 1, 2, 3, 5, 3, 1, 5, 5, 4, 2, 5, 6, 2, 3, 5, 2, 3, 2, 1, 3, 5, 2, 2, 2, 1, 5,
      4, 2] ∧
    (∀ i : Fin 4, t.evu.routes[i] = none) ∧ t.evu.notices = [] ∧ t.evu.dropped = 0 ∧ t.evu.floor = 0 ∧
    t.svl.receiver = none ∧ t.svl.input = [] ∧ t.svl.replies = [] ∧ t.svl.sending = none ∧ t.svl.replied = false ∧
    t.svl.discarded = 0 ∧
    t.pins = s.pins ∧ t.pending = s.pending) ∧
  ((∀ (tag : Byte) (s : State),
    exec (.reset tag) s = .next (pushReply ⟨.ordinary, tag, 0x62#8, .ok, [], true⟩ s)) ∧
  (∀ (bytes : List Byte) (s : State), s.svl.sending = some ⟨bytes, true⟩ →
    ∃ t u, exec .frameSent s = .next t ∧ exec .powerOn s = .next u ∧
      t = { u with
        smu := { u.smu with active := s.smu.active }
        svl := { u.svl with replied := true } }))

/-! ### The Supervisor Link -/

/-- A reply joins the reply path behind those waiting while a frame is being sent; at an idle sender with nothing
waiting its frame is sent at once, the first since power-on having gone then. Nothing else of the part changes. At
the end of a frame that answers no RESET the sender takes the oldest reply, or else the head notice above the
floor with the dropped count, which goes to 0, or else nothing. Until the first reply since power-on has begun,
notices only queue. What the sender does whenever it may have become free: busy, it goes on; idle, it sends the
oldest reply, else the head notice above the floor with the dropped count, which goes to 0, and else stays idle. A
reply of any kind, QUEUE-FULL and SPOT STOP included, joins the end of the reply path, and the sender, where idle,
sends the oldest. That an idle sender sends in the same step, and that notices wait for the first reply, is the
model's reading (log 9). -/
def Obligations.OutputSenderOrder : Prop :=
  (∀ (tag type : Byte) (st : Status) (fields : List Byte) (s : State),
    (∀ f, s.svl.sending = some f →
      answer tag type st fields s =
        { s with svl := { s.svl with replies := s.svl.replies ++ [⟨.ordinary, tag, type, st, fields, false⟩] } }) ∧
    (s.svl.sending = none → s.svl.replies = [] →
      answer tag type st fields s =
        { s with svl := { s.svl with
          sending := some ⟨supervisorFrame tag (type + 0x80#8) (le1 st.code ++ fields), false⟩, replied := true } })) ∧
  ((∀ (bytes : List Byte) (s : State), s.svl.sending = some ⟨bytes, false⟩ →
    (∀ r rs, s.svl.replies = r :: rs →
      exec .frameSent s = .next { s with
        svl := { s.svl with sending := some r.frame, replies := rs, replied := true } }) ∧
    (∀ n ns, s.svl.replies = [] → s.evu.notices = n :: ns → s.svl.replied = true → s.evu.floor < n.level →
      exec .frameSent s = .next { s with
        svl := { s.svl with sending := some ⟨supervisorFrame 0 0xE0#8 (le1 n.event.code ++ le1 n.level ++
          le4 n.wp.toNat ++ le1 n.p1 ++ le4 n.p2 ++ le1 s.evu.dropped), false⟩ }
        evu := { s.evu with notices := ns, dropped := 0 } }) ∧
    (s.svl.replies = [] → (∀ n, s.evu.notices.head? = some n → s.svl.replied = true → n.level ≤ s.evu.floor) →
      exec .frameSent s = .next { s with svl := { s.svl with sending := none } })) ∧
  (∀ (ev : Event) (p1 p2 : Nat) (s : State), s.svl.sending = none → s.svl.replies = [] → s.svl.replied = false →
    s.evu.levels[ev.index] ≠ 0 →
    notice ev p1 p2 s = { s with evu := s.evu.enter ⟨ev, s.evu.levels[ev.index], s.wtb.wp, p1, p2⟩ })) ∧
  (∀ (r : Reply) (s : State),
    (∀ f, s.svl.sending = some f → pump s = s ∧
      pushReply r s = { s with svl := { s.svl with replies := s.svl.replies ++ [r] } }) ∧
    (s.svl.sending = none →
      (∀ q qs, s.svl.replies = q :: qs →
        pump s = { s with svl := { s.svl with sending := some q.frame, replies := qs, replied := true } } ∧
        pushReply r s =
          { s with svl := { s.svl with sending := some q.frame, replies := qs ++ [r], replied := true } }) ∧
      (s.svl.replies = [] → pushReply r s = { s with svl := { s.svl with
        sending := some ⟨supervisorFrame r.tag (r.request + 0x80#8) (le1 r.status.code ++ r.fields), r.resets⟩
        replied := true } }) ∧
      (∀ n ns, s.svl.replies = [] → s.evu.notices = n :: ns → s.svl.replied = true → s.evu.floor < n.level →
        pump s = { s with
          svl := { s.svl with sending := some ⟨supervisorFrame 0 0xE0#8 (le1 n.event.code ++ le1 n.level ++
            le4 n.wp.toNat ++ le1 n.p1 ++ le4 n.p2 ++ le1 s.evu.dropped), false⟩ }
          evu := { s.evu with notices := ns, dropped := 0 } }) ∧
      (s.svl.replies = [] → (∀ n, s.evu.notices.head? = some n → s.svl.replied = true → n.level ≤ s.evu.floor) →
        pump s = s)))

/-- The bytes of a whole frame of the layout, arriving at a hunting receiver, are one request frame: it joins the
input queue, or draws QUEUE-FULL where four wait, or is discarded where a QUEUE-FULL already waits. What the
receiver does not take: bytes without a start byte are ignored, a LEN outside 2 to 502 discards the frame when it
is complete, a CHECK that is not the CRC discards it at its last byte, and a gap inside a frame discards it. -/
def Obligations.FramesAreReceived : Prop :=
  (∀ (tag type : Byte) (body : List Byte) (s : State), s.svl.receiver = none → body.length ≤ 500 →
    (s.svl.input.length < 4 →
      exec (.frameReceived (supervisorFrame tag type body)) s = .next
        { s with svl := { s.svl with input := s.svl.input ++ [⟨tag, type, body⟩] } }) ∧
    (4 ≤ s.svl.input.length → (∀ r ∈ s.svl.replies, r.kind ≠ .queueFull) →
      exec (.frameReceived (supervisorFrame tag type body)) s = .next
        (pushReply ⟨.queueFull, tag, type, .queueFull, [], false⟩ s)) ∧
    (4 ≤ s.svl.input.length → (∃ r ∈ s.svl.replies, r.kind = .queueFull) →
      exec (.frameReceived (supervisorFrame tag type body)) s = .next
        { s with svl := { s.svl with discarded := min 65535 (s.svl.discarded + 1) } })) ∧
  ((∀ (bytes : List Byte) (s : State), s.svl.receiver = none → startByte ∉ bytes →
    exec (.frameReceived bytes) s = .next s) ∧
  (∀ (l0 l1 : Byte) (s : State), s.svl.receiver = none →
    (l0.toNat + 256 * l1.toNat < 2 ∨ 502 < l0.toNat + 256 * l1.toNat) →
    exec (.frameReceived [0xC3#8, l0, l1]) s = .next
      { s with svl := { s.svl with discarded := min 65535 (s.svl.discarded + 1) } }) ∧
  (∀ (tag type c0 c1 : Byte) (body : List Byte) (s : State), s.svl.receiver = none → body.length ≤ 500 →
    [c0, c1] ≠ le2 (crc16 (le2 (body.length + 2) ++ tag :: type :: body)).toNat →
    exec (.frameReceived (0xC3#8 :: (le2 (body.length + 2) ++ tag :: type :: body ++ [c0, c1]))) s = .next
      { s with svl := { s.svl with discarded := min 65535 (s.svl.discarded + 1) } }) ∧
  (∀ (bytes : List Byte) (s : State), s.svl.receiver = some bytes →
    exec .interByteTimeout s = .next
      { s with svl := { s.svl with receiver := none, discarded := min 65535 (s.svl.discarded + 1) } }) ∧
  (∀ s : State, s.svl.receiver = none → exec .interByteTimeout s = .next s))

/-- With no ordinary reply waiting the taker takes the head of the input queue: a request frame is the command it
spells, a TYPE outside the catalogue is UNKNOWN, a BODY of another length BAD-LENGTH. With an ordinary reply
waiting, or nothing queued, it takes nothing. IDENTIFY and STATUS are answered OK in every line state with their
fields and change nothing else. STATUS gives, section by section: the line; the track, with 0 for no oldest and
newest record; stations and trim channels; the emboss unit; regular measurement, spot work and calibration; the
two lanes, the history's length, the roll cursor and the next roll number; the batch table; the label port; the
event unit with its route slots; and the input queue and the discarded frames. An item that may be absent is a
presence byte and its room. Request commands themselves are takings (log 10). The layout details R191 leaves open
are the model's choice (log 11), and so are the codes of the levels that STATUS reports (log 48), a waiting cut's
report as armed (log 55) and the order of section 1 (log 56). -/
def Obligations.RequestIsTaken : Prop :=
  ((∀ s : State, s.svl.input = [] → exec .requestTake s = .next s) ∧
  (∀ (f : RequestFrame) (rest : List RequestFrame) (s : State), s.svl.input = f :: rest →
    ((∀ r ∈ s.svl.replies, r.kind ≠ .ordinary) →
      (∀ i, decodeRequest f.tag f.type f.body = .request i →
        exec .requestTake s = exec i { s with svl := { s.svl with input := rest } } ∧
        ∃ t, exec .requestTake s = .next t) ∧
      (bodyLength f.type = none →
        exec .requestTake s = .next (answer f.tag f.type .unknown [] { s with svl := { s.svl with input := rest } })) ∧
      (∀ n, bodyLength f.type = some n → f.body.length ≠ n →
        exec .requestTake s =
          .next (answer f.tag f.type .badLength [] { s with svl := { s.svl with input := rest } }))) ∧
    ((∃ r ∈ s.svl.replies, r.kind = .ordinary) → exec .requestTake s = .next s))) ∧
  ((∀ (tag : Byte) (s : State), exec (.identify tag) s = .next (answer tag 0x60#8 .ok
    ([0x71#8, 0x0A#8, 0xF8#8, 0x1B#8, 0x41#8, 6, 1, 8, 0, 2, 6, 0, 3, 2, 0, 4, 0, 2, 5, 4, 0, 6, 16, 0]) s)) ∧
  (∀ (tag : Byte) (s : State),
    let flag : Bool → List Byte := fun x => [if x then 1 else 0]
    let opt : Nat → Option (List Byte) → List Byte := fun room o => match o with
      | some bs => 1 :: bs ++ List.replicate (room - bs.length) 0
      | none => 0 :: List.replicate room 0
    let set : List Bool → Nat := fun bs => bs.foldr (fun x n => 2 * n + (if x then 1 else 0)) 0
    let laneCode : Lane → Nat := fun l => match l with | .a => 1 | .b => 2
    let line : List Byte :=
      le1 (match s.wtb.line with | .idle => 0 | .thread => 1 | .run => 2 | .hold => 3 | .fault => 4) ++
      flag s.wtb.resumeArmed ++
      le1 (set [s.wtb.latched.estop, s.wtb.latched.encoder, s.wtb.latched.trackOverflow, s.wtb.latched.winder,
        s.wtb.latched.nipStuck]) ++
      le4 s.wtb.wp.toNat ++ le4 s.wtb.hw.toNat ++ le1 s.wtb.v ++ flag s.wtb.reverse ++ le1 s.wtb.crawl ++
      flag (!s.wtb.autoHold)
    let growth : Int := if s.tku.params.n = 0 then 0
      else ((s.tku.estimate - 16 * s.tku.params.n) * 62500).tdiv s.tku.params.n
    let track : List Byte :=
      le1 (match s.tku.scanner with | .off => 0 | .acquire => 1 | .tracking => 2) ++ le2 s.tku.track.length ++
      le4 ((s.tku.track.head?.map (·.number)).getD 0) ++ le4 ((s.tku.track.getLast?.map (·.number)).getD 0) ++
      le1 s.tku.coastCount ++ le2 s.tku.stray ++ sle4 s.tku.estimate ++ sle4 growth
    let register : List Byte :=
      s.rlu.stations.toList.flatMap (fun x =>
        le1 (match x.mode with | .off => 0 | .monitor => 1 | .auto => 2 | .master => 3) ++ le1 x.settle) ++
      s.rlu.channels.toList.flatMap (fun c => sle2 c.owed ++ le4 c.total.toNat)
    let emboss : List Byte :=
      le1 (match s.epu.state with | .none => 0 | .opened => 1 | .syncing => 2 | .engaged => 3 | .releasing => 4) ++
      opt 8 (s.epu.lastPhase.map (fun p => sle4 p.phase ++ le4 p.number)) ++
      opt 1 (s.epu.lastOutcome.map (fun o => le1 (match o with | .valid => 0 | .noReference => 1))) ++
      le1 s.epu.engageCount ++ le1 s.epu.settle ++ flag s.epu.nipConfirmed ++ flag s.epu.releaseWatch.isSome ++
      flag s.epu.reengage ++ flag s.epu.npc ++ flag (s.pins.npf != s.wtb.polarity.npf)
    let shade : List Byte :=
      flag (s.pins.prk != s.wtb.polarity.prk) ++ le1 (set s.smu.enables.toList) ++ s.smu.faults.toList.flatMap le1 ++
      le1 s.smu.pointer ++ le1 ((s.smu.params.scanList[s.smu.pointer - 1]?.map Fin.val).getD 0) ++
      opt 5 ((s.smu.overrun.or s.smu.scan).map (fun c => le4 c.record ++ le1 c.completed))
    let spots : List Byte :=
      flag (!s.smu.params.keep) ++ flag s.smu.params.overwrite ++ le1 s.smu.contexts.length ++
      flag s.smu.standing.isSome ++
      opt 6 (s.smu.spotInProgress.map (fun c => le1 c.slot.val ++ le1 c.tag ++ le4 ((match c.target with
        | .immediate => none
        | .next => c.bound
        | .number n => some n).getD 0))) ++
      flag (s.smu.heldStops != []) ++ le1 s.smu.results.length ++ le1 s.smu.drops ++
      opt 3 (s.smu.calRun.map (fun c =>
        le1 (slotMask c.requested) ++ le1 ((c.todo.head?.map Fin.val).getD 0) ++ le1 (slotMask c.passed)))
    let lane : LaneControl → List Byte := fun k =>
      le1 (match k.state with | .off => 0 | .leader => 1 | .winding => 2 | .armed => 3 | .indexing => 4) ++
      opt 2 (k.roll.map (fun r => le2 r.number)) ++ le2 ((k.roll.map (·.counts.repeats)).getD 0) ++
      sle4 ((k.roll.map (fun r => (r.lastRef - r.opening).toInt)).getD 0) ++
      le1 ((k.roll.map (·.deferrals)).getD 0) ++ opt 8 (k.cut.map (fun c => le4 c.record ++ le4 c.fire.toNat)) ++
      flag k.force ++ flag k.turret.isSome
    let rolls : List Byte :=
      lane s.rku.laneA ++ lane s.rku.laneB ++ le1 s.rku.history.length ++
      (match s.rku.readCursor with | some n => 0 :: le2 n | none => [1, 0, 0]) ++ le2 s.rku.nextRoll
    let batches : List Byte := le1 s.btu.batches.length ++ le2 s.btu.sequence ++ flag s.btu.breakPending
    let labels : List Byte :=
      le1 s.lbp.listA.length ++ le1 s.lbp.listB.length ++
      opt 5 (s.lbp.inFlight.map (fun f =>
        le2 f.job.roll ++ le1 (laneCode f.job.lane) ++ le1 f.attempt ++ [s.lbp.exchange])) ++
      le1 (laneCode s.lbp.lastGranted) ++ [s.lbp.lastFailure] ++ flag (!s.lbp.params.enabledA) ++
      flag (!s.lbp.params.enabledB) ++ le1 s.lbp.params.templateA ++ le1 s.lbp.params.templateB ++
      le2 s.lbp.params.timeout ++ le1 s.lbp.params.retries
    let parameter : RouteAction → List Byte := fun a => match a with
      | .spot (some x) => [0, 1, 1] ++ le1 x.slot ++ le1 x.k ++ le1 x.tag
      | .spot none => [0, 1, 0, 0, 0, 0]
      | .cut .event => [1, 1, 0, 0, 0, 0]
      | .cut (.lane l) => [1, 1] ++ le1 (laneCode l) ++ [0, 0, 0]
      | .holdLine => [2, 0, 0, 0, 0, 0]
      | .releaseEmboss => [3, 0, 0, 0, 0, 0]
      | .newBatch => [4, 0, 0, 0, 0, 0]
    let events : List Byte :=
      le1 s.evu.notices.length ++ le1 s.evu.dropped ++ le1 s.evu.floor ++
      s.evu.routes.toList.flatMap (fun r =>
        opt 8 (r.map (fun x => le1 x.event.code ++ parameter x.action ++ le1 x.remaining)))
    let link : List Byte := le1 s.svl.input.length ++ le2 s.svl.discarded
    exec (.status tag) s = .next (answer tag 0x61#8 .ok
      (line ++ track ++ register ++ emboss ++ shade ++ spots ++ rolls ++ batches ++ labels ++ events ++ link) s)))

/-- Every well-formed request, laid out as its frame's TYPE and BODY, is decoded to itself, with every operand at
every value its field admits. The details R191 leaves open are the model's choice (log 11). -/
def Obligations.RequestDecodesItsEncoding : Prop :=
  ∀ (i : Instr) (type : Byte) (body : List Byte), i.wellFormed = true → encodeRequest i = some (type, body) →
    decodeRequest i.tag type body = .request i

/-! ### A rule of chapter 7: the shade mean -/

/-- The shade mean of a roll with c shade samples of sum s in a channel is floor((s + floor(c / 2)) / c), the mean
rounded half up: the mean of the OK values of the roll's own lane, which counting a record adds to the sums below
the repeat limit. A calibrated value lies within 0 to 4,095, and so does each mean of such values. With c = 19 and
s = 41,217 it is 2,169. -/
def Obligations.ShadeMeanRoundsHalfUp : Prop :=
  ∀ gathered : RollCounts → List Rgb → Prop,
    (∀ c vs, gathered c vs ↔
      c.samples = vs.length ∧ c.sums = ⟨(vs.map (·.r)).sum, (vs.map (·.g)).sum, (vs.map (·.b)).sum⟩) →
    (∀ c : RollCounts, 0 < c.samples → c.mean = some ⟨(c.sums.r + c.samples / 2) / c.samples,
      (c.sums.g + c.samples / 2) / c.samples, (c.sums.b + c.samples / 2) / c.samples⟩) ∧
    (∀ (c : RollCounts) (vs : List Rgb) (m : Rgb), gathered c vs → c.mean = some m →
      (∀ x ∈ [(m.r, (vs.map (·.r)).sum), (m.g, (vs.map (·.g)).sum), (m.b, (vs.map (·.b)).sum)],
        2 * x.1 * vs.length ≤ 2 * x.2 + vs.length ∧ 2 * x.2 < (2 * x.1 + 1) * vs.length) ∧
      ((∀ v ∈ vs, v.r ≤ 4095 ∧ v.g ≤ 4095 ∧ v.b ≤ 4095) → m.r ≤ 4095 ∧ m.g ≤ 4095 ∧ m.b ≤ 4095)) ∧
    (∀ (f : Factors) (sums : Rgb) (k : Nat), (factorValues f sums k).r ≤ 4095 ∧ (factorValues f sums k).g ≤ 4095 ∧
      (factorValues f sums k).b ≤ 4095) ∧
    (∀ (l : Lane) (r : RepeatRecord) (o : OpenRoll) (vs : List Rgb) (s : State), (s.lane l).roll = some o →
      gathered o.counts vs → o.counts.repeats < 65535 →
      ∃ o' : OpenRoll, ((countRecord l r s).lane l).roll = some o' ∧
        gathered o'.counts (vs ++ (r.shade.getD []).filterMap (fun e => match e.reading with
          | .ok v => if (e.slot.val < 3 ↔ l = .a) then some v else none
          | .excursion _ | .invalid => none))) ∧
    (∀ c : RollCounts, c.samples = 19 → c.sums.r = 41217 → ∃ m, c.mean = some m ∧ m.r = 2169)

/-! ### The Event Unit -/

/-- An occurrence that reaches the notice path enters as a notice with its code, level, WP and parameters. In a
queue that stands highest level first, and oldest first within a level, and is not full it goes behind every
notice of its level or higher; in a full queue a notice at or below the lowest level is dropped, and a higher one
displaces the newest of the lowest, the dropped count then rising by 1, saturating at 255. The queue stays in
order, holds at most 32 and none of level 0. The queue is empty and the count 0 after power-on and RESET. That an
idle sender takes the new head in the same step is the model's reading (log 9). -/
def Obligations.NoticeTakesItsPlace : Prop :=
  (∀ (ev : Event) (p1 p2 : Nat) (s : State), s.evu.levels[ev.index] ≠ 0 → notice ev p1 p2 s = pump { s with
    evu := s.evu.enter ⟨ev, s.evu.levels[ev.index], s.wtb.wp, p1, p2⟩ }) ∧
  (∀ (e : Evu) (n : Notice), e.notices.Pairwise (fun a b => b.level ≤ a.level) →
    (e.notices.length < 32 → e.enter n = { e with
      notices := e.notices.filter (fun m => n.level ≤ m.level) ++
        n :: e.notices.filter (fun m => m.level < n.level) }) ∧
    (∀ last, 32 ≤ e.notices.length → e.notices.getLast? = some last → n.level ≤ last.level →
      e.enter n = { e with dropped := min 255 (e.dropped + 1) }) ∧
    (∀ last, 32 ≤ e.notices.length → e.notices.getLast? = some last → last.level < n.level →
      e.enter n = { e with
        notices := e.notices.dropLast.filter (fun m => n.level ≤ m.level) ++
          n :: e.notices.dropLast.filter (fun m => m.level < n.level)
        dropped := min 255 (e.dropped + 1) }) ∧
    (e.enter n).notices.Pairwise (fun a b => b.level ≤ a.level) ∧
    (e.notices.length ≤ 32 → (e.enter n).notices.length ≤ 32) ∧
    (1 ≤ n.level → (∀ m ∈ e.notices, 1 ≤ m.level) → ∀ m ∈ (e.enter n).notices, 1 ≤ m.level)) ∧
  (∀ (s : State) (i : Instr), i = .powerOn ∨ (i = .frameSent ∧ ∃ bytes, s.svl.sending = some ⟨bytes, true⟩) →
    ∃ t, exec i s = .next t ∧ t.evu.notices = [] ∧ t.evu.dropped = 0)

/-- An occurrence of a bound code is taken by the lowest slot bound to it and by that one alone: done, it counts
one off and the occurrence goes no further; at 0 the slot unbinds and ROUTE-END is raised with the slot and the
code, and the LINE-STATE of a HOLD LINE that took RUN to HOLD comes last. Not done, the slot stands and the
occurrence goes to the notice path. An occurrence of an unbound code goes to the notice path, where level 0
discards it. The lane an occurrence names for an EVENT-lane CUT, by the catalogue's lane column: the lane whose
code is parameter 1 for the occurrences of a lane, the lane of the slot that parameter 1 names for those of a
slot, and for every other code none, which names both lanes, A first. That an action is done where its occurrence
is raised is the model's reading (log 7). -/
def Obligations.RoutedOccurrence : Prop :=
  (∀ (ev : Event) (p1 p2 : Nat) (s : State),
    ((∀ (i : Fin 4) (r : Route), s.evu.routes[i] = some r → r.event ≠ ev) →
      raise ev p1 p2 s = notice ev p1 p2 s) ∧
    (s.evu.levels[ev.index] = 0 → notice ev p1 p2 s = s) ∧
    (s.evu.levels[ev.index] ≠ 0 → notice ev p1 p2 s = pump { s with
      evu := s.evu.enter ⟨ev, s.evu.levels[ev.index], s.wtb.wp, p1, p2⟩ }) ∧
    (∀ (i : Fin 4) (r : Route) (a : ActionResult), s.evu.routes[i] = some r → r.event = ev →
      (∀ (j : Fin 4) (q : Route), j < i → s.evu.routes[j] = some q → q.event ≠ ev) →
      a = runAction i r.action (ev.lanesFor p1) s →
      (a.done = false → raise ev p1 p2 s = notice ev p1 p2 a.state) ∧
      (a.done = true →
        let counted : Option Route → State := fun left =>
          { a.state with evu := { a.state.evu with routes := s.evu.routes.set i left } }
        let ended : State := if r.remaining ≤ 1 then notice .routeEnd i.val ev.code (counted none)
          else counted (some ⟨r.event, r.action, r.remaining - 1⟩)
        (a.held = false → raise ev p1 p2 s = ended) ∧
        (a.held = true → raise ev p1 p2 s = noticeLineState .route ended)))) ∧
  (∀ (ev : Event) (p1 : Nat),
    let ofLane : List Event := [.spliceAtKnife, .cutDone, .cutDeferred, .cutMissed, .rollDone, .batchOpened,
      .labelDone, .labelFailed, .labelQueueFull]
    let ofSlot : List Event := [.scanOverrun, .shadeGuard, .headFailed]
    (ev ∈ ofLane → (p1 = 1 → ev.lanesFor p1 = [.a]) ∧ (p1 = 2 → ev.lanesFor p1 = [.b])) ∧
    (ev ∈ ofSlot → (p1 ≤ 2 → ev.lanesFor p1 = [.a]) ∧ (3 ≤ p1 → p1 ≤ 5 → ev.lanesFor p1 = [.b])) ∧
    (ev ∉ ofLane → ev ∉ ofSlot → ev.lanesFor p1 = [.a, .b]))

/-- What each route action does at its owner and when it is done: NEW BATCH, HOLD LINE (its LINE-STATE left to the
occurrence, the emboss unit leaving step in RUN), RELEASE EMBOSS, SPOT with its template, SPOT with none, which
copies the newest context or the standing one or counts a drop, and CUT of a lane or of the lanes named. That
RELEASE EMBOSS leaves the re-engage flag in NONE, OPEN and RELEASING is the model's choice (log 38). -/
def Obligations.RouteActionsAtOwners : Prop :=
  ∀ (slot : Fin 4) (lanes : List Lane) (s : State),
    let cutOf : Lane → LaneControl := fun l => { s.lane l with
      force := (s.lane l).force || decide ((s.lane l).state = .winding)
      roll := (s.lane l).roll.map (fun r => { r with flags := { r.flags with forced := true } }) }
    let cuttable : Lane → Prop := fun l =>
      s.running = true ∧ ((s.lane l).state = .winding ∨ (s.lane l).state = .armed)
    let waiting : Bool := s.epu.reengage || s.epu.params.autoReengage
    (∀ a, (runAction slot a lanes s).held = true ↔ a = .holdLine ∧ s.wtb.line = .run) ∧
    ((runAction slot .newBatch lanes s).done = true ∧
      (runAction slot .newBatch lanes s).state = { s with btu := { s.btu with breakPending := true } }) ∧
    ((runAction slot .holdLine lanes s).done = true ∧
      (s.wtb.line = .run →
        (s.epu.state = .none ∨ s.epu.state = .opened ∨ s.epu.state = .releasing →
          (runAction slot .holdLine lanes s).state =
            { s with wtb := { s.wtb with line := .hold, resumeArmed := false } }) ∧
        (s.epu.state = .syncing → (runAction slot .holdLine lanes s).state = { s with
          wtb := { s.wtb with line := .hold, resumeArmed := false }
          epu := { s.epu with state := .opened, reengage := waiting } }) ∧
        (s.epu.state = .engaged → s.nipClosed = true → (runAction slot .holdLine lanes s).state = { s with
          wtb := { s.wtb with line := .hold, resumeArmed := false }
          epu := { s.epu with
            state := .releasing, npc := false, closeTimer := none, reengage := waiting
            releaseWatch := some s.epu.params.nipTimeout } }) ∧
        (s.epu.state = .engaged → s.nipClosed = false → (runAction slot .holdLine lanes s).state = { s with
          wtb := { s.wtb with line := .hold, resumeArmed := false }
          epu := { s.epu with
            state := .opened, npc := false, closeTimer := none, reengage := waiting, releaseWatch := none } })) ∧
      (s.wtb.line = .hold → (runAction slot .holdLine lanes s).state =
        { s with wtb := { s.wtb with resumeArmed := false } }) ∧
      (s.wtb.line ≠ .run → s.wtb.line ≠ .hold → (runAction slot .holdLine lanes s).state = s)) ∧
    ((runAction slot .releaseEmboss lanes s).done = true ∧
      (s.epu.state = .syncing → (runAction slot .releaseEmboss lanes s).state =
        { s with epu := { s.epu with state := .opened, engageCount := 0, reengage := false } }) ∧
      (s.epu.state = .engaged → s.nipClosed = true → (runAction slot .releaseEmboss lanes s).state =
        { s with epu := { s.epu with
          state := .releasing, npc := false, closeTimer := none, reengage := false
          releaseWatch := some s.epu.params.nipTimeout } }) ∧
      (s.epu.state = .engaged → s.nipClosed = false → (runAction slot .releaseEmboss lanes s).state =
        { s with epu := { s.epu with
          state := .opened, npc := false, closeTimer := none, reengage := false, releaseWatch := none } }) ∧
      (s.epu.state = .none ∨ s.epu.state = .opened ∨ s.epu.state = .releasing →
        (runAction slot .releaseEmboss lanes s).state = s)) ∧
    (∀ t : SpotTemplate, t.slot < 6 →
      (s.wtb.line ≠ .idle → s.wtb.line ≠ .fault → s.smu.heldStops = [] → s.smu.contexts.length < 4 →
        (runAction slot (.spot (some t)) lanes s).done = true ∧
        ∃ i : Fin 6, i.val = t.slot ∧ (runAction slot (.spot (some t)) lanes s).state = { s with smu := { s.smu with
          contexts := s.smu.contexts ++ [⟨i, t.k, .next, none, false, t.tag, .route slot⟩], standing := none } }) ∧
      (s.wtb.line = .idle ∨ s.wtb.line = .fault ∨ s.smu.heldStops ≠ [] ∨ 4 ≤ s.smu.contexts.length →
        (runAction slot (.spot (some t)) lanes s).done = false ∧
        (runAction slot (.spot (some t)) lanes s).state = s)) ∧
    (((runAction slot (.spot none) lanes s).done = true ↔
        s.wtb.line ≠ .idle ∧ s.wtb.line ≠ .fault ∧ s.smu.heldStops = [] ∧ s.smu.contexts.length < 4 ∧
          (s.smu.contexts ≠ [] ∨ s.smu.standing.isSome = true)) ∧
      (∀ c, s.wtb.line ≠ .idle → s.wtb.line ≠ .fault → s.smu.heldStops = [] → s.smu.contexts.length < 4 →
        s.smu.contexts.getLast? = some c ∨ (s.smu.contexts = [] ∧ s.smu.standing = some c) →
        (runAction slot (.spot none) lanes s).state = { s with smu := { s.smu with
          contexts := s.smu.contexts ++ [⟨c.slot, c.k, if c.target = .immediate then .immediate else .next, none,
            decide (c.target = .immediate), c.tag, .route slot⟩]
          standing := none } }) ∧
      (s.wtb.line ≠ .idle → s.wtb.line ≠ .fault → s.smu.heldStops = [] → s.smu.contexts = [] →
        s.smu.standing = none → (runAction slot (.spot none) lanes s).state =
          { s with smu := { s.smu with drops := if s.smu.drops < 255 then s.smu.drops + 1 else 255 } }) ∧
      (s.wtb.line = .idle ∨ s.wtb.line = .fault ∨ s.smu.heldStops ≠ [] ∨ 4 ≤ s.smu.contexts.length →
        (runAction slot (.spot none) lanes s).state = s)) ∧
    (∀ l : Lane,
      ((runAction slot (.cut (.lane l)) lanes s).done = true ↔ cuttable l) ∧
      ((runAction slot (.cut (.lane l)) lanes s).done = false →
        (runAction slot (.cut (.lane l)) lanes s).state = s) ∧
      (cuttable l → (runAction slot (.cut (.lane l)) lanes s).state = s.onLane l (fun _ => cutOf l))) ∧
    ((runAction slot (.cut .event) lanes s).done = true ↔ ∃ l ∈ lanes, cuttable l) ∧
    (∀ l : Lane,
      (l ∈ lanes → cuttable l → (runAction slot (.cut .event) lanes s).state.lane l = cutOf l) ∧
      (l ∉ lanes ∨ ¬ cuttable l → (runAction slot (.cut .event) lanes s).state.lane l = s.lane l)) ∧
    (runAction slot (.cut .event) lanes s).state = { s with rku := { s.rku with
      laneA := (runAction slot (.cut .event) lanes s).state.lane .a
      laneB := (runAction slot (.cut .event) lanes s).state.lane .b } }

/-- ROUTE BIND writes the slot whole, in place of any binding, and ROUTE UNBIND clears it and tells whether it was
bound; neither raises ROUTE-END. A field out of range, a count of 0 and the unroutable codes are BAD-VALUE. ROUTE
FIRE of a bound slot runs its action with no occurrence behind it, both lanes named for an EVENT-lane CUT: a
not-done action is answered NOT-DONE with the count kept; a done one counts one off, unbinds the slot at 0 with
ROUTE-END, and is then answered DONE with the count left. An unbound slot is NOT-FOUND and a slot above 3
BAD-VALUE. That ROUTE UNBIND's mark byte is 1 for bound is the model's choice (log 11). -/
def Obligations.RouteRequestsAreTaken : Prop :=
  (∀ (tag : Byte) (i : Fin 4) (ev : Event) (a : RouteAction) (n : Nat) (s : State),
    (ev ≠ .lineState → ev ≠ .stopCause → ev ≠ .routeEnd → a.inRange = true → 1 ≤ n → n ≤ 255 →
      exec (.routeBind tag i.val ev.code (some a) n) s = .next (answer tag 0x53#8 .ok []
        { s with evu := { s.evu with routes := s.evu.routes.set i (some ⟨ev, a, n⟩) } })) ∧
    (∀ (k code m : Nat) (act : Coded RouteAction),
      4 ≤ k ∨ code = 0 ∨ code = 1 ∨ code = 2 ∨ 31 ≤ code ∨ act = none ∨ (∃ b, act = some b ∧ b.inRange = false) ∨
        m = 0 ∨ 255 < m →
      exec (.routeBind tag k code act m) s = .next (answer tag 0x53#8 .badValue [] s)) ∧
    (exec (.routeUnbind tag i.val) s = .next (answer tag 0x54#8 .ok
      (le1 (if s.evu.routes[i].isSome then 1 else 0))
      { s with evu := { s.evu with routes := s.evu.routes.set i none } })) ∧
    (∀ k, 4 ≤ k → exec (.routeUnbind tag k) s = .next (answer tag 0x54#8 .badValue [] s))) ∧
  (∀ (tag : Byte) (s : State),
    (∀ (i : Fin 4) (r : Route) (a : ActionResult), s.evu.routes[i] = some r →
      a = runAction i r.action [.a, .b] s →
      (a.done = false →
        exec (.routeFire tag i.val) s = .next (answer tag 0x55#8 .ok ([0x01#8] ++ le1 r.remaining) a.state)) ∧
      (a.done = true →
        let counted : Option Route → State := fun left =>
          { a.state with evu := { a.state.evu with routes := s.evu.routes.set i left } }
        let ended : State := if r.remaining ≤ 1 then notice .routeEnd i.val r.event.code (counted none)
          else counted (some ⟨r.event, r.action, r.remaining - 1⟩)
        exec (.routeFire tag i.val) s = .next (answer tag 0x55#8 .ok ([0x00#8] ++ le1 (r.remaining - 1))
          (if a.held = true then noticeLineState .route ended else ended)))) ∧
    (∀ i : Fin 4, s.evu.routes[i] = none → exec (.routeFire tag i.val) s = .next (answer tag 0x55#8 .notFound [] s)) ∧
    (∀ n, 4 ≤ n → exec (.routeFire tag n) s = .next (answer tag 0x55#8 .badValue [] s)))

/-- NOTICE CLEAR of a code takes every queued notice of that code out of the queue, and of 0 every notice, the
rest kept in their order; the reply carries the number removed and the dropped count stands. A code above 31 is
BAD-VALUE. EVENT LEVEL writes the level of its code and NOTICE FLOOR the floor, each answering the value before; a
lowered floor makes the waiting notices available at once. Values out of range are BAD-VALUE. That an idle sender
sends at once is the model's reading (log 9). -/
def Obligations.NoticeRequestsAreTaken : Prop :=
  ((∀ (tag : Byte) (code : Nat) (s : State), 31 < code →
    exec (.noticeClear tag code) s = .next (answer tag 0x52#8 .badValue [] s)) ∧
  (∀ (tag : Byte) (s : State), ∃ t, exec (.noticeClear tag 0) s = .next t ∧
    t = answer tag 0x52#8 .ok (le1 s.evu.notices.length) { s with evu := { s.evu with notices := [] } }) ∧
  (∀ (tag : Byte) (ev : Event) (s : State), ∃ t kept, exec (.noticeClear tag ev.code) s = .next t ∧
    kept.Sublist s.evu.notices ∧ (∀ n ∈ s.evu.notices, n ∈ kept ↔ n.event ≠ ev) ∧
    kept.length + s.evu.notices.countP (fun n => n.event == ev) = s.evu.notices.length ∧
    t = answer tag 0x52#8 .ok (le1 (s.evu.notices.countP (fun n => n.event == ev)))
      { s with evu := { s.evu with notices := kept } } ∧ t.evu.dropped = s.evu.dropped)) ∧
  ((∀ (tag : Byte) (ev : Event) (level : Nat) (s : State), level ≤ 7 →
    exec (.eventLevel tag ev.code level) s = .next (answer tag 0x50#8 .ok (le1 s.evu.levels[ev.index])
      { s with evu := { s.evu with levels := s.evu.levels.set ev.index level } })) ∧
  (∀ (tag : Byte) (code level : Nat) (s : State), code = 0 ∨ 31 < code ∨ 7 < level →
    exec (.eventLevel tag code level) s = .next (answer tag 0x50#8 .badValue [] s)) ∧
  (∀ (tag : Byte) (floor : Nat) (s : State), floor ≤ 7 →
    exec (.noticeFloor tag floor) s = .next (pump (answer tag 0x51#8 .ok (le1 s.evu.floor)
      { s with evu := { s.evu with floor := floor } }))) ∧
  (∀ (tag : Byte) (floor : Nat) (s : State), 7 < floor →
    exec (.noticeFloor tag floor) s = .next (answer tag 0x51#8 .badValue [] s)))

/-! ### The Web Timebase -/

/-- One level change of ENC A or ENC B is one count: forward where, by the channel that changed, the levels stand
equal after a change of A or unequal after one of B, the setting swapping the two. A forward count adds 1 to WP, a
reverse count takes 1 off, and HW follows by the line state; a forward count above HW in RUN, HOLD or FAULT is a
new-web advance. Outside a reverse excursion that begins here nothing else of the part changes. The reverse count
that takes the depth above N outside an excursion, by a change of either channel and under either setting, in RUN
or HOLD with no slot bound to REVERSE, sets the excursion flag and raises REVERSE with HW; RUN enters HOLD with
resume disarmed and the emboss unit leaves step, and HOLD disarms resume. The flag `newWeb` is the model's own
(log 1). -/
def Obligations.WebPositionFollowsCounts : Prop :=
  (∀ (ch : EncChannel) (s : State), ∃ pins : Pins,
    pins = (match ch with
      | .a => { s.pins with encA := !s.pins.encA }
      | .b => { s.pins with encB := !s.pins.encB }) ∧
    let forward : Prop := ((match ch with
      | .a => pins.encA = pins.encB
      | .b => pins.encA ≠ pins.encB) ↔ s.wtb.polarity.reversed = false)
    (forward → s.wtb.line = .idle ∨ s.wtb.line = .thread →
      exec (.encoderCount ch) s = .next { s with
        pins := pins
        wtb := { s.wtb with
          wp := s.wtb.wp + 1, hw := s.wtb.wp + 1, netCount := s.wtb.netCount + 1, newWeb := false } }) ∧
    (forward → s.wtb.line ≠ .idle → s.wtb.line ≠ .thread → 0 < (s.wtb.wp + 1 - s.wtb.hw).toInt →
      exec (.encoderCount ch) s = .next { s with
        pins := pins
        wtb := { s.wtb with
          wp := s.wtb.wp + 1, hw := s.wtb.wp + 1, netCount := s.wtb.netCount + 1, newWeb := true
          excursion := false } }) ∧
    (forward → s.wtb.line ≠ .idle → s.wtb.line ≠ .thread → (s.wtb.wp + 1 - s.wtb.hw).toInt ≤ 0 →
      exec (.encoderCount ch) s = .next { s with
        pins := pins
        wtb := { s.wtb with
          wp := s.wtb.wp + 1, netCount := s.wtb.netCount + 1, newWeb := false
          excursion := s.wtb.excursion && decide (s.wtb.wp + 1 ≠ s.wtb.hw) } }) ∧
    (¬ forward → s.wtb.line = .idle ∨ s.wtb.line = .thread →
      exec (.encoderCount ch) s = .next { s with
        pins := pins
        wtb := { s.wtb with
          wp := s.wtb.wp - 1, hw := s.wtb.wp - 1, netCount := s.wtb.netCount - 1, newWeb := false } }) ∧
    (¬ forward → s.wtb.line ≠ .idle → s.wtb.line ≠ .thread →
      (s.wtb.line = .fault ∨ s.wtb.excursion = true ∨
        (s.wtb.hw - (s.wtb.wp - 1)).toInt ≤ s.tku.params.n) →
      exec (.encoderCount ch) s = .next { s with
        pins := pins
        wtb := { s.wtb with wp := s.wtb.wp - 1, netCount := s.wtb.netCount - 1, newWeb := false } })) ∧
  (∀ (ch : EncChannel) (pins : Pins) (s : State),
    pins = (match ch with
      | .a => { s.pins with encA := !s.pins.encA }
      | .b => { s.pins with encB := !s.pins.encB }) →
    ¬ ((match ch with
      | .a => pins.encA = pins.encB
      | .b => pins.encA ≠ pins.encB) ↔ s.wtb.polarity.reversed = false) →
    s.wtb.excursion = false → (s.tku.params.n : Int) < (s.wtb.hw - (s.wtb.wp - 1)).toInt →
    s.evu.routeFor .reverse = none →
    ∃ u : State, u = notice .reverse 0 s.wtb.hw.toNat { s with
        pins := pins
        wtb := { s.wtb with
          wp := s.wtb.wp - 1, netCount := s.wtb.netCount - 1, newWeb := false, excursion := true } } ∧
      (s.wtb.line = .hold → exec (.encoderCount ch) s = .next { u with wtb := { u.wtb with resumeArmed := false } }) ∧
      (s.wtb.line = .run → ∃ t, exec (.encoderCount ch) s = .next t ∧
        t = noticeLineState .reverse { u with
          wtb := { u.wtb with line := .hold, resumeArmed := false }, epu := t.epu } ∧
        t.epu.state ≠ .syncing ∧ t.epu.state ≠ .engaged ∧ (s.epu.state = .engaged → t.epu.npc = false)))

/-- A speed sample closes the net count: the four newest give v, floor(sum / 4) saturated at 255, and FORWARD
where the sum is 0 or more, and v 0 and REVERSE where it is negative. Then, by the new v: in RUN with auto-hold on
and v below the crawl threshold the line enters HOLD with resume armed; in HOLD with resume armed and v at least
the threshold + 2 it enters RUN, where a calibration run ends and an OPEN emboss unit with its re-engage flag set
acts on the flag: SYNCING where auto re-engage is still enabled; otherwise nothing else changes. The order of the
blocks is the model's choice (log 8). -/
def Obligations.SpeedSampleSetsSpeed : Prop :=
  ∀ s : State, ∃ w : Wtb,
    w = { s.wtb with
      s1 := s.wtb.netCount, s2 := s.wtb.s1, s3 := s.wtb.s2, s4 := s.wtb.s3, netCount := 0, v := w.v
      reverse := decide (s.wtb.netCount + s.wtb.s1 + s.wtb.s2 + s.wtb.s3 < 0) } ∧
    (0 ≤ s.wtb.netCount + s.wtb.s1 + s.wtb.s2 + s.wtb.s3 →
      (w.v : Int) = min 255 ((s.wtb.netCount + s.wtb.s1 + s.wtb.s2 + s.wtb.s3) / 4)) ∧
    (s.wtb.netCount + s.wtb.s1 + s.wtb.s2 + s.wtb.s3 < 0 → w.v = 0) ∧
    (s.wtb.line = .run → w.autoHold = true → w.v < w.crawl →
      ∃ t, exec .speedSample s = .next t ∧
        t = noticeLineState .crawl { s with
          wtb := { w with line := .hold, resumeArmed := true }, epu := t.epu } ∧
        t.epu.state ≠ .syncing ∧ t.epu.state ≠ .engaged) ∧
    (s.wtb.line = .hold → w.resumeArmed = true → w.crawl + 2 ≤ w.v →
      ∃ t, exec .speedSample s = .next t ∧
        t = { endCalibrationEarly (noticeLineState .speed
          { s with wtb := { w with line := .run, resumeArmed := false } }) with epu := t.epu } ∧
        (s.smu.calRun = none ∨ s.evu.routeFor .calDone = none →
          (s.epu.state = .opened → s.epu.releaseWatch = none → s.epu.reengage = true →
            (s.epu.params.autoReengage = true → t.epu = { s.epu with
              state := .syncing, engageCount := 0, settle := 0, reengage := false }) ∧
            (s.epu.params.autoReengage = false → t.epu = { s.epu with reengage := false })) ∧
          (s.epu.state ≠ .opened ∨ s.epu.releaseWatch.isSome = true ∨ s.epu.reengage = false →
            t.epu = s.epu))) ∧
    ((s.wtb.line = .run → w.autoHold = false ∨ w.crawl ≤ w.v) →
      (s.wtb.line = .hold → w.resumeArmed = false ∨ w.v < w.crawl + 2) →
      exec .speedSample s = .next { s with wtb := w })

/-- A stop cause that finds its latch clear latches: in IDLE and FAULT nothing else changes but the STOP-CAUSE
notice, and from THREAD, RUN or HOLD the line enters FAULT with the track kept but not scanned, every owed trim 0,
the nip opened, scans, spots and a calibration run ended, the cuts disarmed and the open rolls kept. ENCODER
latches at an illegal transition, which moves no position, and ESTOP when EST reads active. One already latched
latches nothing. STOP-CAUSE is raised with the cause and the line state at the latching, and on entry to FAULT
LINE-STATE after it; the blocks' fault changes follow, and with no spot in progress and no calibration run they
raise nothing more. EST read inactive latches nothing: its level is noted and nothing else changes. STOP ACK of a
code 1 to 5, or 0 for all: a named latch clears unless its condition is present, which it can be for ESTOP (EST
active) and NIP-STUCK (NPF closed) alone; the others stand. The reply is STILL-ACTIVE where a named cause stays
latched, else OK, with the set of latched causes after, and the line state stands. The order of the blocks is the
model's choice (log 8), and EST_ACTIVE carries the level read (log 4). -/
def Obligations.StopCausesLatchAndClear : Prop :=
  (∀ (s s' : State) (c : StopCause) (i : Instr) (bit : Bool),
    (i = .illegalTransition ∧ c = .encoder ∧
      s' = { s with pins := { s.pins with encA := !s.pins.encA, encB := !s.pins.encB } }) ∨
    (i = .estActive bit ∧ c = .estop ∧ bit ≠ s.wtb.polarity.est ∧
      s' = { s with pins := { s.pins with est := bit } }) →
    (s.wtb.latched.get c = true → exec i s = .next s') ∧
    (s.wtb.latched.get c = false → s.wtb.line = .idle ∨ s.wtb.line = .fault →
      exec i s = .next (notice .stopCause c.code s.wtb.line.code
        { s' with wtb := { s.wtb with latched := s.wtb.latched.put c true } })) ∧
    (s.wtb.latched.get c = false → s.wtb.line = .thread ∨ s.wtb.line = .run ∨ s.wtb.line = .hold →
      ∃ t u, exec i s = .next t ∧
        t.wtb = { s.wtb with latched := s.wtb.latched.put c true, line := .fault, resumeArmed := false } ∧
        u = noticeLineState .stopCause { notice .stopCause c.code s.wtb.line.code
          { s' with wtb := { s.wtb with latched := s.wtb.latched.put c true } } with wtb := t.wtb } ∧
        t = disarmLanes (shadeAtFault (embossAtStop (zeroTrims (scannerOff u)))) ∧
        (s.smu.spotInProgress = none → s.smu.calRun = none → t.svl = u.svl ∧ t.evu = u.evu) ∧
        t.tku = { s.tku with scanner := .off, halfSeen := none, coastCount := 0 } ∧
        t.rlu = { s.rlu with channels := s.rlu.channels.map (fun ch => { ch with owed := 0 }) } ∧
        t.epu.state ≠ .syncing ∧ t.epu.state ≠ .engaged ∧ (s.epu.state = .engaged → t.epu.npc = false) ∧
        t.epu.reengage = false ∧
        t.smu.scan = none ∧ t.smu.overrun = none ∧ t.smu.spotInProgress = none ∧ t.smu.calRun = none ∧
        (∀ l : Lane, (t.lane l).cut = none ∧ (t.lane l).force = false ∧ (t.lane l).state ≠ .armed ∧
          (t.lane l).turret = (s.lane l).turret ∧ (t.lane l).pulses = (s.lane l).pulses ∧
          ((t.lane l).roll.map (·.number)) = (s.lane l).roll.map (·.number)) ∧
        t.rku.history = s.rku.history ∧ t.btu.batches = s.btu.batches ∧ t.lbp = s.lbp ∧ t.pins = s'.pins ∧
        t.pending = s.pending ∧ t.evu.levels = s.evu.levels ∧ t.evu.floor = s.evu.floor ∧
        t.svl.input = s.svl.input)) ∧
  (∀ (bit : Bool) (s : State), bit = s.wtb.polarity.est →
    exec (.estActive bit) s = .next { s with pins := { s.pins with est := bit } }) ∧
  ((∀ (tag : Byte) (code : Nat) (s : State), code ≤ 5 → ∃ l : Latches,
    (∀ c : StopCause, l.get c = (s.wtb.latched.get c &&
      (!(code == 0 || c.code == code) || (c == .estop && s.estActive) || (c == .nipStuck && s.nipClosed)))) ∧
    exec (.stopAck tag code) s = .next (answer tag 0x08#8
      (if StopCause.all.any (fun c => (code == 0 || c.code == code) && l.get c) then .stillActive else .ok)
      (le1 ((if l.estop then 1 else 0) + (if l.encoder then 2 else 0) + (if l.trackOverflow then 4 else 0) +
        (if l.winder then 8 else 0) + (if l.nipStuck then 16 else 0)))
      { s with wtb := { s.wtb with latched := l } })) ∧
  (∀ (tag : Byte) (code : Nat) (s : State), 5 < code →
    exec (.stopAck tag code) s = .next (answer tag 0x08#8 .badValue [] s)))

/-- LINE SET. INPUT SET with every field named is taken in IDLE and THREAD: the settings are written, a SCN or EIX
whose polarity changes takes its present level without an edge and a half-seen mark is abandoned, and an EST that
then reads active latches ESTOP. In RUN, HOLD and FAULT a change is WRONG-STATE; a field that names nothing is
BAD-VALUE. That the reply joins first is the model's choice (log 9). -/
def Obligations.LineSettingsAreWritten : Prop :=
  ((∀ (tag : Byte) (crawl : Nat) (h : Bool) (s : State), 2 ≤ crawl → crawl ≤ 40 →
    exec (.lineSet tag crawl (some h)) s = .next (answer tag 0x0A#8 .ok []
      { s with wtb := { s.wtb with crawl := crawl, autoHold := h } })) ∧
  (∀ (tag : Byte) (crawl : Nat) (h : Coded Bool) (s : State), crawl < 2 ∨ 40 < crawl ∨ h = none →
    exec (.lineSet tag crawl h) s = .next (answer tag 0x0A#8 .badValue [] s))) ∧
  ((∀ (tag : Byte) (f : InputFields) (p : Polarity) (s : State), f.resolve = some p → p ≠ s.wtb.polarity →
    (s.wtb.line = .idle ∨ s.wtb.line = .thread → (s.pins.est = p.est ∨ s.wtb.latched.estop = true) →
      exec (.inputSet tag f) s = .next { answer tag 0x09#8 .ok [] s with
        wtb := { s.wtb with polarity := p }
        tku := if p.scn = s.wtb.polarity.scn then s.tku
          else { s.tku with scnPrev := s.pins.scn != p.scn, halfSeen := none }
        epu := if p.eix = s.wtb.polarity.eix then s.epu else { s.epu with eixPrev := s.pins.eix != p.eix } }) ∧
    (s.wtb.line = .idle ∨ s.wtb.line = .thread → s.pins.est ≠ p.est → s.wtb.latched.estop = false →
      ∃ t, exec (.inputSet tag f) s = .next t ∧ t.wtb.polarity = p ∧ t.wtb.latched.estop = true ∧
        (s.wtb.line = .idle → t.wtb.line = .idle) ∧ (s.wtb.line = .thread → t.wtb.line = .fault)) ∧
    (s.wtb.line ≠ .idle → s.wtb.line ≠ .thread →
      exec (.inputSet tag f) s = .next (answer tag 0x09#8 .wrongState [] s))) ∧
  (∀ (tag : Byte) (f : InputFields) (s : State), f.resolve = none →
    exec (.inputSet tag f) s = .next (answer tag 0x09#8 .badValue [] s)) ∧
  (∀ (tag : Byte) (f : InputFields) (s : State), f.resolve = some s.wtb.polarity →
    exec (.inputSet tag f) s = .next (answer tag 0x09#8 .ok [] s)))

/-! ### Jobs -/

/-- JOB OPEN in IDLE with no cause latched replies OK, enters THREAD with HW at WP, and the blocks make their
job-open changes; with a cause latched it is STILL-ACTIVE, which carries no set (log 28), and in another line
state WRONG-STATE. That the last index outcome becomes none is the model's choice (log 39). JOB HOLD in RUN
replies OK and enters HOLD with resume disarmed, the emboss unit leaving step; in HOLD it disarms resume. JOB
RESUME in HOLD arms it. Elsewhere both are WRONG-STATE. That the reply joins before LINE-STATE is the model's
choice (logs 8 and 9). -/
def Obligations.JobOpenOpensJob : Prop :=
  (∀ (tag : Byte) (s : State),
    (s.wtb.line = .idle → (∀ c, s.wtb.latched.get c = false) →
      ∃ u : State, u = noticeLineState .request { answer tag 0x01#8 .ok [] s with
          wtb := { s.wtb with line := .thread, resumeArmed := false, hw := s.wtb.wp, newWeb := false } } ∧
        exec (.jobOpen tag) s = .next { u with
          tku := { s.tku with nextRepeat := 1, readCursor := 1, estimate := 16 * s.tku.params.n }
          rlu := { s.rlu with channels := s.rlu.channels.map (fun c => { c with total := 0 }) }
          epu := { s.epu with
            state := if s.epu.params.configured then .opened else .none, lastPhase := none, lastOutcome := none }
          smu := { s.smu with results := [], drops := 0 }
          rku := { s.rku with history := [], readCursor := none, nextRoll := 1, wrapped := false }
          btu := { s.btu with batches := [], sequence := 1, breakPending := false, takes := 0 }
          lbp := { s.lbp with
            listA := s.lbp.listA.map (fun j => { j with linked := false })
            listB := s.lbp.listB.map (fun j => { j with linked := false })
            inFlight := s.lbp.inFlight.map (fun f => { f with job := { f.job with linked := false } }) } }) ∧
    (s.wtb.line = .idle → (∃ c, s.wtb.latched.get c = true) →
      exec (.jobOpen tag) s = .next (answer tag 0x01#8 .stillActive [] s)) ∧
    (s.wtb.line ≠ .idle → exec (.jobOpen tag) s = .next (answer tag 0x01#8 .wrongState [] s))) ∧
  (∀ (tag : Byte) (s : State),
    (s.wtb.line = .run → ∃ t, exec (.jobHold tag) s = .next t ∧
      t = noticeLineState .request { answer tag 0x03#8 .ok [] s with
        wtb := { s.wtb with line := .hold, resumeArmed := false }, epu := t.epu } ∧
      t.epu.state ≠ .syncing ∧ t.epu.state ≠ .engaged ∧
      (s.epu.state = .opened ∨ s.epu.state = .none ∨ s.epu.state = .releasing → t.epu = s.epu)) ∧
    (s.wtb.line = .hold → exec (.jobHold tag) s = .next
      { answer tag 0x03#8 .ok [] s with wtb := { s.wtb with resumeArmed := false } }) ∧
    (s.wtb.line = .hold → exec (.jobResume tag) s = .next
      { answer tag 0x04#8 .ok [] s with wtb := { s.wtb with resumeArmed := true } }) ∧
    (s.wtb.line ≠ .run → s.wtb.line ≠ .hold →
      exec (.jobHold tag) s = .next (answer tag 0x03#8 .wrongState [] s)) ∧
    (s.wtb.line ≠ .hold → exec (.jobResume tag) s = .next (answer tag 0x04#8 .wrongState [] s)))

/-- JOB START in THREAD with every check of R10 passed replies OK and starts the track: the estimate seeded, the
scanner in ACQUIRE at the present SCN level, counts and runs at their start, AUTO countdowns loaded, enabled lanes
in LEADER. The line enters RUN at or above the crawl threshold, where a calibration run ends, and HOLD with resume
armed below it. JOB START in THREAD with a check of R10 failing is INVALID-JOB with the code of the first that
fails and changes nothing; outside THREAD it is WRONG-STATE. The nine checks hold exactly as the table words them.
That the reply joins before LINE-STATE is the model's choice (logs 8 and 9). -/
def Obligations.JobStartStartsTrack : Prop :=
  (∀ (tag : Byte) (s : State), s.wtb.line = .thread →
    (∀ c, 1 ≤ c → c ≤ 9 → checkHolds s.tku.params s c = true) →
    ∃ u : State, u = { answer tag 0x02#8 .ok [] s with
        wtb := { s.wtb with excursion := false }
        tku := { s.tku with
          estimate := 16 * s.tku.params.n, scanner := .acquire, scnPrev := s.scnActive, halfSeen := none
          coastCount := 0, stray := 0 }
        rlu := u.rlu
        epu := { s.epu with lastPhase := none, lastOutcome := none, eixPrev := s.eixActive }
        smu := { s.smu with pointer := 1 }
        rku := { s.rku with
          laneA := if s.rku.laneA.params.enabled then
            { s.rku.laneA with state := .leader, force := false, cut := none } else s.rku.laneA
          laneB := if s.rku.laneB.params.enabled then
            { s.rku.laneB with state := .leader, force := false, cut := none } else s.rku.laneB } } ∧
      u.rlu.channels = s.rlu.channels ∧
      (∀ k : Fin 8, u.rlu.stations[k] = { s.rlu.stations[k] with
        outRun := 0, missRun := 0, alarmArmed := true
        settle := if s.rlu.stations[k].mode = .auto then
          settleValue s.tku.path.d[k] (16 * s.tku.params.n) else s.rlu.stations[k].settle }) ∧
      (s.wtb.crawl ≤ s.wtb.v → exec (.jobStart tag) s = .next (endCalibrationEarly (noticeLineState .request
        { u with wtb := { u.wtb with line := .run, resumeArmed := false } }))) ∧
      (s.wtb.v < s.wtb.crawl → exec (.jobStart tag) s = .next (noticeLineState .request
        { u with wtb := { u.wtb with line := .hold, resumeArmed := true } }))) ∧
  ((∀ (tag : Byte) (s : State) (code : Nat), s.wtb.line = .thread → 1 ≤ code → code ≤ 9 →
    checkHolds s.tku.params s code = false → (∀ c, 1 ≤ c → c < code → checkHolds s.tku.params s c = true) →
    exec (.jobStart tag) s = .next (answer tag 0x02#8 .invalidJob (le1 code) s)) ∧
  (∀ (tag : Byte) (s : State), s.wtb.line ≠ .thread →
    exec (.jobStart tag) s = .next (answer tag 0x02#8 .wrongState [] s)) ∧
  (∀ (r : RepeatParams) (s : State),
    (checkHolds r s 1 = true ↔ r.n ≠ 0) ∧
    (checkHolds r s 2 = true ↔ ∃ k : Fin 8, s.rlu.stations[k].mode = .master ∧
      ∀ j : Fin 8, s.rlu.stations[j].mode = .master → j = k) ∧
    (checkHolds r s 3 = true ↔
      (∀ k : Fin 8, s.rlu.stations[k].mode = .monitor ∨ s.rlu.stations[k].mode = .auto →
        (r.wMaster : Int) < s.rlu.stations[k].params.d - s.rlu.stations[k].params.w ∧
        (s.rlu.stations[k].params.d : Int) + s.rlu.stations[k].params.w < r.n - r.wMaster - (r.n * r.g / 1024 : Nat)) ∧
      (∀ j k : Fin 8, j ≠ k → (s.rlu.stations[j].mode = .monitor ∨ s.rlu.stations[j].mode = .auto) →
        (s.rlu.stations[k].mode = .monitor ∨ s.rlu.stations[k].mode = .auto) →
        s.rlu.stations[j].params.w + s.rlu.stations[k].params.w <
          ((s.rlu.stations[j].params.d : Int) - s.rlu.stations[k].params.d).natAbs)) ∧
    (checkHolds r s 4 = true ↔ 2 * (r.widthTol : Int) < r.masterWidth - r.stationWidth) ∧
    (checkHolds r s 5 = true ↔ r.n ≤ s.tku.path.de ∧ s.tku.path.de + r.n ≤ s.tku.path.ds ∧
      s.tku.path.ds + r.n ≤ s.tku.path.dka ∧ s.tku.path.ds + r.n ≤ s.tku.path.dkb) ∧
    (checkHolds r s 6 = true ↔ ∀ l : Lane, (s.lane l).params.enabled = true →
      max s.tku.path.dka s.tku.path.dkb + (s.lane l).params.cutOffset ≤ 480 * r.n) ∧
    (checkHolds r s 7 = true ↔ s.rku.laneA.params.enabled = true ∨ s.rku.laneB.params.enabled = true) ∧
    (checkHolds r s 8 = true ↔ ∀ l : Lane, (s.lane l).params.enabled = true → 2 * r.n ≤ (s.lane l).params.target) ∧
    (checkHolds r s 9 = true ↔ (s.epu.params.configured = true → s.epu.params.offset < r.n))))

/-! ### A rule of chapter 8: the batch distance -/

/-- The distance of a roll's shade mean to a batch's reference, for values of 0 to 4,095 and weights of 0 to 64:
the weighted sum of squares, at most 3,219,652,800, below 2^32. The batch qualifies where it is at most 16 * T^2,
itself at most 268,304,400; with unity weights of 16 the test is on the plain sum against T^2; with T = 0 every
weighted channel must be equal; with all weights 0 every batch qualifies. The distance reported for a roll that
joins is the integer square root of floor(D2 / 16), at most 14,185. -/
def Obligations.BatchDistanceQualifies : Prop :=
  (∀ (p : BatchParams) (x r : Rgb) (d2 : Nat), p.wR ≤ 64 → p.wG ≤ 64 → p.wB ≤ 64 → p.tol ≤ 4095 →
    x.r ≤ 4095 → x.g ≤ 4095 → x.b ≤ 4095 → r.r ≤ 4095 → r.g ≤ 4095 → r.b ≤ 4095 → d2 = distance2 p x r →
    (d2 : Int) = p.wR * ((x.r : Int) - r.r) ^ 2 + p.wG * ((x.g : Int) - r.g) ^ 2 + p.wB * ((x.b : Int) - r.b) ^ 2 ∧
    ((x.r : Int) - r.r).natAbs ≤ 4095 ∧ ((x.g : Int) - r.g).natAbs ≤ 4095 ∧ ((x.b : Int) - r.b).natAbs ≤ 4095 ∧
    d2 ≤ 3219652800 ∧ d2 < 2 ^ 32 ∧ 16 * p.tol ^ 2 ≤ 268304400 ∧
    (∀ (b : Batch) (t : Btu), t.params = { p with mode := .nearest } → t.batches = [b] → b.reference = r →
      (t.nearest x = some b ↔ d2 ≤ 16 * p.tol ^ 2)) ∧
    (p.wR = 16 → p.wG = 16 → p.wB = 16 →
      (d2 ≤ 16 * p.tol ^ 2 ↔
        ((x.r : Int) - r.r) ^ 2 + ((x.g : Int) - r.g) ^ 2 + ((x.b : Int) - r.b) ^ 2 ≤ (p.tol : Int) ^ 2) ∧
      (reportedDistance d2 : Int) ^ 2 ≤ ((x.r : Int) - r.r) ^ 2 + ((x.g : Int) - r.g) ^ 2 + ((x.b : Int) - r.b) ^ 2 ∧
      ((x.r : Int) - r.r) ^ 2 + ((x.g : Int) - r.g) ^ 2 + ((x.b : Int) - r.b) ^ 2 < (reportedDistance d2 + 1 : Int) ^ 2) ∧
    (p.tol = 0 → (d2 ≤ 16 * p.tol ^ 2 ↔
      (p.wR = 0 ∨ x.r = r.r) ∧ (p.wG = 0 ∨ x.g = r.g) ∧ (p.wB = 0 ∨ x.b = r.b))) ∧
    (p.wR = 0 → p.wG = 0 → p.wB = 0 → d2 = 0 ∧ d2 ≤ 16 * p.tol ^ 2) ∧
    reportedDistance d2 ^ 2 ≤ d2 / 16 ∧ d2 / 16 < (reportedDistance d2 + 1) ^ 2 ∧ reportedDistance d2 ≤ 14185) ∧
  (∀ (c : Candidate) (b : Batch) (s : State), s.btu.breakPending = false → s.btu.nearest c.mean = some b →
    (takeCandidate c s).answer = some (b.code, reportedDistance (distance2 s.btu.params c.mean b.reference)))

/-! ### Stopping and closing a job -/

/-- JOB STOP in RUN or HOLD replies OK, enters THREAD with HW at WP and raises LINE-STATE: the track, its cursors
and the splice list are emptied, the scanner goes OFF, the nip is released, scans end, the cuts are disarmed and
open rolls flagged TRACK-GAP; owed trims, totals, modes, history and batches stand. RECOVER in FAULT with no cause
latched replies and does the same to track and lanes. The reply joins before anything the blocks raise; with no
spot work of the track it and LINE-STATE are all the output. A spot in progress that targets a record ends
ABANDONED at JOB STOP, and then (log 44) the pending contexts with a numbered target or a bound record end MISSED
in queue order, each with its result and SPOT-DONE; the others stay. In other line states both are WRONG-STATE,
and RECOVER with a cause latched STILL-ACTIVE, which carries no set (log 28). That the reply joins before
LINE-STATE is the model's choice (logs 8 and 9). -/
def Obligations.StopAndRecoverEmptyTrack : Prop :=
  (∀ (tag type : Byte) (s : State) (i : Instr),
    (i = .jobStop tag ∧ type = 0x05#8 ∧ (s.wtb.line = .run ∨ s.wtb.line = .hold)) ∨
    (i = .recover tag ∧ type = 0x07#8 ∧ s.wtb.line = .fault ∧ ∀ c, s.wtb.latched.get c = false) →
    ∃ t u, exec i s = .next t ∧
      t.wtb = { s.wtb with line := .thread, resumeArmed := false, hw := s.wtb.wp, newWeb := false } ∧
      u = noticeLineState .request { answer tag type .ok [] s with wtb := t.wtb } ∧
      ((∀ c ∈ s.smu.contexts, c.target = .immediate ∨ (c.target = .next ∧ c.bound = none)) →
        s.smu.spotInProgress = none → t.svl = u.svl ∧ t.evu = u.evu) ∧
      (s.svl.sending = none → s.svl.replies = [] →
        t.svl.sending = some ⟨supervisorFrame tag (type + 0x80#8) [0x00#8], false⟩) ∧
      (∀ f, s.svl.sending = some f → t.svl.sending = some f ∧
        ∃ later, t.svl.replies = s.svl.replies ++ ⟨.ordinary, tag, type, .ok, [], false⟩ :: later) ∧
      t.tku = { s.tku with
        scanner := .off, halfSeen := none, coastCount := 0, track := [], departed := []
        cursors := ⟨none, none, none, none⟩, splices := [], readCursor := s.tku.nextRepeat } ∧
      t.rlu = s.rlu ∧ t.epu.params = s.epu.params ∧ t.epu.reengage = false ∧
      (s.epu.state = .engaged → i = .jobStop tag → t.epu.npc = false ∧
        t.epu.state = (if s.nipClosed then .releasing else .opened)) ∧
      (s.epu.state = .syncing → i = .jobStop tag → t.epu.state = .opened) ∧
      (s.epu.state = .releasing → i = .recover tag → t.epu.state = .opened) ∧
      (i = .jobStop tag → t.smu.scan = none ∧ t.smu.overrun = none) ∧
      (∀ c, i = .jobStop tag → s.smu.spotInProgress = some c →
        t.smu.bus = if c.target = .immediate then s.smu.bus else none) ∧
      (∀ (bound : SpotContext → Bool) (abandoned : List SpotResult) (v : State),
        s.evu.routeFor .spotDone = none → s.evu.routeFor .spotOverrun = none → s.smu.heldStops = [] →
        (∀ c, bound c = true ↔ (∃ n, c.target = .number n) ∨ (c.target = .next ∧ c.bound.isSome = true)) →
        ((∀ c, s.smu.spotInProgress = some c → i = .recover tag ∨ c.target = .immediate) → abandoned = []) →
        (∀ c, i = .jobStop tag → s.smu.spotInProgress = some c → c.target ≠ .immediate →
          abandoned = [⟨c.tag, c.source, c.slot, c.serves, .abandoned, none, none⟩]) →
        v = (abandoned ++ (s.smu.contexts.filter bound).map (fun c =>
          SpotResult.mk c.tag c.source c.slot c.serves .missed none none)).foldl (fun w r => offerResult r w) u →
        t.smu.contexts = s.smu.contexts.filter (fun c => !bound c) ∧ t.smu.results = v.smu.results ∧
        t.smu.standing = (if s.smu.params.keep = true ∧ s.smu.contexts ≠ [] ∧ (∀ c ∈ s.smu.contexts, bound c = true)
          then s.smu.contexts.getLast? else s.smu.standing) ∧
        t.svl = v.svl ∧ t.evu = v.evu) ∧
      (∀ l : Lane, (t.lane l).cut = none ∧ (t.lane l).force = false ∧ (t.lane l).params = (s.lane l).params ∧
        (t.lane l).turret = (s.lane l).turret ∧
        (t.lane l).state = (if (s.lane l).state = .armed then .winding else (s.lane l).state) ∧
        (t.lane l).roll = (s.lane l).roll.map (fun r => { r with flags := { r.flags with trackGap := true } })) ∧
      t.rku.history = s.rku.history ∧ t.rku.nextRoll = s.rku.nextRoll ∧ t.btu.batches = s.btu.batches ∧
      t.lbp = s.lbp ∧ t.pins = s.pins ∧ t.pending = s.pending) ∧
  (∀ (tag : Byte) (s : State), s.wtb.line ≠ .run → s.wtb.line ≠ .hold →
    exec (.jobStop tag) s = .next (answer tag 0x05#8 .wrongState [] s)) ∧
  (∀ (tag : Byte) (s : State), s.wtb.line ≠ .fault →
    exec (.recover tag) s = .next (answer tag 0x07#8 .wrongState [] s)) ∧
  (∀ (tag : Byte) (s : State), s.wtb.line = .fault → (∃ c, s.wtb.latched.get c = true) →
    exec (.recover tag) s = .next (answer tag 0x07#8 .stillActive [] s))

/-- JOB END in THREAD replies OK, enters IDLE and raises LINE-STATE: owed trims are 0, the emboss unit is NONE,
pending and standing spot contexts leave, an open roll of each lane, lane A's first, enters the history PARTIAL
with its length to the last record it counted, every lane goes OFF with no roll, the batch table is emptied and
the routes unbound, while totals, parameters and latches stand. The reply joins before anything the blocks raise;
with no open roll and no spot in progress it and LINE-STATE are all the output. Outside THREAD it is WRONG-STATE.
That the reply joins before LINE-STATE is the model's choice (logs 8 and 9), and so is the length where the last
record counted lies behind the opening (log 50). -/
def Obligations.JobEndClosesJob : Prop :=
  (∀ (tag : Byte) (s : State), s.wtb.line = .thread →
    ∃ t u, exec (.jobEnd tag) s = .next t ∧
      t.wtb = { s.wtb with line := .idle, resumeArmed := false } ∧ t.tku = s.tku ∧
      u = noticeLineState .request { answer tag 0x06#8 .ok [] s with wtb := t.wtb } ∧
      ((∀ l, (s.lane l).roll = none) → s.smu.spotInProgress = none →
        t.svl = u.svl ∧ t.evu = { u.evu with routes := t.evu.routes }) ∧
      (s.svl.sending = none → s.svl.replies = [] →
        t.svl.sending = some ⟨supervisorFrame tag 0x86#8 [0x00#8], false⟩) ∧
      (∀ f, s.svl.sending = some f → t.svl.sending = some f ∧
        ∃ later, t.svl.replies = s.svl.replies ++ ⟨.ordinary, tag, 0x06#8, .ok, [], false⟩ :: later) ∧
      t.rlu = { s.rlu with channels := s.rlu.channels.map (fun c => { c with owed := 0 }) } ∧
      t.epu.state = .none ∧ t.epu.npc = false ∧ t.epu.reengage = false ∧ t.epu.params = s.epu.params ∧
      t.epu.releaseWatch = s.epu.releaseWatch ∧
      t.smu.contexts = [] ∧ t.smu.standing = none ∧ t.smu.spotInProgress = none ∧ t.smu.calRun = s.smu.calRun ∧
      (∀ l : Lane, (t.lane l).state = .off ∧ (t.lane l).roll = none ∧ (t.lane l).cut = none ∧
        (t.lane l).turret = none ∧ (t.lane l).params = (s.lane l).params) ∧
      (∀ (l : Lane) (r : OpenRoll), (s.lane l).roll = some r → ∃ h ∈ t.rku.history, h.number = r.number ∧
        h.lane = l ∧ h.disposition = .partialRoll ∧ h.length = (r.lastRef - r.opening).toInt ∧ h.counts = r.counts ∧
        h.flags = r.flags ∧ h.mean = r.counts.mean ∧ h.code = none ∧ h.distance = none) ∧
      (∃ before, t.rku.history.map (·.number) =
        before ++ ([s.rku.laneA.roll, s.rku.laneB.roll].filterMap id).map (·.number)) ∧
      t.rku.nextRoll = s.rku.nextRoll ∧ t.btu.batches = [] ∧ t.btu.sequence = s.btu.sequence ∧
      (∀ i : Fin 4, t.evu.routes[i] = none) ∧ t.evu.levels = s.evu.levels ∧ t.pins = s.pins ∧
      t.pending = s.pending) ∧
  (∀ (tag : Byte) (s : State), s.wtb.line ≠ .thread →
    exec (.jobEnd tag) s = .next (answer tag 0x06#8 .wrongState [] s))

/-! ### The Track Unit -/

/-- The ranges of the set requests, field by field, as the tables of their owners give them; an offset that is
already held is no change, and is accepted above N - 1 too (log 20). -/
def Obligations.FieldRanges : Prop :=
  (∀ r : RepeatParams, r.inRange = true ↔ 2000 ≤ r.n ∧ r.n ≤ 64000 ∧ 1 ≤ r.g ∧ r.g ≤ 102 ∧ r.f ≤ 6 ∧
    40 ≤ r.wMaster ∧ r.wMaster ≤ 8000 ∧ 8 ≤ r.masterWidth ∧ r.masterWidth ≤ 2000 ∧ 8 ≤ r.stationWidth ∧
    r.stationWidth ≤ 2000 ∧ 2 ≤ r.widthTol ∧ r.widthTol ≤ 500 ∧ 1 ≤ r.c ∧ r.c ≤ 8) ∧
  (∀ p : PathTable, p.inRange = true ↔ (∀ k : Fin 8, p.d[k] ≤ 4000000) ∧ 1 ≤ p.de ∧ p.de ≤ 4000000 ∧ 1 ≤ p.ds ∧
    p.ds ≤ 4000000 ∧ 1 ≤ p.dka ∧ p.dka ≤ 4000000 ∧ 1 ≤ p.dkb ∧ p.dkb ≤ 4000000 ∧ p.du ≤ 8000000) ∧
  (∀ p : StationParams, p.inRange = true ↔ 1 ≤ p.d ∧ p.d ≤ 63999 ∧ 40 ≤ p.w ∧ p.w ≤ 4000 ∧ 1 ≤ p.tol ∧
    p.tol ≤ 4000 ∧ 1 ≤ p.alarmCount ∧ p.alarmCount ≤ 32 ∧ p.deadband ≤ 1000 ∧ p.gain ≤ 256 ∧ 1 ≤ p.maxStep ∧
    p.maxStep ≤ 2000 ∧ 1 ≤ p.rate ∧ p.rate ≤ 64) ∧
  (∀ (f : EmbossFields) (n : Nat), (f.resolve n).isSome = true ↔
    f.configured.isSome = true ∧ f.required.isSome = true ∧ f.autoReengage.isSome = true ∧ 1 ≤ f.ratio ∧
    f.ratio ≤ 4 ∧ f.offset ≤ 63999 ∧ f.gain ≤ 256 ∧ f.deadband ≤ 1000 ∧ 1 ≤ f.maxStep ∧ f.maxStep ≤ 2000 ∧
    10 ≤ f.engageWindow ∧ f.engageWindow ≤ 2000 ∧ 20 ≤ f.faultLimit ∧ f.faultLimit ≤ 32000 ∧ 1 ≤ f.tol ∧
    f.tol ≤ f.faultLimit ∧ 100 ≤ f.nipTimeout ∧ f.nipTimeout ≤ 5000 ∧ 1 ≤ f.rate ∧ f.rate ≤ 64 ∧
    (n ≠ 0 → f.faultLimit ≤ n / 2)) ∧
  (∀ (f : ShadeFields) (n held : Nat), (f.resolve n held).isSome = true ↔
    f.keep.isSome = true ∧ f.overwrite.isSome = true ∧ f.scanList ≠ [] ∧ f.scanList.Nodup ∧
    (∀ x ∈ f.scanList, x ≤ 5) ∧ 1 ≤ f.nscan ∧ f.nscan ≤ 6 ∧ f.kreg ≤ 4 ∧ f.offset ≤ 63999 ∧
    (n ≠ 0 → f.offset ≤ n - 1 ∨ f.offset = held) ∧ 1000 ≤ f.whiteTarget ∧ f.whiteTarget ≤ 4000) ∧
  (∀ f : GuardFields, f.resolve.isSome = true ↔ f.all.isSome = true ∧ f.spots.isSome = true ∧ f.slot ≤ 5 ∧
    f.low ≤ f.high ∧ f.high ≤ 4095) ∧
  (∀ f : Factors, f.inRange = true ↔ 8192 ≤ f.gainR ∧ f.gainR ≤ 65535 ∧ 8192 ≤ f.gainG ∧ f.gainG ≤ 65535 ∧
    8192 ≤ f.gainB ∧ f.gainB ≤ 65535 ∧ f.blackR ≤ 1023 ∧ f.blackG ≤ 1023 ∧ f.blackB ≤ 1023) ∧
  (∀ (f : LaneFields) (n held : Nat), (f.resolve n held).isSome = true ↔ f.enabled.isSome = true ∧ f.cutOffset ≤ 63999 ∧
    (n ≠ 0 → f.cutOffset ≤ n - 1 ∨ f.cutOffset = held) ∧ 8000 ≤ f.target ∧ f.target ≤ 4000000 ∧ f.minLength ≤ 4000000 ∧
    f.defectLimit ≤ 65535 ∧ f.knifeLead ≤ 50000 ∧ 1 ≤ f.maxDeferrals ∧ f.maxDeferrals ≤ 8 ∧
    500 ≤ f.turretTimeout ∧ f.turretTimeout ≤ 10000) ∧
  (∀ f : BatchFields, f.resolve.isSome = true ↔ f.mode.isSome = true ∧ 0x41 ≤ f.char1.toNat ∧
    f.char1.toNat ≤ 0x5A ∧ 0x41 ≤ f.char2.toNat ∧ f.char2.toNat ≤ 0x5A ∧ f.tol ≤ 4095 ∧ f.wR ≤ 64 ∧ f.wG ≤ 64 ∧
    f.wB ≤ 64 ∧ 1 ≤ f.rollsPerBatch ∧ f.rollsPerBatch ≤ 9999) ∧
  (∀ f : LabelFields, f.resolve.isSome = true ↔ f.enabledA.isSome = true ∧ f.enabledB.isSome = true ∧
    f.templateA ≤ 15 ∧ f.templateB ≤ 15 ∧ 50 ≤ f.timeout ∧ f.timeout ≤ 5000 ∧ f.timeout % 50 = 0 ∧
    f.retries ≤ 1)

/-- REPEAT SET by its change classes: f and C in every line state; the structural fields in IDLE and THREAD; N
alone also in HOLD, where the checks 3, 5, 6, 8 and 9 must hold with it and every AUTO station's countdown is
loaded. The estimate is seeded to 16 N when N or G changes. An offset that a change of N in HOLD leaves at N or
above is overtaken: the crossing positions of later records take N - 1 in its place, where they otherwise take the
offset (log 15). A refused request writes nothing. PATH SET replaces the whole table in IDLE and THREAD, and
elsewhere where it changes nothing; a change elsewhere is WRONG-STATE and a distance out of range BAD-VALUE. -/
def Obligations.RepeatAndPathAreSet : Prop :=
  ((∀ (tag : Byte) (f : RepeatParams) (s : State) (passes : Option Nat → Nat → Option Nat) (o : Overtaken),
    (∀ before offset, passes before offset =
      if f.n ≤ offset ∧ (s.wtb.line = .hold ∨ before = some offset) then some offset else none) →
    o = (if f.n = s.tku.params.n then s.tku.overtaken
      else ⟨passes s.tku.overtaken.shade s.smu.params.offset,
        passes s.tku.overtaken.knifeA s.rku.laneA.params.cutOffset,
        passes s.tku.overtaken.knifeB s.rku.laneB.params.cutOffset⟩) →
    (f.inRange = false → exec (.repeatSet tag f) s = .next (answer tag 0x10#8 .badValue [] s)) ∧
    (f.inRange = true →
      f = { s.tku.params with f := f.f, c := f.c } →
      exec (.repeatSet tag f) s = .next (answer tag 0x10#8 .ok [] { s with tku := { s.tku with params := f } })) ∧
    (f.inRange = true → f.n ≠ s.tku.params.n ∨ f.g ≠ s.tku.params.g →
      s.wtb.line = .idle ∨ s.wtb.line = .thread →
      exec (.repeatSet tag f) s = .next (answer tag 0x10#8 .ok []
        { s with tku := { s.tku with params := f, estimate := 16 * f.n, overtaken := o } })) ∧
    (f.inRange = true → f.n = s.tku.params.n → f.g = s.tku.params.g → s.wtb.line = .idle ∨ s.wtb.line = .thread →
      exec (.repeatSet tag f) s = .next (answer tag 0x10#8 .ok [] { s with tku := { s.tku with params := f } })) ∧
    (f.inRange = true → f ≠ { s.tku.params with f := f.f, c := f.c } → s.wtb.line = .run ∨ s.wtb.line = .fault →
      exec (.repeatSet tag f) s = .next (answer tag 0x10#8 .wrongState [] s)) ∧
    (f.inRange = true → f ≠ { s.tku.params with n := f.n, f := f.f, c := f.c } → s.wtb.line = .hold →
      exec (.repeatSet tag f) s = .next (answer tag 0x10#8 .wrongState [] s)) ∧
    (f.inRange = true → f = { s.tku.params with n := f.n, f := f.f, c := f.c } → f.n ≠ s.tku.params.n →
      s.wtb.line = .hold →
      (∀ code ∈ [3, 5, 6, 8, 9], checkHolds f s code = false →
        (∀ c ∈ [3, 5, 6, 8, 9], c < code → checkHolds f s c = true) →
        exec (.repeatSet tag f) s = .next (answer tag 0x10#8 .invalidJob (le1 code) s)) ∧
      ((∀ c ∈ [3, 5, 6, 8, 9], checkHolds f s c = true) →
        ∃ r : Rlu, r.channels = s.rlu.channels ∧
          (∀ k : Fin 8, r.stations[k] = { s.rlu.stations[k] with
            settle := if s.rlu.stations[k].mode = .auto then settleValue s.tku.path.d[k] (16 * f.n)
              else s.rlu.stations[k].settle }) ∧
          exec (.repeatSet tag f) s = .next (answer tag 0x10#8 .ok []
            { s with tku := { s.tku with params := f, estimate := 16 * f.n, overtaken := o }, rlu := r })))) ∧
  (∀ (p : Pos) (s : State) (op : Option Nat → Nat → Nat),
    (∀ overtaken offset, op overtaken offset =
      if overtaken = some offset ∧ s.tku.params.n ≤ offset then s.tku.params.n - 1 else offset) →
    s.crossingPosition p .emboss = p + BitVec.ofNat 32 s.tku.path.de ∧
    s.crossingPosition p .shade =
      p + BitVec.ofNat 32 (s.tku.path.ds + op s.tku.overtaken.shade s.smu.params.offset) ∧
    s.crossingPosition p (.knife .a) =
      p + BitVec.ofNat 32 (s.tku.path.dka + op s.tku.overtaken.knifeA s.rku.laneA.params.cutOffset) ∧
    s.crossingPosition p (.knife .b) =
      p + BitVec.ofNat 32 (s.tku.path.dkb + op s.tku.overtaken.knifeB s.rku.laneB.params.cutOffset))) ∧
  (∀ (tag : Byte) (f : PathTable) (s : State),
    (f.inRange = true → s.wtb.line = .idle ∨ s.wtb.line = .thread ∨ f = s.tku.path →
      exec (.pathSet tag f) s = .next (answer tag 0x11#8 .ok [] { s with tku := { s.tku with path := f } })) ∧
    (f.inRange = true → s.wtb.line ≠ .idle → s.wtb.line ≠ .thread → f ≠ s.tku.path →
      exec (.pathSet tag f) s = .next (answer tag 0x11#8 .wrongState [] s)) ∧
    (f.inRange = false → exec (.pathSet tag f) s = .next (answer tag 0x11#8 .badValue [] s)))

/-- TRACK SEEK by the table of R48: the cursor after the request stands in the reply, that of a request that names
nothing or number 0 included. TRACK READ: the records from the cursor onward, as they stand, up to the count or
the newest, the cursor moving to the number after the last (after 4,294,967,295 a free value: log 16); none at the
next repeat number; GONE where the record under the cursor has left. That BAD-VALUE carries the status alone is
the model's reading (log 28). -/
def Obligations.TrackIsSoughtAndRead : Prop :=
  (∀ (tag : Byte) (s : State), ∃ (oldest newest : Nat),
    (s.tku.track = [] → oldest = s.tku.nextRepeat ∧ newest = s.tku.nextRepeat) ∧
    (∀ r, s.tku.track.head? = some r → oldest = r.number) ∧
    (∀ r, s.tku.track.getLast? = some r → newest = r.number) ∧
    exec (.trackSeek tag (some .oldest)) s = .next (answer tag 0x12#8 .ok (le4 oldest)
      { s with tku := { s.tku with readCursor := oldest } }) ∧
    exec (.trackSeek tag (some .newest)) s = .next (answer tag 0x12#8 .ok (le4 newest)
      { s with tku := { s.tku with readCursor := newest } }) ∧
    (∀ n, n ≠ 0 → (n = s.tku.nextRepeat ∨ ∃ r ∈ s.tku.track, r.number = n) →
      exec (.trackSeek tag (some (.number n))) s = .next (answer tag 0x12#8 .ok (le4 n)
        { s with tku := { s.tku with readCursor := n } })) ∧
    (∀ n, n ≠ 0 → n < s.tku.nextRepeat → (∀ r ∈ s.tku.track, r.number ≠ n) →
      exec (.trackSeek tag (some (.number n))) s = .next (answer tag 0x12#8 .gone (le4 oldest)
        { s with tku := { s.tku with readCursor := oldest } })) ∧
    (∀ n, s.tku.nextRepeat < n → (∀ r ∈ s.tku.track, r.number ≠ n) →
      exec (.trackSeek tag (some (.number n))) s =
        .next (answer tag 0x12#8 .notFound (le4 s.tku.readCursor) s)) ∧
    exec (.trackSeek tag none) s = .next (answer tag 0x12#8 .badValue (le4 s.tku.readCursor) s) ∧
    exec (.trackSeek tag (some (.number 0))) s =
      .next (answer tag 0x12#8 .badValue (le4 s.tku.readCursor) s)) ∧
  (∀ (tag : Byte) (count : Nat) (s : State),
    (1 ≤ count → count ≤ 4 → s.tku.readCursor ≠ s.tku.nextRepeat →
      ∀ (before after : List RepeatRecord) (r last : RepeatRecord), s.tku.track = before ++ r :: after →
        r.number = s.tku.readCursor → (∀ x ∈ before, x.number ≠ s.tku.readCursor) →
        ((r :: after).take count).getLast? = some last →
        ∃ c, c = (if last.number < 4294967295 then last.number + 1 else Config.repeatAfterLast.toNat) ∧
          exec (.trackRead tag count) s = .next (answer tag 0x13#8 .ok
            (le1 ((r :: after).take count).length ++ le4 c ++
              ((r :: after).take count).flatMap RepeatRecord.bytes)
            { s with tku := { s.tku with readCursor := c } })) ∧
    (1 ≤ count → count ≤ 4 → s.tku.readCursor = s.tku.nextRepeat →
      exec (.trackRead tag count) s = .next (answer tag 0x13#8 .ok (le1 0 ++ le4 s.tku.readCursor) s)) ∧
    (1 ≤ count → count ≤ 4 → s.tku.readCursor ≠ s.tku.nextRepeat → (∀ r ∈ s.tku.track, r.number ≠ s.tku.readCursor) →
      ∃ oldest, (s.tku.track = [] → oldest = s.tku.nextRepeat) ∧
        (∀ r, s.tku.track.head? = some r → oldest = r.number) ∧
        exec (.trackRead tag count) s = .next (answer tag 0x13#8 .gone (le1 0 ++ le4 oldest)
          { s with tku := { s.tku with readCursor := oldest } })) ∧
    (count = 0 ∨ 4 < count → exec (.trackRead tag count) s = .next (answer tag 0x13#8 .badValue [] s)))

/-- MARK_LEADING_EDGE at a new-web advance of a scanning track after an inactive reading: the mark is half-seen
from WP; else SCN's level is noted alone. A MARK_TRAILING_EDGE at the advance of P itself leaves no reading behind
(log 43), one with no mark half-seen reads inactive, and one outside a scanned advance, or after an inactive
reading, is noted alone. A mark that no rule takes and no window or coast waited for adds 1 to the stray count,
saturating at 65,535, and nothing else. A captured mark's error against the window's target is written into its
record with the in-tolerance bit, and REGISTER joins the defects where it is out of tolerance; the entry of a
record that has left is discarded. In full: a station-shaped mark is taken by the oldest record with an open,
uncaptured window that holds it, there by the nearest target, at equal distance the one listed first, the lower
station: that window is captured and the register entry made, whatever else then follows. A mark of neither shape,
one of the station's shape that no window takes, and in TRACKING one of the master's shape outside the master
window, are strays. Then the windows that hold the mark and have ended close, oldest record and lower station
first (log 36), and then the repeat is coasted where the mark lay in a master window that is over (log 47). A
window that closes is marked closed and no other is changed; where it has no capture MARK-MISSING and the missing
report follow: a MISSING entry and REGISTER in its record, unless the record has left. A record that has left goes
when no window of it is open and it is not the newest of an empty track (log 35). WINDOW_CLOSE closes its window
so at a new-web advance above its end, no half-seen mark inside it; elsewhere, and for a window that is closed or
not there, it changes nothing. -/
def Obligations.MarksMeetWindows : Prop :=
  (∀ s : State,
    (s.wtb.newWeb = true → s.running = true → s.tku.scanner ≠ .off → s.tku.scnPrev = false →
      exec .markLeadingEdge s = .next { s with
        pins := { s.pins with scn := !s.wtb.polarity.scn }
        tku := { s.tku with scnPrev := true, halfSeen := some s.wtb.wp } }) ∧
    (s.wtb.newWeb = false ∨ s.running = false ∨ s.tku.scanner = .off ∨ s.tku.scnPrev = true →
      exec .markLeadingEdge s = .next { s with pins := { s.pins with scn := !s.wtb.polarity.scn } }) ∧
    (s.wtb.newWeb = true → s.running = true → s.tku.scanner ≠ .off → s.tku.scnPrev = true →
      s.tku.halfSeen = none ∨ s.tku.halfSeen = some s.wtb.wp →
      exec .markTrailingEdge s = .next { s with
        pins := { s.pins with scn := s.wtb.polarity.scn }
        tku := { s.tku with scnPrev := false, halfSeen := none } }) ∧
    (s.wtb.newWeb = false ∨ s.running = false ∨ s.tku.scanner = .off ∨ s.tku.scnPrev = false →
      exec .markTrailingEdge s = .next { s with pins := { s.pins with scn := s.wtb.polarity.scn } })) ∧
  (∀ (p : Pos) (s : State), s.wtb.newWeb = true → s.running = true → s.tku.scnPrev = true → s.tku.halfSeen = some p →
    p ≠ s.wtb.wp →
    s.tku.scanner = .tracking ∨ (s.tku.scanner = .acquire ∧
      s.tku.params.widthTol < ((s.wtb.wp - p).toInt - s.tku.params.masterWidth).natAbs) →
    (∀ r ∈ s.tku.departed ++ s.tku.track, ∀ w ∈ r.windows, w.half < (p - posPlus r.origin w.target).toInt.natAbs) →
    (∀ e, s.tku.expected = some e → s.tku.params.wMaster < (p - e).toInt.natAbs) →
    exec .markTrailingEdge s = .next { s with
      pins := { s.pins with scn := s.wtb.polarity.scn }
      tku := { s.tku with scnPrev := false, halfSeen := none, stray := min 65535 (s.tku.stray + 1) } }) ∧
  (∀ (p : Pos) (r : RepeatRecord) (w : Window) (s : State), s.wtb.newWeb = true → s.running = true →
    s.tku.scnPrev = true → s.tku.halfSeen = some p → p ≠ s.wtb.wp →
    s.tku.scanner = .tracking ∨ s.tku.scanner = .acquire →
    s.tku.params.widthTol < ((s.wtb.wp - p).toInt - s.tku.params.masterWidth).natAbs →
    ((s.wtb.wp - p).toInt - s.tku.params.stationWidth).natAbs ≤ s.tku.params.widthTol →
    r ∈ s.tku.departed ++ s.tku.track → w ∈ r.windows → w.closed = false → w.captured = false →
    (p - posPlus r.origin w.target).toInt.natAbs ≤ w.half →
    (∀ x ∈ s.tku.departed ++ s.tku.track, ∀ v ∈ x.windows, (x ≠ r ∨ v ≠ w) →
      v.half < (p - posPlus x.origin v.target).toInt.natAbs) →
    ∃ (t : State) (rd : RegReading), exec .markTrailingEdge s = .next t ∧
      rd = .error ((p - r.origin).toInt - w.target)
        (((p - r.origin).toInt - w.target).natAbs ≤ s.rlu.stations[w.station].params.tol) ∧
      (r ∈ s.tku.track → ∃ q ∈ t.tku.track, q.number = r.number ∧ ⟨w.station, rd⟩ ∈ q.regs ∧
        (s.rlu.stations[w.station].params.tol < ((p - r.origin).toInt - w.target).natAbs →
          q.defects.register = true)) ∧
      t.tku.stray = s.tku.stray ∧
      ((∀ e, s.tku.expected = some e → s.tku.params.wMaster < (p - e).toInt.natAbs) →
        ((∀ q ∈ s.tku.track, q.number ≠ r.number) → t.tku.track.map (·.regs) = s.tku.track.map (·.regs)) ∧
        t.rlu = (registerEntry w.station r.number r.coasted rd s).rlu)) ∧
  (let onWindow : Nat → Fin 8 → (Window → Window) → State → State := fun n k f u =>
    let each : RepeatRecord → RepeatRecord := fun r => if r.number = n then
      { r with windows := r.windows.map (fun w => if w.station = k then f w else w) } else r
    let gone := u.tku.departed.map each
    { u with tku := { u.tku with
      track := u.tku.track.map each
      departed := gone.filter (fun r => r.windows.any (fun w => !w.closed) ||
        (u.tku.track.isEmpty && gone.getLast? == some r)) } }
  let close : Nat → Fin 8 → State → State := fun n k u => match u.tku.openWindow n k with
    | none => u
    | some (r, w) =>
      let shut := onWindow n k (fun w => { w with closed := true }) u
      if w.captured then shut
      else registerEntry k n r.coasted .missing (raise .markMissing (k.val + 1) n shut)
  (∀ (p : Pos) (m s : State), s.wtb.newWeb = true → s.running = true → s.tku.scanner ≠ .off → s.tku.scnPrev = true →
    s.tku.halfSeen = some p → p ≠ s.wtb.wp →
    let master : Prop := ((s.wtb.wp - p).toInt - s.tku.params.masterWidth).natAbs ≤ s.tku.params.widthTol
    let station : Prop := ((s.wtb.wp - p).toInt - s.tku.params.stationWidth).natAbs ≤ s.tku.params.widthTol
    let far : RepeatRecord → Window → Nat := fun r w => (p - posPlus r.origin w.target).toInt.natAbs
    let takes : RepeatRecord → Window → Prop := fun r w => w.closed = false ∧ w.captured = false ∧ far r w ≤ w.half
    let read : State := { s with
      pins := { s.pins with scn := s.wtb.polarity.scn }, tku := { s.tku with scnPrev := false, halfSeen := none } }
    ((¬ master ∧ ¬ station) ∨
      (¬ master ∧ station ∧ ∀ r ∈ s.tku.departed ++ s.tku.track, ∀ w ∈ r.windows, ¬ takes r w) ∨
      (master ∧ s.tku.scanner = .tracking ∧
        ∀ e, s.tku.expected = some e → s.tku.params.wMaster < (p - e).toInt.natAbs)) ∧
      m = { read with tku := { read.tku with stray := min 65535 (s.tku.stray + 1) } } ∨
    (¬ master ∧ station ∧ ∃ older r newer lower w higher,
      s.tku.departed ++ s.tku.track = older ++ r :: newer ∧ (∀ x ∈ older, ∀ v ∈ x.windows, ¬ takes x v) ∧
      r.windows = lower ++ w :: higher ∧ takes r w ∧ (∀ v ∈ lower, takes r v → far r w < far r v) ∧
      (∀ v ∈ higher, takes r v → far r w ≤ far r v) ∧
      m = registerEntry w.station r.number r.coasted (.error ((p - r.origin).toInt - w.target)
          (((p - r.origin).toInt - w.target).natAbs ≤ s.rlu.stations[w.station].params.tol))
        (onWindow r.number w.station (fun w => { w with captured := true }) read)) →
    ∃ t, t = ((m.tku.departed ++ m.tku.track).flatMap (fun r => (r.windows.filter (fun w => !w.closed &&
        decide (far r w ≤ w.half) && decide (0 < (s.wtb.wp - posPlus r.origin (w.target + w.half)).toInt))).map
        (fun w => (r.number, w.station)))).foldl (fun u x => close x.1 x.2 u) m ∧
      (s.tku.scanner = .acquire ∨ (∀ e, s.tku.expected = some e → s.tku.params.wMaster < (p - e).toInt.natAbs ∨
          (s.wtb.wp - e).toInt ≤ s.tku.params.wMaster) →
        exec .markTrailingEdge s = .next t) ∧
      (∀ e, s.tku.scanner = .tracking → s.tku.expected = some e → (p - e).toInt.natAbs ≤ s.tku.params.wMaster →
        s.tku.params.wMaster < (s.wtb.wp - e).toInt →
        exec .markTrailingEdge s = .next (createCoasted e t))) ∧
  (∀ (n : Nat) (k : Fin 8) (r : RepeatRecord) (w : Window) (s : State), s.tku.openWindow n k = some (r, w) →
    (0 < (s.wtb.wp - posPlus r.origin (w.target + w.half)).toInt → s.wtb.newWeb = true → s.running = true →
      (∀ p, s.tku.halfSeen = some p → w.half < (p - posPlus r.origin w.target).toInt.natAbs) →
      exec (.windowClose n (k.val + 1)) s = .next (close n k s) ∧ (close n k s).tku.openWindow n k = none ∧
      (w.captured = false →
        ((∃ x ∈ s.tku.track, x.number = n) → ∃ q ∈ (close n k s).tku.track, q.number = n ∧
          ⟨k, .missing⟩ ∈ q.regs ∧ q.defects.register = true) ∧
        ((∀ x ∈ s.tku.track, x.number ≠ n) → (close n k s).tku.track = s.tku.track))) ∧
    ((s.wtb.wp - posPlus r.origin (w.target + w.half)).toInt ≤ 0 ∨ s.wtb.newWeb = false ∨ s.running = false ∨
        (∃ p, s.tku.halfSeen = some p ∧ (p - posPlus r.origin w.target).toInt.natAbs ≤ w.half) →
      exec (.windowClose n (k.val + 1)) s = .next s)) ∧
  (∀ (n : Nat) (k : Fin 8) (s : State), s.tku.openWindow n k = none →
    exec (.windowClose n (k.val + 1)) s = .next s) ∧
  (∀ (n station : Nat) (s : State), station = 0 ∨ 8 < station → exec (.windowClose n station) s = .next s))

/-- The trailing edge of a master-shaped mark, in ACQUIRE or inside the master window in TRACKING, creates the
next record at the mark's position on a track with room: numbered by the counter, ACQUIRED in ACQUIRE, with its
crossing positions fixed, its length absent, and a window for each MONITOR or AUTO station at floor((dk * estimate
+ 8 N) / 16 N) by the new estimate; the scanner tracks with the coast count 0. In TRACKING the record before,
neither record COASTED, gets its length, flagged REJECTED beyond Lim and else run through the estimator; where it
has left the track already, its length still runs the estimator and the write is discarded (log 35). The pending
splices below the new origin leave the list, and one within the span marks the record before SPLICE. On a full
track TRACK-OVERFLOW latches instead, and the line enters FAULT with the track as it stood. The estimator: with f
0 it takes 16 m; with f of 1 or more it adds floor((d + 2^(f-1)) / 2^f) for d = 16 m less the estimate, so the new
estimate lies between the old one and 16 m. -/
def Obligations.MasterMarkCreatesRecord : Prop :=
  (∀ (p : Pos) (s : State), s.wtb.newWeb = true → s.running = true → s.tku.scnPrev = true → s.tku.halfSeen = some p →
    p ≠ s.wtb.wp →
    ((s.wtb.wp - p).toInt - s.tku.params.masterWidth).natAbs ≤ s.tku.params.widthTol →
    (s.tku.scanner = .acquire ∨ (s.tku.scanner = .tracking ∧ ∃ e, s.tku.expected = some e ∧
      (p - e).toInt.natAbs ≤ s.tku.params.wMaster)) →
    (512 ≤ s.tku.track.length → s.wtb.latched.trackOverflow = false →
      ∃ t, exec .markTrailingEdge s = .next t ∧
        t.wtb = { s.wtb with
          latched := { s.wtb.latched with trackOverflow := true }, line := .fault, resumeArmed := false } ∧
        t.tku = { s.tku with scanner := .off, scnPrev := false, halfSeen := none, coastCount := 0 }) ∧
    (s.tku.track.length < 512 → (∀ r ∈ s.tku.departed ++ s.tku.track, r.number < s.tku.nextRepeat) →
    ∃ (t : State) (r : RepeatRecord), exec .markTrailingEdge s = .next t ∧ t.tku.track.getLast? = some r ∧
      t.tku.track.map (·.number) = s.tku.track.map (·.number) ++ [s.tku.nextRepeat] ∧
      r.number = s.tku.nextRepeat ∧ r.origin = p ∧ r.coasted = false ∧
      r.acquired = (s.tku.scanner == .acquire) ∧ r.length = none ∧
      r.at_ = ⟨s.crossingPosition p .emboss, s.crossingPosition p .shade, s.crossingPosition p (.knife .a),
        s.crossingPosition p (.knife .b)⟩ ∧
      r.windows.map (fun w => (w.station, w.target, w.half, w.captured)) = ((List.finRange 8).filter (fun k =>
        s.rlu.stations[k].mode = .monitor ∨ s.rlu.stations[k].mode = .auto)).map (fun k =>
          (k, (s.rlu.stations[k].params.d * t.tku.estimate + 8 * s.tku.params.n) / (16 * s.tku.params.n),
            s.rlu.stations[k].params.w, false)) ∧
      t.tku.nextRepeat = nextRepeatAfter s.tku.nextRepeat ∧ t.tku.scanner = .tracking ∧ t.tku.coastCount = 0 ∧
      t.tku.halfSeen = none ∧ t.tku.params = s.tku.params ∧ t.tku.path = s.tku.path ∧
      t.wtb.wp = s.wtb.wp ∧ t.lbp = s.lbp ∧ t.btu.batches = s.btu.batches ∧ t.rku.history = s.rku.history ∧
      (∀ old, (s.tku.departed ++ s.tku.track).getLast? = some old →
        t.tku.splices = s.tku.splices.filter (fun x => 0 ≤ (x - p).toInt) ∧
        (old ∈ s.tku.track → ∃ q ∈ t.tku.track, q.number = old.number ∧
          (q.splice = true ↔ old.splice = true ∨ ∃ x ∈ s.tku.splices, (x - p).toInt < 0 ∧ 0 ≤ (x - old.origin).toInt) ∧
          (q.defects.splice = true ↔ old.defects.splice = true ∨
            ∃ x ∈ s.tku.splices, (x - p).toInt < 0 ∧ 0 ≤ (x - old.origin).toInt))) ∧
      (s.tku.departed ++ s.tku.track = [] → t.tku.splices = s.tku.splices) ∧
      (∀ old, s.tku.scanner = .tracking → (s.tku.departed ++ s.tku.track).getLast? = some old → old.coasted = false →
        ((p - old.origin).toInt - s.tku.params.n).natAbs ≤ s.tku.params.n * s.tku.params.g / 1024 →
        t.tku.estimate = estimatorRun s.tku.estimate (p - old.origin).toInt s.tku.params.f ∧
        (old ∈ s.tku.track → ∃ q ∈ t.tku.track, q.number = old.number ∧ q.length = some ⟨(p - old.origin).toInt, false⟩)) ∧
      (∀ old, s.tku.scanner = .tracking → (s.tku.departed ++ s.tku.track).getLast? = some old → old.coasted = false →
        s.tku.params.n * s.tku.params.g / 1024 < ((p - old.origin).toInt - s.tku.params.n).natAbs →
        t.tku.estimate = s.tku.estimate ∧
        (old ∈ s.tku.track → ∃ q ∈ t.tku.track, q.number = old.number ∧
          q.length = some ⟨(p - old.origin).toInt, true⟩)))) ∧
  (∀ (e m : Int) (f : Nat),
    estimatorRun e m 0 = 16 * m ∧
    (1 ≤ f → estimatorRun e m f = e + (16 * m - e + 2 ^ (f - 1)) / 2 ^ f) ∧
    (e ≤ 16 * m → e ≤ estimatorRun e m f ∧ estimatorRun e m f ≤ 16 * m) ∧
    (16 * m ≤ e → 16 * m ≤ estimatorRun e m f ∧ estimatorRun e m f ≤ e))

/-- MASTER_COAST at a new-web advance above the master window, no half-seen mark inside it: the next record is
created COASTED at the expected origin, with a window for each MONITOR or AUTO station by the estimate as it
stands. The coast count rises by 1, and MASTER-COAST carries it and the new repeat number; at the coast limit
MASTER-LOST follows with 0 and that number, every AUTO station drops to MONITOR, the scanner enters ACQUIRE and
the count is 0. The pending splices below the new origin leave the list, and one within the span marks the record
before SPLICE. On a full track TRACK-OVERFLOW latches instead, and the line enters FAULT with the track as it
stood. That the expected origin stands also where the newest record has left the track is read from the rules (log
35). -/
def Obligations.MissedMasterIsCoasted : Prop :=
  ∀ (e : Pos) (s : State), s.wtb.newWeb = true → s.running = true → s.tku.scanner = .tracking →
    s.tku.expected = some e → (s.tku.params.wMaster : Int) < (s.wtb.wp - e).toInt →
    (∀ p, s.tku.halfSeen = some p → s.tku.params.wMaster < (p - e).toInt.natAbs) →
    exec .masterCoast s = .next (createCoasted e s) ∧
    (s.tku.track.length < 512 → ∃ coasted : State,
      coasted = raise .masterCoast (s.tku.coastCount + 1) s.tku.nextRepeat { addRecord e .coasted s with
        tku := { (addRecord e .coasted s).tku with coastCount := s.tku.coastCount + 1 } } ∧
      (s.tku.coastCount + 1 < s.tku.params.c → exec .masterCoast s = .next coasted) ∧
      (s.tku.params.c ≤ s.tku.coastCount + 1 → ∃ lost : State,
        lost = raise .masterLost 0 s.tku.nextRepeat coasted ∧
        exec .masterCoast s = .next { lost with
          tku := { lost.tku with scanner := .acquire, coastCount := 0 }
          rlu := { lost.rlu with stations := lost.rlu.stations.map (fun x =>
            { x with mode := if x.mode = .auto then .monitor else x.mode }) } })) ∧
    (512 ≤ s.tku.track.length → s.wtb.latched.trackOverflow = false →
      ∃ t, exec .masterCoast s = .next t ∧
        t.wtb = { s.wtb with
          latched := { s.wtb.latched with trackOverflow := true }, line := .fault, resumeArmed := false } ∧
        t.tku = { s.tku with scanner := .off, halfSeen := none, coastCount := 0 }) ∧
    (s.tku.track.length < 512 →
    ∃ (t : State) (r : RepeatRecord), exec .masterCoast s = .next t ∧ t.tku.track.getLast? = some r ∧
      r.number = s.tku.nextRepeat ∧ r.origin = e ∧ r.coasted = true ∧ r.acquired = false ∧
      r.windows = ((List.finRange 8).filter (fun k =>
        s.rlu.stations[k].mode = .monitor ∨ s.rlu.stations[k].mode = .auto)).map (fun k =>
          ⟨k, (s.rlu.stations[k].params.d * s.tku.estimate + 8 * s.tku.params.n) / (16 * s.tku.params.n),
            s.rlu.stations[k].params.w, false, false⟩) ∧
      t.tku.track.map (·.number) = s.tku.track.map (·.number) ++ [s.tku.nextRepeat] ∧
      t.tku.nextRepeat = nextRepeatAfter s.tku.nextRepeat ∧ t.tku.estimate = s.tku.estimate ∧
      (∀ old, (s.tku.departed ++ s.tku.track).getLast? = some old →
        t.tku.splices = s.tku.splices.filter (fun x => 0 ≤ (x - e).toInt) ∧
        (old ∈ s.tku.track → ∃ q ∈ t.tku.track, q.number = old.number ∧
          (q.splice = true ↔ old.splice = true ∨ ∃ x ∈ s.tku.splices, (x - e).toInt < 0 ∧ 0 ≤ (x - old.origin).toInt) ∧
          (q.defects.splice = true ↔ old.defects.splice = true ∨
            ∃ x ∈ s.tku.splices, (x - e).toInt < 0 ∧ 0 ≤ (x - old.origin).toInt))) ∧
      (s.tku.departed ++ s.tku.track = [] → t.tku.splices = s.tku.splices) ∧
      (s.tku.coastCount + 1 < s.tku.params.c →
        t.tku.coastCount = s.tku.coastCount + 1 ∧ t.tku.scanner = .tracking ∧ t.rlu = s.rlu) ∧
      (s.tku.params.c ≤ s.tku.coastCount + 1 →
        t.tku.coastCount = 0 ∧ t.tku.scanner = .acquire ∧ ∀ k : Fin 8, t.rlu.stations[k].mode ≠ .auto))

/-- SPL_EDGE in RUN or HOLD: the splice's position at the scanner joins the pending list of fewer than four, and
else is not stored; SPLICE-SEEN says which. In the other line states, or at a change to inactive, nothing happens.
At a span close the pending splices below the next origin leave the list; one at or above the closing record's
origin marks it SPLICE, flag and defect together, where it is still on the track; one below it raises SPLICE-SEEN
with parameter 1 = 2, lost, and parameter 2 = 0; each as the list orders them. The others stay for a later span.
Every creation of a record closes the span of the newest record so, also where that one has left the track (log
35), after the new record has joined and the length has been written, and before the new record's windows and
cursors: at a master mark's trailing edge, which then closes the windows that waited for it (log 47), and at
MASTER_COAST, which then raises MASTER-COAST with the coast count and the repeat number, and at the coast limit
after it MASTER-LOST with 0 and that number. SPL_EDGE carries the level changed to (log 4). -/
def Obligations.SplicesJoinAndSettle : Prop :=
  (∀ (bit : Bool) (s : State),
    (s.wtb.line = .run ∨ s.wtb.line = .hold → bit ≠ s.wtb.polarity.spl →
      (s.tku.splices.length < 4 → exec (.splEdge bit) s = .next (raise .spliceSeen 0 0
        { s with tku := { s.tku with
          splices := s.tku.splices ++ [s.wtb.wp + BitVec.ofNat 32 s.tku.path.du] } })) ∧
      (4 ≤ s.tku.splices.length → exec (.splEdge bit) s = .next (raise .spliceSeen 1 0 s))) ∧
    ((s.wtb.line ≠ .run ∧ s.wtb.line ≠ .hold) ∨ bit = s.wtb.polarity.spl → exec (.splEdge bit) s = .next s)) ∧
  (∀ (old : RepeatRecord) (origin : Pos) (s : State),
    (closeSplices old origin s).tku.splices = s.tku.splices.filter (fun q => 0 ≤ (q - origin).toInt) ∧
    (∀ r ∈ s.tku.track, ∃ q ∈ (closeSplices old origin s).tku.track, q.number = r.number ∧
      (q.splice = true ↔ r.splice = true ∨ (r.number = old.number ∧ ∃ x ∈ s.tku.splices,
        (x - origin).toInt < 0 ∧ 0 ≤ (x - old.origin).toInt)) ∧
      (q.defects.splice = true ↔ r.defects.splice = true ∨ (r.number = old.number ∧ ∃ x ∈ s.tku.splices,
        (x - origin).toInt < 0 ∧ 0 ≤ (x - old.origin).toInt)) ∧
      q.length = r.length ∧ q.regs = r.regs ∧ q.shade = r.shade) ∧
    (∀ mark : State → State, (∀ u, mark u = { u with tku := { u.tku with track := u.tku.track.map (fun r =>
        if r.number = old.number then { r with splice := true, defects := { r.defects with splice := true } }
        else r) } }) →
      closeSplices old origin s = (s.tku.splices.filter (fun q => (q - origin).toInt < 0)).foldl
        (fun u q => if 0 ≤ (q - old.origin).toInt then mark u else raise .spliceSeen 2 0 u)
        { s with tku := { s.tku with splices := s.tku.splices.filter (fun q => 0 ≤ (q - origin).toInt) } })) ∧
  ((∀ (origin : Pos) (birth : Birth) (s : State), ∃ u v : State,
    u = (if birth = .acquired then closeWindows (fun _ _ => true) s else s) ∧
    (∀ old, (u.tku.departed ++ u.tku.track).getLast? = some old →
      v = closeSplices old origin (closeLength old origin birth (joinTrack origin birth u))) ∧
    (u.tku.departed ++ u.tku.track = [] → v = joinTrack origin birth u) ∧
    addRecord origin birth s = { v with tku := Tku.forget { v.tku with
      track := v.tku.track.map (fun r => if r.number = s.tku.nextRepeat then { r with windows := v.newWindows } else r)
      cursors := v.cursorsWith s.tku.nextRepeat } }) ∧
  (∀ (p : Pos) (s : State), s.wtb.newWeb = true → s.running = true → s.tku.scnPrev = true → s.tku.halfSeen = some p →
    p ≠ s.wtb.wp → s.tku.track.length < 512 →
    ((s.wtb.wp - p).toInt - s.tku.params.masterWidth).natAbs ≤ s.tku.params.widthTol →
    let read : State := { s with
      pins := { s.pins with scn := s.wtb.polarity.scn }, tku := { s.tku with scnPrev := false, halfSeen := none } }
    let created : Birth → State := fun b =>
      { addRecord p b read with tku := { (addRecord p b read).tku with scanner := .tracking, coastCount := 0 } }
    (s.tku.scanner = .acquire → exec .markTrailingEdge s = .next (closeHeldWindows p (created .acquired))) ∧
    (∀ e, s.tku.scanner = .tracking → s.tku.expected = some e → (p - e).toInt.natAbs ≤ s.tku.params.wMaster →
      exec .markTrailingEdge s = .next (closeHeldWindows p (created .seen)))) ∧
  (∀ (e : Pos) (s : State), s.wtb.newWeb = true → s.running = true → s.tku.scanner = .tracking →
    s.tku.expected = some e → (s.tku.params.wMaster : Int) < (s.wtb.wp - e).toInt →
    (∀ p, s.tku.halfSeen = some p → s.tku.params.wMaster < (p - e).toInt.natAbs) → s.tku.track.length < 512 →
    let added := addRecord e .coasted s
    let coasted := raise .masterCoast (s.tku.coastCount + 1) s.tku.nextRepeat
      { added with tku := { added.tku with coastCount := s.tku.coastCount + 1 } }
    exec .masterCoast s = .next
      (if s.tku.coastCount + 1 < s.tku.params.c then coasted
      else
        let lost := raise .masterLost 0 s.tku.nextRepeat coasted
        { lost with
          tku := { lost.tku with scanner := .acquire, coastCount := 0 }
          rlu := { lost.rlu with stations := lost.rlu.stations.map (fun x =>
            { x with mode := if x.mode = .auto then .monitor else x.mode }) } })))

/-- After POINT_CROSSING of an enabled point at a new-web advance no record under its cursor has been reached:
every crossing due is made, one after another. One crossing hands the record to the point's consumer, moves the
cursor to the next record, and at a knife lets the record go where it is past the other knife too. Without an
advance, or at a point not enabled, nothing crosses. What a knife crossing of a record ends in the measurement
unit, before the lane reads the record: a pending spot of the record ends MISSED, a spot of it in progress
ABANDONED, and its scan is cut short, a measurement of it leaving the bus, with SCAN-OVERRUN where the counts say
that it left slots, the abandoned measurement counted (logs 13 and 40). A set staged behind a measurement that is
so ended becomes active, and the held SPOT STOP replies follow. Stated where one of them is there to end. A record
leaves the track at its last knife crossing: when it has crossed the other knife, or that knife is not enabled;
else it stays. The crossing moves the knife's cursor to the next record, and a record that leaves takes every
other cursor that stands on it there too. What the scanner still reads of it stays: the expected origin where it
was the newest, and its windows not yet closed, which close as before (log 35). That crossings are commands of
their own is the model's choice (log 1), and so is the order of the knife's work (log 31). -/
def Obligations.CrossingsRunDryAndRetire : Prop :=
  ((∀ (p : Point) (n : Nat) (winder : Bool) (s : State),
    (s.wtb.newWeb = true → s.running = true → s.pointEnabled p = true → s.crossingDue p = some n →
      ((crossOne p n winder s).crossingDue p = none →
        exec (.pointCrossing p winder) s = .next (crossOne p n winder s)) ∧
      (s.tku.track.Pairwise (fun a b => a.number < b.number) → (crossOne p n winder s).running = true →
        exec (.pointCrossing p winder) s = exec (.pointCrossing p winder) (crossOne p n winder s))) ∧
    ∃ handed moved : State, handed = handOff p n winder s ∧
      (let next := (handed.tku.track.find? (fun r => n < r.number)).map (·.number)
      moved = { handed with tku := { handed.tku with cursors := handed.tku.cursors.put p next } } ∧
      (p = .emboss ∨ p = .shade → crossOne p n winder s = moved) ∧
      (∀ l, p = .knife l → moved.pastKnife (otherLane l) n = false → crossOne p n winder s = moved) ∧
      (∀ l, p = .knife l → moved.pastKnife (otherLane l) n = true → ∃ track gone : List RepeatRecord,
        track = handed.tku.track.filter (fun r => r.number != n) ∧
        gone = handed.tku.departed ++ handed.tku.track.filter (fun r => r.number == n) ∧
        crossOne p n winder s = { moved with tku := { moved.tku with
          track := track
          departed := gone.filter (fun r => r.windows.any (fun w => !w.closed) ||
            (track.isEmpty && gone.getLast? == some r))
          cursors := moved.tku.cursors.leave n next } }))) ∧
  (∀ (p : Point) (winder : Bool) (s : State),
    (s.wtb.newWeb = true → s.running = true → s.pointEnabled p = true →
      s.tku.track.Pairwise (fun a b => a.number < b.number) →
      ∃ t, exec (.pointCrossing p winder) s = .next t ∧
        ∀ n r, t.tku.cursors.get p = some n → t.tku.record? n = some r → (t.wtb.wp - r.at_.get p).toInt < 0) ∧
    (s.wtb.newWeb = false ∨ s.running = false ∨ s.pointEnabled p = false →
      exec (.pointCrossing p winder) s = .next s))) ∧
  (∀ (l : Lane) (n : Nat) (winder : Bool) (s : State),
    let applied : Fin 6 → State → State := fun i u => match u.smu.staged[i] with
      | some f => { u with smu := { u.smu with active := u.smu.active.set i f, staged := u.smu.staged.set i none } }
      | none => u
    let serves : SpotContext → Prop := fun c => c.target = .number n ∨ (c.target = .next ∧ c.bound = some n)
    let toLane : State → State := fun u => match u.tku.track.find? (fun r => r.number == n) with
      | some r => knifeCrossing l r winder u
      | none => u
    let noSpots : Prop := (∀ c ∈ s.smu.contexts, ¬ serves c) ∧ ∀ c, s.smu.spotInProgress = some c → ¬ serves c
    let noScan : Prop := (∀ c, s.smu.scan = some c → c.record ≠ n) ∧ (∀ c, s.smu.overrun = some c → c.record ≠ n) ∧
      ∀ b pos, s.smu.bus = some b → b.user ≠ .scan n pos
    (noSpots → noScan → handOff (.knife l) n winder s = toLane s) ∧
    (∀ before c after, noScan → s.smu.contexts = before ++ c :: after → serves c →
      (∀ x ∈ before ++ after, ¬ serves x) → (∀ x, s.smu.spotInProgress = some x → ¬ serves x) →
      handOff (.knife l) n winder s = toLane (offerResult ⟨c.tag, c.source, c.slot, some n, .missed, none, none⟩
        { s with smu := { s.smu with
          contexts := before ++ after
          standing := if before ++ after = [] ∧ s.smu.params.keep = true then some c else s.smu.standing } })) ∧
    (∀ c, noScan → (∀ x ∈ s.smu.contexts, ¬ serves x) → s.smu.spotInProgress = some c → serves c →
      ∃ w, w = applied c.slot (offerResult ⟨c.tag, c.source, c.slot, some n, .abandoned, none, none⟩
          { s with smu := { s.smu with bus := none } }) ∧
        handOff (.knife l) n winder s = toLane (s.smu.heldStops.foldl
          (fun u h => pushReply ⟨.spotStop, h.tag, 0x2D#8, .ok, le1 h.removed, false⟩ u)
          { w with smu := { w.smu with heldStops := [] } })) ∧
    (∀ c slot, noSpots → s.smu.scan = some c → c.record = n → (∀ o, s.smu.overrun = some o → o.record ≠ n) →
      s.smu.params.scanList[s.smu.pointer - 1]? = some slot →
      let cut : Nat → State → State := fun done u =>
        if done < c.nscan ∧ c.visited < s.smu.params.scanList.length then raise .scanOverrun slot.val n u else u
      ((∀ b pos, s.smu.bus = some b → b.user ≠ .scan n pos) →
        handOff (.knife l) n winder s = toLane (cut c.completed { s with smu := { s.smu with scan := none } })) ∧
      (∀ b pos, s.smu.bus = some b → b.user = .scan n pos →
        handOff (.knife l) n winder s = toLane (cut (c.completed + 1)
          (applied b.slot { s with smu := { s.smu with scan := none, bus := none } }))))) ∧
  (∀ (l : Lane) (n : Nat) (winder : Bool) (s : State) (t : State), t = crossOne (.knife l) n winder s →
    ((∀ m, s.tku.cursors.get (.knife (otherLane l)) = some m → n < m) ∨ (s.lane (otherLane l)).params.enabled = false →
      t.tku.track.map (·.number) = (s.tku.track.map (·.number)).filter (fun m => m != n)) ∧
    (∀ m, (s.lane (otherLane l)).params.enabled = true → s.tku.cursors.get (.knife (otherLane l)) = some m → m ≤ n →
      t.tku.track.map (·.number) = s.tku.track.map (·.number)) ∧
    t.tku.cursors.get (.knife l) = (s.tku.track.find? (fun r => n < r.number)).map (·.number) ∧
    (∀ p : Point, p ≠ .knife l →
      ((∀ r ∈ t.tku.track, r.number ≠ n) → s.tku.cursors.get p = some n →
        (∃ r ∈ s.tku.track, r.number = n) →
        t.tku.cursors.get p = (s.tku.track.find? (fun r => n < r.number)).map (·.number)) ∧
      (s.tku.cursors.get p ≠ some n ∨ (∃ r ∈ t.tku.track, r.number = n) →
        t.tku.cursors.get p = s.tku.cursors.get p)) ∧
    (s.tku.track.Pairwise (fun a b => a.number < b.number) → (∀ r ∈ s.tku.track, n ≤ r.number) →
      t.tku.expected = s.tku.expected) ∧
    (∀ r ∈ s.tku.track, r.number = n → (∃ w ∈ r.windows, w.closed = false) →
      ∃ q ∈ t.tku.departed ++ t.tku.track, q.number = n ∧ q.origin = r.origin ∧ q.coasted = r.coasted ∧
        q.windows = r.windows))

/-- A record that crosses the emboss point is stamped: EMBOSSED with the last phase while the unit is ENGAGED with
the nip confirmed, EMBOSS joining its defects beyond the tolerance; else UNEMBOSSED, EMBOSS joining where emboss
is required. The cursor moves on and nothing but the track changes. What a crossing does at the shade point with
the heads not parked: pending NEXT contexts without a record are bound to it and become due with those that name
it, and a scan of the record starts with the values of Nscan and kreg as they stand (log 41). A scan still in
flight is overrun, and no SCAN-OVERRUN comes for it here while its measurement runs (log 12): with its measurement
running it is left to complete, and else it ends here, with SCAN-OVERRUN where the counts say that it left slots
(log 40). Parked, a crossing only binds. That spots are bound before the scan starts is the model's choice (log
31). -/
def Obligations.EmbossAndShadePoints : Prop :=
  (∀ (n : Nat) (winder : Bool) (s : State), s.wtb.newWeb = true → s.running = true →
    s.epu.params.configured = true → s.crossingDue .emboss = some n →
    ∃ (t : State) (q : RepeatRecord), exec (.pointCrossing .emboss winder) s = .next t ∧
      t = { s with tku := { s.tku with track := t.tku.track, cursors := t.tku.cursors } } ∧
      t.tku.track.map (·.number) = s.tku.track.map (·.number) ∧ t.tku.cursors.shade = s.tku.cursors.shade ∧
      t.tku.cursors.knifeA = s.tku.cursors.knifeA ∧ t.tku.cursors.knifeB = s.tku.cursors.knifeB ∧
      q ∈ t.tku.track ∧ q.number = n ∧
      (∀ ph, s.epu.state = .engaged → s.epu.nipConfirmed = true → s.epu.lastPhase = some ph →
        q.emboss = some (.embossed ph.phase) ∧ (s.epu.params.tol < ph.phase.natAbs → q.defects.emboss = true)) ∧
      (s.epu.state ≠ .engaged ∨ s.epu.nipConfirmed = false →
        q.emboss = some .unembossed ∧ (s.epu.params.required = true → q.defects.emboss = true))) ∧
  (∀ (n : Nat) (winder : Bool) (s : State), ∃ cs : List SpotContext,
    cs = s.smu.contexts.map (fun c => match c.target with
      | .next => if c.bound = none then { c with bound := some n, due := true } else c
      | .number m => if m = n then { c with due := true } else c
      | .immediate => c) ∧
    let started : State → State := fun u => { u with
      smu := { u.smu with scan := some ⟨n, s.smu.params.nscan, s.smu.params.kreg, 0, 0⟩ }
      tku := { s.tku with track := s.tku.track.map (fun r =>
        if r.number = n then { r with shade := some [] } else r) } }
    let bound : State := { s with smu := { s.smu with contexts := cs } }
    (s.parked = true → handOff .shade n winder s = bound) ∧
    (s.parked = false → s.smu.scan = none → handOff .shade n winder s = started bound) ∧
    (∀ c b pos, s.parked = false → s.smu.scan = some c → s.smu.bus = some b → b.user = .scan c.record pos →
      handOff .shade n winder s = started { bound with smu := { bound.smu with overrun := some c } }) ∧
    (∀ c, s.parked = false → s.smu.scan = some c →
      (∀ b pos, s.smu.bus = some b → b.user ≠ .scan c.record pos) →
      (c.nscan ≤ c.completed ∨ s.smu.params.scanList.length ≤ c.visited →
        handOff .shade n winder s = started bound) ∧
      (∀ slot, c.completed < c.nscan → c.visited < s.smu.params.scanList.length →
        s.smu.params.scanList[s.smu.pointer - 1]? = some slot →
        handOff .shade n winder s = started (raise .scanOverrun slot.val c.record
          { bound with smu := { bound.smu with scan := none } }))))

/-! ### Stations and trims -/

/-- STATION SET and STATION MODE. A station's dk and Wk and the modes OFF and MASTER change in IDLE and THREAD
alone, the rest in every line state; entry to AUTO loads the settle countdown, min(255, ceil(16 * Dk / estimate) +
1). A station other than 1 to 8 or a value out of range is BAD-VALUE. -/
def Obligations.StationsAreSet : Prop :=
  (∀ (tag : Byte) (k : Fin 8) (f : StationParams) (s : State), f.inRange = true →
    ((f.d = s.rlu.stations[k].params.d ∧ f.w = s.rlu.stations[k].params.w) ∨ s.wtb.line = .idle ∨
        s.wtb.line = .thread →
      exec (.stationSet tag (k.val + 1) f) s = .next (answer tag 0x18#8 .ok [] { s with
        rlu := { s.rlu with stations := s.rlu.stations.set k { s.rlu.stations[k] with params := f } } })) ∧
    (f.d ≠ s.rlu.stations[k].params.d ∨ f.w ≠ s.rlu.stations[k].params.w → s.wtb.line ≠ .idle →
        s.wtb.line ≠ .thread →
      exec (.stationSet tag (k.val + 1) f) s = .next (answer tag 0x18#8 .wrongState [] s))) ∧
  (∀ (tag : Byte) (n : Nat) (f : StationParams) (s : State), n = 0 ∨ 8 < n ∨ f.inRange = false →
    exec (.stationSet tag n f) s = .next (answer tag 0x18#8 .badValue [] s)) ∧
  (∀ (tag : Byte) (k : Fin 8) (m : StationMode) (s : State),
    (m = s.rlu.stations[k].mode →
      exec (.stationMode tag (k.val + 1) (some m)) s = .next (answer tag 0x19#8 .ok (le1 m.code) s)) ∧
    (m ≠ s.rlu.stations[k].mode →
      ((m = .monitor ∨ m = .auto) ∧ (s.rlu.stations[k].mode = .monitor ∨ s.rlu.stations[k].mode = .auto)) ∨
        s.wtb.line = .idle ∨ s.wtb.line = .thread →
      exec (.stationMode tag (k.val + 1) (some m)) s = .next (answer tag 0x19#8 .ok (le1 m.code) { s with
        rlu := { s.rlu with stations := s.rlu.stations.set k { s.rlu.stations[k] with
          mode := m
          settle := if m = .auto then settleValue s.tku.path.d[k] s.tku.estimate
            else s.rlu.stations[k].settle } } })) ∧
    (m ≠ s.rlu.stations[k].mode →
      m = .off ∨ m = .master ∨ s.rlu.stations[k].mode = .off ∨ s.rlu.stations[k].mode = .master →
      s.wtb.line ≠ .idle → s.wtb.line ≠ .thread →
      exec (.stationMode tag (k.val + 1) (some m)) s = .next (answer tag 0x19#8 .wrongState [] s))) ∧
  (∀ (tag : Byte) (n : Nat) (m : Coded StationMode) (s : State), n = 0 ∨ 8 < n ∨ m = none →
    exec (.stationMode tag n m) s = .next (answer tag 0x19#8 .badValue [] s)) ∧
  (∀ d : Nat, settleValue d 0 = 255) ∧
  (∀ (d : Nat) (e : Int), 0 < e → (settleValue d e : Int) = min 255 ((16 * (d : Int) + e - 1) / e + 1))

/-- An addition to an owed trim saturates at 4,095 either way with TRIM-SATURATED. TRIM makes one in THREAD, RUN
and HOLD where no loop owns the channel and replies with the owed trim after it. TRIM_PULSE in THREAD and RUN sets
DIR to the sign of the owed trim, takes it one toward 0 and moves the total by the pulse's direction; elsewhere,
or with nothing owed, it does nothing. That TRIM's reply follows TRIM-SATURATED is the model's choice (log 9). -/
def Obligations.TrimsAddAndPulse : Prop :=
  (∀ (c : Fin 9) (a : Int) (n : Nat) (s : State),
    (-4095 ≤ s.rlu.channels[c].owed + a → s.rlu.channels[c].owed + a ≤ 4095 →
      addOwed c a n s = { s with rlu := { s.rlu with
        channels := s.rlu.channels.set c { s.rlu.channels[c] with owed := s.rlu.channels[c].owed + a } } }) ∧
    (4095 < s.rlu.channels[c].owed + a →
      addOwed c a n s = raise .trimSaturated (c.val + 1) n { s with rlu := { s.rlu with
        channels := s.rlu.channels.set c { s.rlu.channels[c] with owed := 4095 } } }) ∧
    (s.rlu.channels[c].owed + a < -4095 →
      addOwed c a n s = raise .trimSaturated (c.val + 1) n { s with rlu := { s.rlu with
        channels := s.rlu.channels.set c { s.rlu.channels[c] with owed := -4095 } } })) ∧
  (∀ (tag : Byte) (c : Fin 9) (n : Int) (s : State), -4095 ≤ n → n ≤ 4095 →
    (s.wtb.line ≠ .idle → s.wtb.line ≠ .fault → (∀ k : Fin 8, k.val = c.val → s.rlu.stations[k].mode ≠ .auto) →
      (c.val = 8 → s.epu.state ≠ .syncing ∧ s.epu.state ≠ .engaged) →
      exec (.trim tag (c.val + 1) n) s = .next (answer tag 0x1A#8 .ok
        (sle2 (max (-4095) (min 4095 (s.rlu.channels[c].owed + n)))) (addOwed c n 0 s))) ∧
    (s.wtb.line = .idle ∨ s.wtb.line = .fault ∨ (∃ k : Fin 8, k.val = c.val ∧ s.rlu.stations[k].mode = .auto) ∨
        (c.val = 8 ∧ (s.epu.state = .syncing ∨ s.epu.state = .engaged)) →
      exec (.trim tag (c.val + 1) n) s = .next (answer tag 0x1A#8 .wrongState [] s))) ∧
  (∀ (tag : Byte) (c : Nat) (n : Int) (s : State), c = 0 ∨ 9 < c ∨ n < -4095 ∨ 4095 < n →
    exec (.trim tag c n) s = .next (answer tag 0x1A#8 .badValue [] s)) ∧
  (∀ (c : Fin 9) (s : State),
    (s.wtb.line = .thread ∨ s.wtb.line = .run → 0 < s.rlu.channels[c].owed →
      exec (.trimPulse (c.val + 1)) s = .next { s with rlu := { s.rlu with
        channels := s.rlu.channels.set c ⟨s.rlu.channels[c].owed - 1, s.rlu.channels[c].total + 1, true⟩ } }) ∧
    (s.wtb.line = .thread ∨ s.wtb.line = .run → s.rlu.channels[c].owed < 0 →
      exec (.trimPulse (c.val + 1)) s = .next { s with rlu := { s.rlu with
        channels := s.rlu.channels.set c ⟨s.rlu.channels[c].owed + 1, s.rlu.channels[c].total - 1, false⟩ } }) ∧
    (s.wtb.line = .idle ∨ s.wtb.line = .hold ∨ s.wtb.line = .fault ∨ s.rlu.channels[c].owed = 0 →
      exec (.trimPulse (c.val + 1)) s = .next s))

/-- What a register entry does: it joins the end of its record's list (the list's order is the model's choice, log
37) and its defects. For a record not COASTED an entry in tolerance ends both runs, and in RUN a station in AUTO
counts its settle countdown down, or at 0 with an error above the deadband owes min(floor((|e| * gain + 128) /
256), max step) with the sign of e and reloads the countdown: the addition saturates as any other, and a
correction of 0 owes nothing and reloads nothing. A MISSING entry lengthens the missing run, whose fourth drops an
AUTO station to MONITOR; an entry out of tolerance lengthens its own run, which raises REGISTER-ALARM once where
it has reached the alarm count, ends the missing run, and runs the loop as an entry in tolerance does, in the line
state that the alarm's route leaves (log 7). That the alarm's route acts where the alarm is raised, and that the
loop runs in the line state it leaves, is the model's reading (log 7). -/
def Obligations.RegisterEntriesDriveTheLoop : Prop :=
  ∀ (k : Fin 8) (n : Nat) (s : State),
    let written : RegReading → Bool → State := fun rd bad => { s with tku := { s.tku with
      track := s.tku.track.map (fun r => if r.number = n then { r with
        regs := r.regs ++ [⟨k, rd⟩]
        defects := { r.defects with register := r.defects.register || bad } } else r) } }
    let st := s.rlu.stations[k]
    let put : State → Station → State := fun t x =>
      { t with rlu := { t.rlu with stations := s.rlu.stations.set k x } }
    let good : Station := { st with outRun := 0, alarmArmed := true, missRun := 0 }
    (∀ e, registerEntry k n true (.error e true) s = written (.error e true) false) ∧
    (∀ e, registerEntry k n true (.error e false) s = written (.error e false) true) ∧
    registerEntry k n true .missing s = written .missing true ∧
    (∀ e : Int, s.wtb.line ≠ .run ∨ st.mode ≠ .auto ∨ (st.settle = 0 ∧ e.natAbs ≤ st.params.deadband) →
      registerEntry k n false (.error e true) s = put (written (.error e true) false) good) ∧
    (∀ e : Int, s.wtb.line = .run → st.mode = .auto → 0 < st.settle →
      registerEntry k n false (.error e true) s =
        put (written (.error e true) false) { good with settle := st.settle - 1 }) ∧
    (∀ e c : Int, s.wtb.line = .run → st.mode = .auto → st.settle = 0 → st.params.deadband < e.natAbs →
      c.natAbs = min ((e.natAbs * st.params.gain + 128) / 256) st.params.maxStep → (0 < e → 0 ≤ c) →
      (e < 0 → c ≤ 0) → c ≠ 0 → -4095 ≤ s.rlu.channels[channelOfStation k].owed + c →
      s.rlu.channels[channelOfStation k].owed + c ≤ 4095 →
      registerEntry k n false (.error e true) s = { written (.error e true) false with rlu := {
        stations := s.rlu.stations.set k { good with settle := settleValue s.tku.path.d[k] s.tku.estimate }
        channels := s.rlu.channels.set (channelOfStation k) { s.rlu.channels[channelOfStation k] with
          owed := s.rlu.channels[channelOfStation k].owed + c } } }) ∧
    (∀ e : Int, s.wtb.line = .run → st.mode = .auto → st.settle = 0 → st.params.deadband < e.natAbs →
      min ((e.natAbs * st.params.gain + 128) / 256) st.params.maxStep = 0 →
      registerEntry k n false (.error e true) s = put (written (.error e true) false) good) ∧
    (∀ e c : Int, s.wtb.line = .run → st.mode = .auto → st.settle = 0 → st.params.deadband < e.natAbs →
      c.natAbs = min ((e.natAbs * st.params.gain + 128) / 256) st.params.maxStep → (0 < e → 0 ≤ c) →
      (e < 0 → c ≤ 0) → c ≠ 0 → ∃ v, v = addOwed (channelOfStation k) c n (put (written (.error e true) false) good) ∧
        registerEntry k n false (.error e true) s = put v
          { good with settle := settleValue s.tku.path.d[k] s.tku.estimate }) ∧
    (st.missRun + 1 < 4 → registerEntry k n false .missing s = put (written .missing true) { st with
      missRun := st.missRun + 1
      settle := if s.wtb.line = .run ∧ st.mode = .auto then st.settle - 1 else st.settle }) ∧
    (4 ≤ st.missRun + 1 → ∃ v, v = raise .markLost (k.val + 1) n (put (written .missing true) { st with missRun := 0 }) ∧
      registerEntry k n false .missing s = put v { st with
        missRun := 0, mode := if st.mode = .auto then .monitor else st.mode }) ∧
    (∀ e : Int, ∃ v : State,
      (let out := min 255 (st.outRun + 1)
      let entered := written (.error e false) true
      let ended : Station := { st with
        outRun := out, alarmArmed := st.alarmArmed && decide (out < st.params.alarmCount), missRun := 0 }
      (st.alarmArmed = true → st.params.alarmCount ≤ out →
        v = put (raise .registerAlarm (k.val + 1) n (put entered { ended with missRun := st.missRun })) ended) ∧
      (st.alarmArmed = false ∨ out < st.params.alarmCount → v = put entered ended) ∧
      (v.wtb.line ≠ .run ∨ st.mode ≠ .auto ∨ (st.settle = 0 ∧ e.natAbs ≤ st.params.deadband) →
        registerEntry k n false (.error e false) s = v) ∧
      (v.wtb.line = .run → st.mode = .auto → 0 < st.settle →
        registerEntry k n false (.error e false) s = put v { ended with settle := st.settle - 1 }) ∧
      (v.wtb.line = .run → st.mode = .auto → st.settle = 0 → st.params.deadband < e.natAbs →
        (min ((e.natAbs * st.params.gain + 128) / 256) st.params.maxStep = 0 →
          registerEntry k n false (.error e false) s = v) ∧
        (∀ c : Int, c.natAbs = min ((e.natAbs * st.params.gain + 128) / 256) st.params.maxStep → (0 < e → 0 ≤ c) →
          (e < 0 → c ≤ 0) → c ≠ 0 →
          registerEntry k n false (.error e false) s = put (addOwed (channelOfStation k) c n v)
            { ended with settle := settleValue s.tku.path.d[k] s.tku.estimate })))) ∧
    (∀ (e : Int) (t : State), t.rlu = s.rlu →
      (st.alarmArmed = true → st.params.alarmCount ≤ min 255 (st.outRun + 1) →
        countOutOfTolerance k n (.error e false) t = raise .registerAlarm (k.val + 1) n
          (put t { st with outRun := min 255 (st.outRun + 1), alarmArmed := false })) ∧
      (st.alarmArmed = false ∨ min 255 (st.outRun + 1) < st.params.alarmCount →
        countOutOfTolerance k n (.error e false) t = put t { st with outRun := min 255 (st.outRun + 1) }))

/-! ### The Emboss Phase Unit -/

/-- EMBOSS ENGAGE enters SYNCING from OPEN in RUN with the release watch stopped, and is else WRONG-STATE or BUSY.
EMBOSS SET writes its fields whole: the structural ones change in IDLE and THREAD alone, where in THREAD a change
of configured makes the state OPEN or NONE, and a field out of range is BAD-VALUE. EMBOSS RELEASE clears the
re-engage flag and opens the nip: SYNCING enters OPEN, ENGAGED enters RELEASING, or OPEN where NPF already shows
open; in NONE it is WRONG-STATE. -/
def Obligations.EmbossRequestsAreTaken : Prop :=
  (∀ (tag : Byte) (s : State),
    (s.wtb.line = .run → s.epu.state = .opened → s.epu.releaseWatch = none →
      exec (.embossEngage tag) s = .next (answer tag 0x21#8 .ok [] { s with epu := { s.epu with
        state := .syncing, engageCount := 0, settle := 0, reengage := false } })) ∧
    (s.wtb.line ≠ .run → exec (.embossEngage tag) s = .next (answer tag 0x21#8 .wrongState [] s)) ∧
    (s.wtb.line = .run → s.epu.state ≠ .opened →
      exec (.embossEngage tag) s = .next (answer tag 0x21#8 .wrongState [] s)) ∧
    (s.wtb.line = .run → s.epu.state = .opened → s.epu.releaseWatch.isSome = true →
      exec (.embossEngage tag) s = .next (answer tag 0x21#8 .busy [] s))) ∧
  (∀ (tag : Byte) (f : EmbossFields) (p : EmbossParams) (s : State), f.resolve s.tku.params.n = some p →
    ((p.configured = s.epu.params.configured ∧ p.ratio = s.epu.params.ratio ∧ p.offset = s.epu.params.offset ∧
        p.required = s.epu.params.required) ∨ s.wtb.line = .idle →
      exec (.embossSet tag f) s = .next (answer tag 0x20#8 .ok [] { s with epu := { s.epu with params := p } })) ∧
    (s.wtb.line = .thread →
      exec (.embossSet tag f) s = .next (answer tag 0x20#8 .ok [] { s with epu := { s.epu with
        params := p
        state := if p.configured = s.epu.params.configured then s.epu.state
          else if p.configured then .opened else .none } })) ∧
    (p.configured ≠ s.epu.params.configured ∨ p.ratio ≠ s.epu.params.ratio ∨ p.offset ≠ s.epu.params.offset ∨
        p.required ≠ s.epu.params.required → s.wtb.line ≠ .idle → s.wtb.line ≠ .thread →
      exec (.embossSet tag f) s = .next (answer tag 0x20#8 .wrongState [] s))) ∧
  (∀ (tag : Byte) (f : EmbossFields) (s : State), f.resolve s.tku.params.n = none →
    exec (.embossSet tag f) s = .next (answer tag 0x20#8 .badValue [] s)) ∧
  (∀ (tag : Byte) (s : State),
    (s.epu.state = .none → exec (.embossRelease tag) s = .next (answer tag 0x22#8 .wrongState [] s)) ∧
    (s.epu.state = .opened ∨ s.epu.state = .releasing →
      exec (.embossRelease tag) s = .next (answer tag 0x22#8 .ok []
        { s with epu := { s.epu with reengage := false } })) ∧
    (s.epu.state = .syncing → exec (.embossRelease tag) s = .next (answer tag 0x22#8 .ok []
      { s with epu := { s.epu with state := .opened, engageCount := 0, reengage := false } })) ∧
    (s.epu.state = .engaged → s.nipClosed = true → exec (.embossRelease tag) s = .next (answer tag 0x22#8 .ok []
      { s with epu := { s.epu with
        state := .releasing, npc := false, closeTimer := none, reengage := false
        releaseWatch := some s.epu.params.nipTimeout } })) ∧
    (s.epu.state = .engaged → s.nipClosed = false → exec (.embossRelease tag) s = .next (answer tag 0x22#8 .ok []
      { s with epu := { s.epu with
        state := .opened, npc := false, closeTimer := none, reengage := false, releaseWatch := none } })))

/-- The phase of an index at PE: the record whose emboss reference A is greatest at or below PE + h gives PE - A
where that lies within -h to h, and else there is no reference; h is floor(estimate / 32). Stated where the
references lie within 2^30 of PE. That a phase above h gives no reference is the model's choice (log 25).
EMBOSS_INDEX. Outside a new-web advance of a running track, or in NONE, EIX's level alone is noted; an advance
without an index notes the reading too. An index records its phase or NO-REFERENCE; in SYNCING the engage count
follows it and the third qualifying index in a row enters ENGAGED with the nip commanded closed; in ENGAGED a
phase beyond the fault limit or no reference raises EMBOSS-OUT and enters RELEASING, and where NPF already shows
open goes on to OPEN, or to SYNCING where it re-engages in RUN; such an index owes no correction. At every other
index in SYNCING and ENGAGED the loop runs on what the controller left: a settle countdown ends, or a phase beyond
the deadband owes min(floor((|phase| * gain + 128) / 256), max step) with its sign and sets the countdown to 1; a
correction of 0 owes nothing. EMBOSS_INDEX carries the level read (log 4), and EMBOSS-OUT is dealt with where it
is raised (log 7). -/
def Obligations.EmbossIndexIsWorked : Prop :=
  (∀ (pe : Pos) (s : State) (ref : RepeatRecord → Pos) (h : Int), h = s.tku.estimate / 32 → 0 ≤ h →
    h < 1073741824 → (∀ r, ref r = r.origin + BitVec.ofNat 32 (s.tku.path.de + s.epu.params.offset)) →
    (∀ r ∈ s.tku.track, (pe - ref r).toInt.natAbs < 1073741824) →
    (∀ ph, s.phaseAt pe = some ph → ∃ r ∈ s.tku.track, ph = ⟨(pe - ref r).toInt, r.number⟩ ∧
      -h ≤ ph.phase ∧ ph.phase ≤ h ∧
      ∀ q ∈ s.tku.track, (pe - ref q).toInt < ph.phase → (pe - ref q).toInt < -h) ∧
    (s.phaseAt pe = none → ∀ q ∈ s.tku.track, (pe - ref q).toInt < -h ∨ h < (pe - ref q).toInt)) ∧
  (∀ (e : Bool) (s : State),
    let p : State := { s with pins := { s.pins with eix := e } }
    let q : State := { p with epu := { p.epu with eixPrev := true } }
    let thrown : State → State := fun u => { u with epu := { u.epu with
      npc := false, closeTimer := none, releaseWatch := none
      state := if u.wtb.line = .run ∧ u.epu.params.autoReengage = true then .syncing else .opened
      engageCount := if u.wtb.line = .run ∧ u.epu.params.autoReengage = true then 0 else u.epu.engageCount
      settle := if u.wtb.line = .run ∧ u.epu.params.autoReengage = true then 0 else u.epu.settle
      reengage := (u.epu.reengage || u.epu.params.autoReengage) && decide (u.wtb.line ≠ .run) } }
    (s.wtb.newWeb = false ∨ s.running = false ∨ s.epu.state = .none →
      exec (.embossIndex e) s = .next p) ∧
    (s.wtb.newWeb = true → s.running = true → s.epu.state ≠ .none →
      e = s.wtb.polarity.eix ∨ s.epu.eixPrev = true →
      exec (.embossIndex e) s = .next { p with epu := { s.epu with eixPrev := decide (e ≠ s.wtb.polarity.eix) } }) ∧
    (s.wtb.newWeb = true → s.running = true → e ≠ s.wtb.polarity.eix → s.epu.eixPrev = false →
      (s.epu.state = .opened ∨ s.epu.state = .releasing →
        (∀ ph, s.phaseAt s.wtb.wp = some ph → exec (.embossIndex e) s = .next { q with epu := { q.epu with
          lastPhase := some ph, lastOutcome := some .valid } }) ∧
        (s.phaseAt s.wtb.wp = none → exec (.embossIndex e) s = .next { q with epu := { q.epu with
          lastOutcome := some .noReference } })) ∧
      (s.epu.state = .syncing → s.phaseAt s.wtb.wp = none →
        exec (.embossIndex e) s = .next { q with epu := { q.epu with
          lastOutcome := some .noReference, engageCount := 0 } }) ∧
      (∀ ph, s.epu.state = .syncing → s.phaseAt s.wtb.wp = some ph →
        (s.epu.params.engageWindow < ph.phase.natAbs →
          exec (.embossIndex e) s = .next (embossLoop (some ph) { q with epu := { q.epu with
            lastPhase := some ph, lastOutcome := some .valid, engageCount := 0 } })) ∧
        (ph.phase.natAbs ≤ s.epu.params.engageWindow → s.epu.engageCount + 1 < 3 →
          exec (.embossIndex e) s = .next (embossLoop (some ph) { q with epu := { q.epu with
            lastPhase := some ph, lastOutcome := some .valid, engageCount := s.epu.engageCount + 1 } })) ∧
        (ph.phase.natAbs ≤ s.epu.params.engageWindow → 3 ≤ s.epu.engageCount + 1 →
          exec (.embossIndex e) s = .next (embossLoop (some ph) (raise .embossEngaged 0 ph.number
            { q with epu := { q.epu with
              lastPhase := some ph, lastOutcome := some .valid, engageCount := 0, state := .engaged, npc := true
              nipConfirmed := s.nipClosed, lastIndex := some s.wtb.wp
              closeTimer := if s.nipClosed then none else some s.epu.params.nipTimeout } })))) ∧
      (∀ ph, s.epu.state = .engaged → s.phaseAt s.wtb.wp = some ph →
        ph.phase.natAbs ≤ min s.epu.params.faultLimit (s.tku.params.n / 2) →
        exec (.embossIndex e) s = .next (embossLoop (some ph) { q with epu := { q.epu with
          lastPhase := some ph, lastOutcome := some .valid, lastIndex := some s.wtb.wp } })) ∧
      (∀ ph, s.epu.state = .engaged → s.nipClosed = true → s.phaseAt s.wtb.wp = some ph →
        min s.epu.params.faultLimit (s.tku.params.n / 2) < ph.phase.natAbs →
        ∃ u, u = raise .embossOut 1 ph.number { q with epu := { q.epu with
            lastPhase := some ph, lastOutcome := some .valid } } ∧
          exec (.embossIndex e) s = .next { u with epu := { u.epu with
            reengage := u.epu.reengage || u.epu.params.autoReengage, state := .releasing, npc := false
            closeTimer := none, releaseWatch := some u.epu.params.nipTimeout } }) ∧
      (s.epu.state = .engaged → s.nipClosed = true → s.phaseAt s.wtb.wp = none →
        ∃ u, u = raise .embossOut 3 0 { q with epu := { q.epu with lastOutcome := some .noReference } } ∧
          exec (.embossIndex e) s = .next { u with epu := { u.epu with
            reengage := u.epu.reengage || u.epu.params.autoReengage, state := .releasing, npc := false
            closeTimer := none, releaseWatch := some u.epu.params.nipTimeout } }) ∧
      (∀ ph, s.epu.state = .engaged → s.nipClosed = false → s.phaseAt s.wtb.wp = some ph →
        min s.epu.params.faultLimit (s.tku.params.n / 2) < ph.phase.natAbs →
        exec (.embossIndex e) s = .next (thrown (raise .embossOut 1 ph.number { q with epu := { q.epu with
          lastPhase := some ph, lastOutcome := some .valid } }))) ∧
      (s.epu.state = .engaged → s.nipClosed = false → s.phaseAt s.wtb.wp = none →
        exec (.embossIndex e) s = .next (thrown (raise .embossOut 3 0
          { q with epu := { q.epu with lastOutcome := some .noReference } })))) ∧
    (∀ ph : PhaseRegister,
      (s.wtb.line ≠ .run ∨ (s.epu.state ≠ .syncing ∧ s.epu.state ≠ .engaged) → embossLoop (some ph) s = s) ∧
      (s.wtb.line = .run → s.epu.state = .syncing ∨ s.epu.state = .engaged →
        (0 < s.epu.settle → embossLoop (some ph) s = { s with epu := { s.epu with settle := 0 } }) ∧
        (s.epu.settle = 0 → ph.phase.natAbs ≤ s.epu.params.deadband ∨
            min ((ph.phase.natAbs * s.epu.params.gain + 128) / 256) s.epu.params.maxStep = 0 →
          embossLoop (some ph) s = s) ∧
        (∀ c : Int, s.epu.settle = 0 → s.epu.params.deadband < ph.phase.natAbs →
          c.natAbs = min ((ph.phase.natAbs * s.epu.params.gain + 128) / 256) s.epu.params.maxStep →
          (0 < ph.phase → 0 ≤ c) → (ph.phase < 0 → c ≤ 0) → c ≠ 0 →
          (∃ v, v = addOwed embossChannel c ph.number s ∧
            embossLoop (some ph) s = { v with epu := { v.epu with settle := 1 } }) ∧
          (-4095 ≤ s.rlu.channels[embossChannel].owed + c → s.rlu.channels[embossChannel].owed + c ≤ 4095 →
            embossLoop (some ph) s = { s with
              epu := { s.epu with settle := 1 }
              rlu := { s.rlu with channels := s.rlu.channels.set embossChannel { s.rlu.channels[embossChannel] with
                owed := s.rlu.channels[embossChannel].owed + c } } })))))

/-- The watches on the nip. NPF closed confirms an unconfirmed nip in ENGAGED; NPF open there, once confirmed, and
the close timer's expiry before it, raise EMBOSS-NIP and enter RELEASING, with a watch where NPF shows closed by
then; NPF open ends a release watch, a unit in RELEASING then entering OPEN, or SYNCING where it is to engage
again in RUN; the watch's expiry with NPF closed latches NIP-STUCK; more than floor(3 * m * estimate / 32) counts
of new web above the last index, one at this advance being worked first, raise EMBOSS-OUT. The levels read come
with the commands (log 4). EMBOSS-NIP and EMBOSS-OUT are dealt with where they are raised (log 7). -/
def Obligations.NipIsWatched : Prop :=
  ∀ s : State,
    let closed : State := { s with pins := { s.pins with npf := !s.wtb.polarity.npf } }
    let open_ : State := { s with pins := { s.pins with npf := s.wtb.polarity.npf } }
    let released : State → State := fun t => { t with epu := { t.epu with
      releaseWatch := none
      state := if s.wtb.line = .run ∧ s.epu.reengage = true ∧ s.epu.params.autoReengage = true then .syncing
        else .opened
      engageCount := if s.wtb.line = .run ∧ s.epu.reengage = true ∧ s.epu.params.autoReengage = true then 0
        else s.epu.engageCount
      settle := if s.wtb.line = .run ∧ s.epu.reengage = true ∧ s.epu.params.autoReengage = true then 0
        else s.epu.settle
      reengage := s.epu.reengage && decide (s.wtb.line ≠ .run) } }
    (s.epu.state = .engaged → s.epu.nipConfirmed = false → exec .npfClosed s = .next { closed with
      epu := { s.epu with nipConfirmed := true, closeTimer := none } }) ∧
    (s.epu.state ≠ .engaged ∨ s.epu.nipConfirmed = true → exec .npfClosed s = .next closed) ∧
    (s.epu.state = .engaged → s.epu.nipConfirmed = true → ∃ u, u = raise .embossNip 2 0 open_ ∧
      exec .npfOpen s = .next { u with epu := { u.epu with
        reengage := false, state := .opened, npc := false, closeTimer := none, releaseWatch := none } }) ∧
    (s.epu.state = .releasing → exec .npfOpen s = .next (released open_)) ∧
    (s.epu.state ≠ .releasing → s.epu.state ≠ .engaged ∨ s.epu.nipConfirmed = false →
      exec .npfOpen s = .next { open_ with epu := { s.epu with releaseWatch := none } }) ∧
    (∀ e : Bool, s.epu.state = .engaged → s.epu.closeTimer.isSome = true → ∃ u, u = raise .embossNip 1 0 { s with
        pins := { s.pins with npf := e }, epu := { s.epu with closeTimer := none } } ∧
      (e ≠ s.wtb.polarity.npf → exec (.closeTimerExpiry e) s = .next { u with epu := { u.epu with
        reengage := false, state := .releasing, npc := false, closeTimer := none
        releaseWatch := some u.epu.params.nipTimeout } }) ∧
      (e = s.wtb.polarity.npf → exec (.closeTimerExpiry e) s = .next { u with epu := { u.epu with
        reengage := false, state := .opened, npc := false, closeTimer := none, releaseWatch := none } })) ∧
    (∀ e : Bool, s.epu.state ≠ .engaged ∨ s.epu.closeTimer = none → exec (.closeTimerExpiry e) s = .next s) ∧
    (s.epu.releaseWatch.isSome = true → s.nipClosed = true → s.epu.state ≠ .engaged →
      ∃ t, exec .releaseWatchExpiry s = .next t ∧ t.wtb.latched.nipStuck = true ∧ t.epu.releaseWatch = none ∧
        t.epu.npc = s.epu.npc ∧ (s.epu.state = .releasing → t.epu.state = .releasing) ∧
        (s.wtb.latched.nipStuck = false → s.wtb.line = .thread ∨ s.wtb.line = .run ∨ s.wtb.line = .hold →
          t.wtb.line = .fault) ∧
        (s.wtb.latched.nipStuck = true ∨ s.wtb.line = .idle ∨ s.wtb.line = .fault → t.wtb.line = s.wtb.line)) ∧
    (s.epu.releaseWatch.isSome = true → s.nipClosed = false → s.epu.state = .releasing →
      exec .releaseWatchExpiry s = .next (released s)) ∧
    (s.epu.releaseWatch.isSome = true → s.nipClosed = false → s.epu.state ≠ .releasing →
      exec .releaseWatchExpiry s = .next { s with epu := { s.epu with releaseWatch := none } }) ∧
    (s.epu.releaseWatch = none → exec .releaseWatchExpiry s = .next s) ∧
    (∀ e : Bool, ∃ t, exec (.embossIndex e) s = .next t ∧
      (∀ p, t.epu.lastIndex = some p → t.wtb.newWeb = true → t.running = true → t.epu.state = .engaged →
        3 * t.epu.params.ratio * t.tku.estimate / 32 < (t.wtb.wp - p).toInt →
        ∃ u, u = raise .embossOut 2 0 t ∧
          (t.nipClosed = true → exec (.indexLost e) s = .next { u with epu := { u.epu with
            reengage := u.epu.reengage || u.epu.params.autoReengage, state := .releasing, npc := false
            closeTimer := none, releaseWatch := some u.epu.params.nipTimeout } }) ∧
          (t.nipClosed = false → ∃ v : Epu, exec (.indexLost e) s = .next { u with epu := v } ∧
            v.state = (if u.wtb.line = .run ∧ u.epu.params.autoReengage = true then .syncing else .opened) ∧
            v.npc = false ∧ v.closeTimer = none ∧ v.releaseWatch = none ∧
            v.reengage = ((u.epu.reengage || u.epu.params.autoReengage) && decide (u.wtb.line ≠ .run)))) ∧
      (t.wtb.newWeb = false ∨ t.running = false ∨ t.epu.state ≠ .engaged ∨
          (∀ p, t.epu.lastIndex = some p → (t.wtb.wp - p).toInt ≤ 3 * t.epu.params.ratio * t.tku.estimate / 32) →
        exec (.indexLost e) s = .next t))

/-! ### The Shade Measurement Unit -/

/-- SHADE SET, SLOT ENABLE and GUARD SET. A new scan list, in IDLE and THREAD alone, sets the pointer to position
1; KEEP to EMPTY drops the standing context. SLOT ENABLE writes all six enables, a newly enabled slot's fault
count going to 0. GUARD SET writes one channel's window. That mask bits 6 and 7 are ignored is the model's choice
(log 19). -/
def Obligations.ShadeSettingsAreWritten : Prop :=
  (∀ (tag : Byte) (f : ShadeFields) (p : ShadeParams) (s : State), f.resolve s.tku.params.n s.smu.params.offset = some p →
    (p.scanList = s.smu.params.scanList ∨ s.wtb.line = .idle ∨ s.wtb.line = .thread →
      exec (.shadeSet tag f) s = .next (answer tag 0x28#8 .ok [] { s with smu := { s.smu with
        params := p
        pointer := if p.scanList = s.smu.params.scanList then s.smu.pointer else 1
        standing := if s.smu.params.keep = true ∧ p.keep = false then none else s.smu.standing } })) ∧
    (p.scanList ≠ s.smu.params.scanList → s.wtb.line ≠ .idle → s.wtb.line ≠ .thread →
      exec (.shadeSet tag f) s = .next (answer tag 0x28#8 .wrongState [] s))) ∧
  (∀ (tag : Byte) (f : ShadeFields) (s : State), f.resolve s.tku.params.n s.smu.params.offset = none →
    exec (.shadeSet tag f) s = .next (answer tag 0x28#8 .badValue [] s)) ∧
  (∀ (tag mask : Byte) (s : State), ∃ (e : Vector Bool 6) (f : Vector Nat 6),
    (∀ i : Fin 6, e[i] = mask.getLsbD i.val) ∧
    (∀ i : Fin 6, f[i] = if mask.getLsbD i.val = true ∧ s.smu.enables[i] = false then 0 else s.smu.faults[i]) ∧
    exec (.slotEnable tag mask) s = .next (answer tag 0x29#8 .ok (le1 (mask.toNat % 64))
      { s with smu := { s.smu with enables := e, faults := f } })) ∧
  (∀ (tag : Byte) (f : GuardFields) (g : Guard) (s : State), f.resolve = some g →
    exec (.guardSet tag (some .r) f) s = .next (answer tag 0x2A#8 .ok [] { s with smu := { s.smu with guardR := g } }) ∧
    exec (.guardSet tag (some .g) f) s = .next (answer tag 0x2A#8 .ok [] { s with smu := { s.smu with guardG := g } }) ∧
    exec (.guardSet tag (some .b) f) s = .next (answer tag 0x2A#8 .ok [] { s with smu := { s.smu with guardB := g } })) ∧
  (∀ (tag : Byte) (c : Coded Colour) (f : GuardFields) (s : State), c = none ∨ f.resolve = none →
    exec (.guardSet tag c f) s = .next (answer tag 0x2A#8 .badValue [] s))

/-- FRAME_SLOT_START at a free head bus: the calibration run's slot is measured first, then the oldest due spot
while the heads are over the web and the line is not IDLE or FAULT, a disabled slot ending it INVALID, then the
regular scan, whose next slot is the first enabled one from the pointer on, in list order with the last position
followed by the first: each position looked at counts as visited, and a scan that has only disabled slots left
ends with nothing raised, the pointer where it is. A measurement that holds the bus sends its next SAMPLE; each
SAMPLE, its byte in a frame of TYPE 0x01, inverts its slot's sequence bit. HEAD_ANSWER: with an exchange open and
no answer yet, a whole, checked answer that names the slot and echoes the sequence bit of the SAMPLE with lamp OK
makes the sample good with its three values, and any other frame makes it bad, a whole frame of another TYPE or
BODY length among them; a later answer, or one with no exchange open, is discarded. That the first answer of a
frame slot is judged, a late one included, is the model's choice (log 18), and so is that a whole frame of another
TYPE or BODY length is a bad answer (log 54). -/
def Obligations.HeadBusExchanges : Prop :=
  (∀ s : State,
    let sample : Fin 6 → Byte := fun slot =>
      BitVec.ofNat 8 (slot.val + (if s.smu.seqBits[slot] = true then 128 else 0))
    let begun : State → Fin 6 → Nat → BusUser → State := fun t slot k user => { t with smu := { t.smu with
      bus := some ⟨slot, k, 0, ⟨0, 0, 0⟩, false, user,
        some ⟨sample slot, linkFrame 0x01#8 [sample slot], none⟩⟩
      seqBits := s.smu.seqBits.set slot (!s.smu.seqBits[slot]) } }
    let spots : Prop := s.parked = false ∧ s.wtb.line ≠ .idle ∧ s.wtb.line ≠ .fault
    (∀ c slot rest, s.smu.bus = none → s.smu.calRun = some c → c.todo = slot :: rest →
      exec .frameSlotStart s = .next (begun s slot 4 .cal)) ∧
    (∀ before c after, s.smu.bus = none → s.smu.calRun = none → spots → s.smu.contexts = before ++ c :: after →
      (∀ x ∈ before, x.due = false) → c.due = true →
      ∃ t, t = { s with smu := { s.smu with
          contexts := before ++ after
          standing := if before ++ after = [] ∧ s.smu.params.keep = true then some c else s.smu.standing } } ∧
        (s.smu.enables[c.slot] = true → exec .frameSlotStart s = .next (begun t c.slot c.k (.spot c))) ∧
        (s.smu.enables[c.slot] = false → (∀ x ∈ before ++ after, x.due = false) → s.smu.scan = none →
          s.evu.routeFor .spotDone = none → s.evu.routeFor .spotOverrun = none →
          exec .frameSlotStart s = .next (offerResult ⟨c.tag, c.source, c.slot, c.serves, .invalid, none, none⟩ t))) ∧
    (s.smu.bus = none → s.smu.calRun = none → ¬ spots ∨ (∀ x ∈ s.smu.contexts, x.due = false) →
      (s.smu.scan = none → exec .frameSlotStart s = .next s) ∧
      (∀ c, s.smu.scan = some c → c.nscan ≤ c.completed ∨ s.smu.params.scanList.length ≤ c.visited →
        exec .frameSlotStart s = .next { s with smu := { s.smu with scan := none } }) ∧
      (∀ c slot, s.smu.scan = some c → c.completed < c.nscan → c.visited < s.smu.params.scanList.length →
        s.smu.params.scanList[s.smu.pointer - 1]? = some slot → s.smu.enables[slot] = true →
        exec .frameSlotStart s = .next (begun
          { s with smu := { s.smu with scan := some { c with visited := c.visited + 1 } } }
          slot c.kreg (.scan c.record s.smu.pointer))) ∧
      (∀ (c : Scan) (len : Nat) (at_ : Nat → Option (Fin 6)), s.smu.scan = some c → c.completed < c.nscan →
        len = s.smu.params.scanList.length → 1 ≤ s.smu.pointer → s.smu.pointer ≤ len →
        (∀ i, at_ i = s.smu.params.scanList[(s.smu.pointer - 1 + i) % len]?) →
        (∀ (j : Nat) (slot : Fin 6), c.visited + j < len → at_ j = some slot → s.smu.enables[slot] = true →
          (∀ i < j, ∀ x, at_ i = some x → s.smu.enables[x] = false) →
          exec .frameSlotStart s = .next (begun
            { s with smu := { s.smu with scan := some { c with visited := c.visited + j + 1 } } }
            slot c.kreg (.scan c.record ((s.smu.pointer - 1 + j) % len + 1)))) ∧
        ((∀ i x, c.visited + i < len → at_ i = some x → s.smu.enables[x] = false) →
          exec .frameSlotStart s = .next { s with smu := { s.smu with scan := none } }))) ∧
    (∀ b, s.smu.bus = some b →
      (b.exchange = none → exec .frameSlotStart s = .next { s with smu := { s.smu with
        bus := some { b with exchange := some ⟨sample b.slot, linkFrame 0x01#8 [sample b.slot], none⟩ }
        seqBits := s.smu.seqBits.set b.slot (!s.smu.seqBits[b.slot]) } }) ∧
      (b.exchange.isSome = true → exec .frameSlotStart s = .next s))) ∧
  (∀ (b : Measurement) (sample : Byte) (sent : List Byte) (s : State), s.smu.bus = some b →
    (∀ r g bl : Nat, r < 4096 → g < 4096 → bl < 4096 → b.exchange = some ⟨sample, sent, none⟩ →
      (∀ echo : Byte, echo = sample →
        exec (.headAnswer (linkFrame 0x81#8 (echo :: (le2 r ++ le2 g ++ le2 bl ++ [0])))) s =
          .next { s with smu := { s.smu with
            bus := some { b with exchange := some ⟨sample, sent, some (.good ⟨r, g, bl⟩)⟩ } } }) ∧
      (∀ echo lamp : Byte, echo ≠ sample ∨ lamp ≠ 0 →
        exec (.headAnswer (linkFrame 0x81#8 (echo :: (le2 r ++ le2 g ++ le2 bl ++ [lamp])))) s =
          .next { s with smu := { s.smu with
            bus := some { b with exchange := some ⟨sample, sent, some .bad⟩ } } })) ∧
    (∀ frame, b.exchange = some ⟨sample, sent, none⟩ → parseLink frame = none →
      exec (.headAnswer frame) s =
        .next { s with smu := { s.smu with bus := some { b with exchange := some ⟨sample, sent, some .bad⟩ } } }) ∧
    (∀ frame type body, b.exchange = some ⟨sample, sent, none⟩ → parseLink frame = some (type, body) →
      type ≠ 0x81#8 ∨ body.length ≠ 8 → exec (.headAnswer frame) s =
        .next { s with smu := { s.smu with bus := some { b with exchange := some ⟨sample, sent, some .bad⟩ } } }) ∧
    (∀ frame, b.exchange = none ∨ (∃ a, b.exchange = some ⟨sample, sent, some a⟩) →
      exec (.headAnswer frame) s = .next s))

/-- FRAME_SLOT_END: a good sample's values are taken in and any other marks the measurement; before its last
sample the measurement keeps the bus. A regular measurement's last sample frees the bus, moves the pointer past
its position, adds one completed to the scan of its record, and appends the entry its values are judged to in the
record's list of fewer than six; an EXCURSION raises SHADE-GUARD before its entry and adds the shade defect of the
slot's lane, and the eighth INVALID in a row clears the slot's enable and raises HEAD-FAILED after its entry. The
measurement of an overrun scan ends that scan, with SCAN-OVERRUN where its counts say that it left slots. A set
staged behind the measurement becomes the slot's active set at its end, after its values have been formed. From
samples to values: the average of 2^k raw values rounds half up; the calibrated value is clamp(floor(((a - black)
* gain + 16,384) / 32,768), 0, 4,095); and a value is outside a window that applies to its slot, and to its kind
of measurement, where it lies below the low or above the high bound. What an overrun scan has left is read from
the counts (logs 12, 13 and 40). -/
def Obligations.MeasurementsGiveEntries : Prop :=
  ((∀ (b : Measurement) (e : Exchange) (s : State), s.smu.bus = some b → b.exchange = some e →
    let applied : Fin 6 → State → State := fun i u => match u.smu.staged[i] with
      | some f => { u with smu := { u.smu with active := u.smu.active.set i f, staged := u.smu.staged.set i none } }
      | none => u
    ∃ m : Measurement, (∀ v, e.answer = some (.good v) → m = { b with
        exchange := none, taken := b.taken + 1, sums := ⟨b.sums.r + v.r, b.sums.g + v.g, b.sums.b + v.b⟩ }) ∧
      (e.answer = none ∨ e.answer = some .bad → m = { b with exchange := none, taken := b.taken + 1, bad := true }) ∧
      (b.taken + 1 < 2 ^ b.k → s.smu.heldStops = [] ∨ (∀ c, b.user ≠ .spot c) →
        exec .frameSlotEnd s = .next { s with smu := { s.smu with bus := some m } }) ∧
      (∀ (c : Scan) (n pos : Nat), 2 ^ b.k ≤ b.taken + 1 → b.user = .scan n pos → s.smu.scan = some c → c.record = n →
        s.smu.overrun = none →
        ∃ t rd, exec .frameSlotEnd s = .next t ∧ t.smu.bus = none ∧
          (s.smu.staged[b.slot] = none → t.smu.active = s.smu.active ∧ t.smu.staged = s.smu.staged) ∧
          (∀ f, s.smu.staged[b.slot] = some f →
            t.smu.active = s.smu.active.set b.slot f ∧ t.smu.staged = s.smu.staged.set b.slot none) ∧
          t.smu.pointer = (if pos < s.smu.params.scanList.length then pos + 1 else 1) ∧
          (c.nscan ≤ c.completed + 1 ∨ s.smu.params.scanList.length ≤ c.visited → t.smu.scan = none) ∧
          (c.completed + 1 < c.nscan → c.visited < s.smu.params.scanList.length →
            t.smu.scan = some { c with completed := c.completed + 1 }) ∧
          (m.bad = true → rd = .invalid ∧
            (s.smu.faults[b.slot] + 1 < 8 → t.smu.enables = s.smu.enables ∧
              t.smu.faults = s.smu.faults.set b.slot (s.smu.faults[b.slot] + 1)) ∧
            (8 ≤ s.smu.faults[b.slot] + 1 → t.smu.enables = s.smu.enables.set b.slot false ∧
              t.smu.faults = s.smu.faults.set b.slot 0)) ∧
          (∀ v, v = factorValues s.smu.active[b.slot] m.sums b.k → m.bad = false →
            (s.smu.outside b.slot false v = true → rd = .excursion v) ∧
            (s.smu.outside b.slot false v = false → rd = .ok v ∧ t.smu.faults = s.smu.faults.set b.slot 0)) ∧
          t.tku = { s.tku with track := s.tku.track.map (fun r =>
            if r.number = n ∧ (r.shade.getD []).length < 6 then { r with
              shade := some (r.shade.getD [] ++ [⟨b.slot, rd⟩])
              defects := { r.defects with
                shadeA := r.defects.shadeA || ((match rd with | .excursion _ => true | _ => false) &&
                  decide (b.slot.val < 3))
                shadeB := r.defects.shadeB || ((match rd with | .excursion _ => true | _ => false) &&
                  decide (3 ≤ b.slot.val)) } } else r) }) ∧
      (∀ (c : Scan) (n pos next : Nat) (slot : Fin 6) (v : Rgb), 2 ^ b.k ≤ b.taken + 1 → b.user = .scan n pos →
        s.smu.overrun = some c → c.record = n → m.bad = false →
        v = factorValues s.smu.active[b.slot] m.sums b.k → s.smu.outside b.slot false v = false →
        next = (if pos < s.smu.params.scanList.length then pos + 1 else 1) →
        s.smu.params.scanList[next - 1]? = some slot →
        let u : State := { s with
          smu := { s.smu with
            bus := none, pointer := next, overrun := none, faults := s.smu.faults.set b.slot 0 }
          tku := { s.tku with track := s.tku.track.map (fun r =>
            if r.number = n ∧ (r.shade.getD []).length < 6 then
              { r with shade := some (r.shade.getD [] ++ [⟨b.slot, .ok v⟩]) } else r) } }
        exec .frameSlotEnd s = .next (applied b.slot
          (if c.completed + 1 < c.nscan ∧ c.visited < s.smu.params.scanList.length then
            raise .scanOverrun slot.val n u else u))) ∧
      (∀ (n pos next : Nat), 2 ^ b.k ≤ b.taken + 1 → b.user = .scan n pos →
        next = (if pos < s.smu.params.scanList.length then pos + 1 else 1) →
        let free : State := { s with smu := { s.smu with bus := none } }
        let entered : ShadeReading → Bool → State → State := fun rd excursion u => { u with tku := { u.tku with
          track := u.tku.track.map (fun r => if r.number = n ∧ (r.shade.getD []).length < 6 then { r with
            shade := some (r.shade.getD [] ++ [⟨b.slot, rd⟩])
            defects := { r.defects with
              shadeA := r.defects.shadeA || (excursion && decide (b.slot.val < 3))
              shadeB := r.defects.shadeB || (excursion && decide (3 ≤ b.slot.val)) } } else r) } }
        let counted : Nat → State → State := fun k u =>
          { u with smu := { u.smu with faults := u.smu.faults.set b.slot k } }
        ∃ x : State,
          (∀ v, m.bad = false → v = factorValues s.smu.active[b.slot] m.sums b.k →
            (s.smu.outside b.slot false v = false → x = counted 0 (entered (.ok v) false free)) ∧
            (s.smu.outside b.slot false v = true →
              x = counted 0 (entered (.excursion v) true (raise .shadeGuard b.slot.val n free)))) ∧
          (m.bad = true →
            (s.smu.faults[b.slot] + 1 < 8 →
              x = counted (s.smu.faults[b.slot] + 1) (entered .invalid false free)) ∧
            (8 ≤ s.smu.faults[b.slot] + 1 →
              x = raise .headFailed b.slot.val n (counted 0 (entered .invalid false { free with
                smu := { free.smu with enables := s.smu.enables.set b.slot false } })))) ∧
          (∀ c, s.smu.overrun = none → s.smu.scan = some c → c.record = n →
            exec .frameSlotEnd s = .next (applied b.slot { x with smu := { x.smu with
              pointer := next
              scan := if c.nscan ≤ c.completed + 1 ∨ s.smu.params.scanList.length ≤ c.visited then none
                else some { c with completed := c.completed + 1 } } })) ∧
          (∀ c slot, s.smu.overrun = some c → c.record = n → s.smu.params.scanList[next - 1]? = some slot →
            ∃ u, u = { x with smu := { x.smu with pointer := next, overrun := none } } ∧
              exec .frameSlotEnd s = .next (applied b.slot
                (if c.completed + 1 < c.nscan ∧ c.visited < s.smu.params.scanList.length then
                  raise .scanOverrun slot.val n u else u))) ∧
          (s.smu.overrun = none → s.smu.scan = none →
            exec .frameSlotEnd s = .next (applied b.slot
              { x with smu := { x.smu with pointer := next } })))) ∧
  (∀ s : State, (s.smu.bus = none ∨ ∃ b, s.smu.bus = some b ∧ b.exchange = none) →
    exec .frameSlotEnd s = .next s)) ∧
  ((∀ sum, averageOf sum 0 = sum) ∧
  (∀ sum k, 1 ≤ k → 2 * sum < (2 * averageOf sum k + 1) * 2 ^ k ∧ (2 * averageOf sum k) * 2 ^ k ≤ 2 * sum + 2 ^ k) ∧
  (∀ sum k, sum ≤ 4095 * 2 ^ k → averageOf sum k ≤ 4095) ∧
  (∀ a black gain : Nat, (calibrated a black gain : Int) =
    max 0 (min 4095 ((((a : Int) - black) * gain + 16384) / 32768))) ∧
  (∀ (m : Smu) (slot : Fin 6) (isSpot : Bool) (v : Rgb), m.outside slot isSpot v = true ↔
    ∃ x ∈ [(m.guardR, v.r), (m.guardG, v.g), (m.guardB, v.b)],
      (x.1.all = true ∨ x.1.slot = slot) ∧ (isSpot = true → x.1.spots = true) ∧ (x.2 < x.1.low ∨ x.1.high < x.2)) ∧
  (∀ (f : Factors) (sums : Rgb) (k : Nat), factorValues f sums k =
    ⟨calibrated (averageOf sums.r k) f.blackR f.gainR, calibrated (averageOf sums.g k) f.blackG f.gainG,
      calibrated (averageOf sums.b k) f.blackB f.gainB⟩))

/-- SPOT and its refusals in the order of R109; SPOT TRIGGER with its template, drop and refusals. How spot work
ends: a result joins the buffer of four, or overruns it by the overrun mode with SPOT-OVERRUN, and SPOT-DONE
follows; SPOT STOP empties the queue and replies, or is held while a spot is in progress; SPOT READ takes out up
to four results, the oldest first. FRAME_SLOT_END at a spot's last sample: its value, judged, is written into the
record it serves and offered to the result buffer, OK with its guard judgement and INVALID after a bad sample; an
EXCURSION raises SHADE-GUARD first, and the eighth INVALID in a row HEAD-FAILED. With a SPOT STOP held the spot
ends ABANDONED instead at the end of any frame slot, and every held reply joins after it. A set staged behind the
spot becomes active after its result, before those replies. That SPOT's reply joins before its MISSED result is
the model's choice (log 9). -/
def Obligations.SpotsJoinAndEnd : Prop :=
  ((∀ (tag : Byte) (i : Fin 6) (k g : Nat) (t : SpotTarget) (s : State), k ≤ 4 → g ≤ 255 →
    (∀ n, t = .number n → 1 ≤ n ∧ n ≤ 4294967295) →
    (s.wtb.line = .idle ∨ s.wtb.line = .fault →
      exec (.spot tag i.val k (some t) g) s = .next (answer tag 0x2B#8 .wrongState [] s)) ∧
    (s.wtb.line ≠ .idle → s.wtb.line ≠ .fault →
      (s.smu.heldStops ≠ [] → exec (.spot tag i.val k (some t) g) s = .next (answer tag 0x2B#8 .busy [] s)) ∧
      (s.smu.heldStops = [] → 4 ≤ s.smu.contexts.length →
        exec (.spot tag i.val k (some t) g) s = .next (answer tag 0x2B#8 .full (le1 0) s)) ∧
      (s.smu.heldStops = [] → s.smu.contexts.length < 4 → (∀ n, t = .number n → s.tku.passedShade n = false) →
        exec (.spot tag i.val k (some t) g) s = .next { answer tag 0x2B#8 .ok [] s with smu := { s.smu with
          contexts := s.smu.contexts ++ [⟨i, k, t, none, decide (t = .immediate), g, .link⟩], standing := none } }) ∧
      (∀ n, s.smu.heldStops = [] → s.smu.contexts.length < 4 → t = .number n → s.tku.passedShade n = true →
        exec (.spot tag i.val k (some t) g) s = .next (offerResult ⟨g, .link, i, some n, .missed, none, none⟩
          { answer tag 0x2B#8 .ok [] s with smu := { s.smu with
            standing := if s.smu.contexts = [] ∧ s.smu.params.keep = true then
              some ⟨i, k, t, none, false, g, .link⟩ else none } })))) ∧
  (∀ (tag : Byte) (i k g : Nat) (t : Coded SpotTarget) (s : State),
    5 < i ∨ 4 < k ∨ 255 < g ∨ t = none ∨ t = some (.number 0) →
    exec (.spot tag i k t g) s = .next (answer tag 0x2B#8 .badValue [] s)) ∧
  (∀ (tag : Byte) (s : State),
    (s.wtb.line = .idle ∨ s.wtb.line = .fault →
      exec (.spotTrigger tag) s = .next (answer tag 0x2C#8 .wrongState [] s)) ∧
    (s.wtb.line ≠ .idle → s.wtb.line ≠ .fault →
      (s.smu.heldStops ≠ [] → exec (.spotTrigger tag) s = .next (answer tag 0x2C#8 .busy [] s)) ∧
      (s.smu.heldStops = [] → s.smu.contexts = [] → s.smu.standing = none →
        exec (.spotTrigger tag) s = .next (answer tag 0x2C#8 .ok (le1 0)
          { s with smu := { s.smu with drops := if s.smu.drops < 255 then s.smu.drops + 1 else 255 } })) ∧
      (s.smu.heldStops = [] → 4 ≤ s.smu.contexts.length →
        exec (.spotTrigger tag) s = .next (answer tag 0x2C#8 .full (le1 0) s)) ∧
      (∀ c, s.smu.heldStops = [] → s.smu.contexts.length < 4 →
        s.smu.contexts.getLast? = some c ∨ (s.smu.contexts = [] ∧ s.smu.standing = some c) →
        exec (.spotTrigger tag) s = .next (answer tag 0x2C#8 .ok (le1 1) { s with smu := { s.smu with
          contexts := s.smu.contexts ++ [⟨c.slot, c.k, if c.target = .immediate then .immediate else .next, none,
            decide (c.target = .immediate), c.tag, .link⟩]
          standing := none } }))))) ∧
  ((∀ (r : SpotResult) (s : State),
    (s.smu.results.length < 4 → offerResult r s = raise .spotDone r.tag (r.number.getD 0)
      { s with smu := { s.smu with results := s.smu.results ++ [r] } }) ∧
    (∀ old rest, 4 ≤ s.smu.results.length → s.smu.params.overwrite = true → s.smu.results = old :: rest →
      offerResult r s = raise .spotDone r.tag (r.number.getD 0) (raise .spotOverrun old.tag (old.number.getD 0)
        { s with smu := { s.smu with results := rest ++ [r] } })) ∧
    (4 ≤ s.smu.results.length → s.smu.params.overwrite = false →
      offerResult r s = raise .spotDone r.tag (r.number.getD 0)
        (raise .spotOverrun r.tag (r.number.getD 0) s))) ∧
  (∀ (tag : Byte) (s : State),
    (s.smu.spotInProgress = none → exec (.spotStop tag) s = .next (pushReply
      ⟨.spotStop, tag, 0x2D#8, .ok, le1 s.smu.contexts.length, false⟩
      { s with smu := { s.smu with contexts := [], standing := none } })) ∧
    (s.smu.spotInProgress.isSome = true → exec (.spotStop tag) s = .next { s with smu := { s.smu with
      contexts := [], standing := none
      heldStops := s.smu.heldStops ++ [⟨tag, s.smu.contexts.length⟩] } })) ∧
  (∀ (tag : Byte) (n : Nat) (s : State),
    (1 ≤ n → n ≤ 4 → exec (.spotRead tag n) s = .next (answer tag 0x2E#8 .ok
      (le1 (min n s.smu.results.length) ++ (s.smu.results.take n).flatMap SpotResult.bytes)
      { s with smu := { s.smu with results := s.smu.results.drop n } })) ∧
    (n = 0 ∨ 4 < n → exec (.spotRead tag n) s = .next (answer tag 0x2E#8 .badValue [] s)))) ∧
  (∀ (b m : Measurement) (e : Exchange) (c : SpotContext) (s : State), s.smu.bus = some b → b.exchange = some e →
    b.user = .spot c →
    (∀ v, e.answer = some (.good v) → m = { b with
      exchange := none, taken := b.taken + 1, sums := ⟨b.sums.r + v.r, b.sums.g + v.g, b.sums.b + v.b⟩ }) →
    (e.answer = none ∨ e.answer = some .bad → m = { b with exchange := none, taken := b.taken + 1, bad := true }) →
    let applied : Fin 6 → State → State := fun i u => match u.smu.staged[i] with
      | some f => { u with smu := { u.smu with active := u.smu.active.set i f, staged := u.smu.staged.set i none } }
      | none => u
    let number : Option Nat := match c.target with
      | .immediate => none
      | .next => c.bound
      | .number n => some n
    let free : State := { s with smu := { s.smu with bus := none } }
    let entered : ShadeReading → Bool → State → State := fun rd excursion u => { u with tku := { u.tku with
      track := u.tku.track.map (fun r => if some r.number = number ∧ (r.shade.getD []).length < 6 then { r with
        shade := some (r.shade.getD [] ++ [⟨b.slot, rd⟩])
        defects := { r.defects with
          shadeA := r.defects.shadeA || (excursion && decide (b.slot.val < 3))
          shadeB := r.defects.shadeB || (excursion && decide (3 ≤ b.slot.val)) } } else r) } }
    let counted : Nat → State → State := fun k u =>
      { u with smu := { u.smu with faults := u.smu.faults.set b.slot k } }
    (2 ^ b.k ≤ b.taken + 1 → s.smu.heldStops = [] →
      (∀ v, m.bad = false → v = factorValues s.smu.active[b.slot] m.sums b.k →
        (s.smu.outside b.slot true v = false → exec .frameSlotEnd s = .next (applied b.slot (offerResult
          ⟨c.tag, c.source, c.slot, number, .ok, some v, some false⟩ (counted 0 (entered (.ok v) false free))))) ∧
        (s.smu.outside b.slot true v = true → exec .frameSlotEnd s = .next (applied b.slot (offerResult
          ⟨c.tag, c.source, c.slot, number, .ok, some v, some true⟩
          (counted 0 (entered (.excursion v) true (raise .shadeGuard b.slot.val (number.getD 0) free))))))) ∧
      (m.bad = true →
        (s.smu.faults[b.slot] + 1 < 8 → exec .frameSlotEnd s = .next (applied b.slot (offerResult
          ⟨c.tag, c.source, c.slot, number, .invalid, none, none⟩
          (counted (s.smu.faults[b.slot] + 1) (entered .invalid false free))))) ∧
        (8 ≤ s.smu.faults[b.slot] + 1 → exec .frameSlotEnd s = .next (applied b.slot (offerResult
          ⟨c.tag, c.source, c.slot, number, .invalid, none, none⟩
          (raise .headFailed b.slot.val (number.getD 0) (counted 0 (entered .invalid false { free with
            smu := { free.smu with enables := s.smu.enables.set b.slot false } })))))))) ∧
    (s.smu.heldStops ≠ [] → ∃ w,
      w = applied c.slot (offerResult ⟨c.tag, c.source, c.slot, number, .abandoned, none, none⟩ free) ∧
      exec .frameSlotEnd s = .next (s.smu.heldStops.foldl
        (fun t h => pushReply ⟨.spotStop, h.tag, 0x2D#8, .ok, le1 h.removed, false⟩ t)
        { w with smu := { w.smu with heldStops := [] } })))

/-- A measurement of one slot whose 2^k samples are all good sums their raw values, channel by channel, and its
average of each channel is the single raw value for k = 0 and floor((sum + 2^(k-1)) / 2^k) for k of 1 to 4, the
exact mean rounded half up: the sum is at most 65,520, the average at most 4,095, and the three averages are what
the calibrated values are worked from. A measurement with a bad sample, in any place, is INVALID and forms none.
-/
def Obligations.AveragesRoundHalfUp : Prop :=
  (∀ (slot : Fin 6) (k : Nat) (user : BusUser) (vs : List Rgb) (e : Rgb → Exchange) (m : Smu), k ≤ 4 →
    vs.length = 2 ^ k → (∀ v ∈ vs, v.r ≤ 4095 ∧ v.g ≤ 4095 ∧ v.b ≤ 4095) → (∀ v, (e v).answer = some (.good v)) →
    let done : Measurement := vs.foldl (fun b v => b.settle (e v)) ⟨slot, k, 0, ⟨0, 0, 0⟩, false, user, none⟩
    done.taken = 2 ^ k ∧ done.bad = false ∧
    done.sums = ⟨(vs.map (·.r)).sum, (vs.map (·.g)).sum, (vs.map (·.b)).sum⟩ ∧
    m.outcome done = some ⟨
      calibrated (averageOf done.sums.r k) m.active[slot].blackR m.active[slot].gainR,
      calibrated (averageOf done.sums.g k) m.active[slot].blackG m.active[slot].gainG,
      calibrated (averageOf done.sums.b k) m.active[slot].blackB m.active[slot].gainB⟩ ∧
    ∀ sum ∈ [done.sums.r, done.sums.g, done.sums.b],
      sum ≤ 65520 ∧ averageOf sum k ≤ 4095 ∧ (k = 0 → averageOf sum k = sum) ∧
      (1 ≤ k → averageOf sum k = (sum + 2 ^ (k - 1)) / 2 ^ k) ∧
      2 * averageOf sum k * 2 ^ k ≤ 2 * sum + 2 ^ k ∧ 2 * sum < (2 * averageOf sum k + 1) * 2 ^ k) ∧
  (∀ (b : Measurement) (before after : List Exchange) (e : Exchange) (m : Smu),
    (∀ v, e.answer ≠ some (.good v)) →
    m.outcome ((before ++ e :: after).foldl (fun x y => x.settle y) b) = none)

/-- CAL READ answers a slot's active set and its staged set or none. CAL WRITE writes the active set of a slot
that no measurement holds, a staged set leaving, and stages the set of one that is measured; a slot above 5 or a
factor out of range is BAD-VALUE. CALIBRATE and the run it starts: the slots of the mask are done in ascending
order; a slot's sixteenth sample, all good and each average above its black level, makes each gain the one that
reads the white target; a bad sample, or a channel whose average is not above its black level, fails the slot,
whose factors stay; the last slot raises CAL-DONE with the passed and the requested slots. PRK_INACTIVE ends a run
early. A set staged behind a slot of the run becomes active at its end, in place of the gains just written.
PRK_ACTIVE abandons the regular scan without an event, its measurement on the bus included, and a spot in progress
ABANDONED with its result and SPOT-DONE; the pending contexts stay. A set staged behind either becomes active, and
the held SPOT STOP replies follow. That mask bits 6 and 7 are ignored is the model's choice (log 19), and so is
the order of the factors in CAL READ's reply (log 11). -/
def Obligations.CalibrationRunsAndParking : Prop :=
  ((∀ (tag : Byte) (i : Fin 6) (s : State),
    let bytes : Factors → List Byte := fun f =>
      le2 f.gainR ++ le2 f.gainG ++ le2 f.gainB ++ le2 f.blackR ++ le2 f.blackG ++ le2 f.blackB
    (s.smu.staged[i] = none → exec (.calRead tag i.val) s = .next (answer tag 0x30#8 .ok
      (bytes s.smu.active[i] ++ 0x00#8 :: List.replicate 12 0x00#8) s)) ∧
    (∀ f, s.smu.staged[i] = some f → exec (.calRead tag i.val) s = .next (answer tag 0x30#8 .ok
      (bytes s.smu.active[i] ++ 0x01#8 :: bytes f) s))) ∧
  (∀ (tag : Byte) (i : Nat) (s : State), 5 < i →
    exec (.calRead tag i) s = .next (answer tag 0x30#8 .badValue [] s)) ∧
  (∀ (tag : Byte) (i : Fin 6) (f : Factors) (s : State), f.inRange = true →
    ((∀ b, s.smu.bus = some b → b.slot ≠ i) → exec (.calWrite tag i.val f) s = .next (answer tag 0x2F#8 .ok (le1 0)
      { s with smu := { s.smu with active := s.smu.active.set i f, staged := s.smu.staged.set i none } })) ∧
    (∀ b, s.smu.bus = some b → b.slot = i → exec (.calWrite tag i.val f) s = .next (answer tag 0x2F#8 .ok (le1 1)
      { s with smu := { s.smu with staged := s.smu.staged.set i (some f) } }))) ∧
  (∀ (tag : Byte) (i : Nat) (f : Factors) (s : State), 5 < i ∨ f.inRange = false →
    exec (.calWrite tag i f) s = .next (answer tag 0x2F#8 .badValue [] s))) ∧
  ((∀ (tag mask : Byte) (s : State),
    let slots := (List.finRange 6).filter (fun i => mask.getLsbD i.val)
    (slots = [] → exec (.calibrate tag mask) s = .next (answer tag 0x31#8 .badValue [] s)) ∧
    (slots ≠ [] → s.wtb.line = .run ∨ s.wtb.line = .fault →
      exec (.calibrate tag mask) s = .next (answer tag 0x31#8 .wrongState [] s)) ∧
    (slots ≠ [] → s.wtb.line ≠ .run → s.wtb.line ≠ .fault →
      (s.smu.calRun.isSome = true → exec (.calibrate tag mask) s = .next (answer tag 0x31#8 .busy [] s)) ∧
      (s.smu.calRun = none → s.parked = false →
        exec (.calibrate tag mask) s = .next (answer tag 0x31#8 .notParked [] s)) ∧
      (s.smu.calRun = none → s.parked = true → exec (.calibrate tag mask) s = .next (answer tag 0x31#8 .ok []
        { s with smu := { s.smu with calRun := some ⟨slots, slots, [], s.smu.params.whiteTarget⟩ } })))) ∧
  (∀ white sum black : Nat,
    ((sum + 8) / 16 ≤ black → calibrationGain white sum black = none) ∧
    (black < (sum + 8) / 16 → ∃ d, d + black = (sum + 8) / 16 ∧ calibrationGain white sum black =
      some (max 8192 (min 65535 ((2 * white * 32768 + d) / (2 * d)))))) ∧
  (∀ (b : Measurement) (x : Byte) (sent : List Byte) (v : Rgb) (c : CalRun) (rest : List (Fin 6)) (r g bl : Nat) (s : State),
    s.smu.bus = some b → b.user = .cal → b.k = 4 → b.taken = 15 → b.exchange = some ⟨x, sent, some (.good v)⟩ →
    s.smu.calRun = some c → c.todo = b.slot :: rest →
    calibrationGain c.white (b.sums.r + v.r) s.smu.active[b.slot].blackR = some r →
    calibrationGain c.white (b.sums.g + v.g) s.smu.active[b.slot].blackG = some g →
    calibrationGain c.white (b.sums.b + v.b) s.smu.active[b.slot].blackB = some bl →
    let applied : Fin 6 → State → State := fun i u => match u.smu.staged[i] with
      | some f => { u with smu := { u.smu with active := u.smu.active.set i f, staged := u.smu.staged.set i none } }
      | none => u
    (b.bad = false → rest ≠ [] → exec .frameSlotEnd s = .next (applied b.slot { s with smu := { s.smu with
      bus := none, calRun := some { c with todo := rest, passed := c.passed ++ [b.slot] }
      active := s.smu.active.set b.slot { s.smu.active[b.slot] with gainR := r, gainG := g, gainB := bl } } })) ∧
    (b.bad = false → rest = [] → exec .frameSlotEnd s = .next (raise .calDone (slotMask (c.passed ++ [b.slot]))
      (slotMask c.requested) (applied b.slot { s with smu := { s.smu with
        bus := none, calRun := none
        active := s.smu.active.set b.slot { s.smu.active[b.slot] with gainR := r, gainG := g, gainB := bl } } })))) ∧
  (∀ (b : Measurement) (x : Byte) (sent : List Byte) (ans : Option Answer) (c : CalRun) (rest : List (Fin 6)) (s : State),
    s.smu.bus = some b → b.user = .cal → b.k = 4 → b.taken = 15 → b.exchange = some ⟨x, sent, ans⟩ →
    s.smu.calRun = some c → c.todo = b.slot :: rest →
    b.bad = true ∨ ans = none ∨ ans = some .bad ∨ (∃ v, ans = some (.good v) ∧
      (calibrationGain c.white (b.sums.r + v.r) s.smu.active[b.slot].blackR = none ∨
        calibrationGain c.white (b.sums.g + v.g) s.smu.active[b.slot].blackG = none ∨
        calibrationGain c.white (b.sums.b + v.b) s.smu.active[b.slot].blackB = none)) →
    let applied : Fin 6 → State → State := fun i u => match u.smu.staged[i] with
      | some f => { u with smu := { u.smu with active := u.smu.active.set i f, staged := u.smu.staged.set i none } }
      | none => u
    (rest ≠ [] → exec .frameSlotEnd s = .next (applied b.slot { s with smu := { s.smu with
      bus := none, calRun := some { c with todo := rest } } })) ∧
    (rest = [] → exec .frameSlotEnd s = .next (raise .calDone (slotMask c.passed) (slotMask c.requested)
      (applied b.slot { s with smu := { s.smu with bus := none, calRun := none } })))) ∧
  (∀ s : State,
    let applied : Fin 6 → State → State := fun i u => match u.smu.staged[i] with
      | some f => { u with smu := { u.smu with active := u.smu.active.set i f, staged := u.smu.staged.set i none } }
      | none => u
    let out : State := { s with pins := { s.pins with prk := s.wtb.polarity.prk } }
    (s.smu.calRun = none → exec .prkInactive s = .next out) ∧
    (∀ c, s.smu.calRun = some c → s.smu.bus = none → exec .prkInactive s = .next (raise .calDone
      (slotMask c.passed) (slotMask c.requested) { out with smu := { s.smu with calRun := none } })) ∧
    (∀ c b, s.smu.calRun = some c → s.smu.bus = some b → b.user = .cal →
      exec .prkInactive s = .next (raise .calDone (slotMask c.passed) (slotMask c.requested)
        (applied b.slot { out with smu := { s.smu with calRun := none, bus := none } }))))) ∧
  (∀ s : State,
    let applied : Fin 6 → State → State := fun i u => match u.smu.staged[i] with
      | some f => { u with smu := { u.smu with active := u.smu.active.set i f, staged := u.smu.staged.set i none } }
      | none => u
    let parked : State := { s with pins := { s.pins with prk := !s.wtb.polarity.prk } }
    (s.smu.bus = none → exec .prkActive s = .next { parked with smu := { s.smu with scan := none, overrun := none } }) ∧
    (∀ b n pos, s.smu.bus = some b → b.user = .scan n pos →
      exec .prkActive s = .next (applied b.slot
        { parked with smu := { s.smu with scan := none, overrun := none, bus := none } })) ∧
    (∀ b, s.smu.bus = some b → b.user = .cal →
      exec .prkActive s = .next { parked with smu := { s.smu with scan := none, overrun := none } }) ∧
    (∀ b c, s.smu.bus = some b → b.user = .spot c →
      ∃ w, w = applied c.slot (offerResult ⟨c.tag, c.source, c.slot, c.serves, .abandoned, none, none⟩
          { parked with smu := { s.smu with scan := none, overrun := none, bus := none } }) ∧
        exec .prkActive s = .next (s.smu.heldStops.foldl
          (fun u h => pushReply ⟨.spotStop, h.tag, 0x2D#8, .ok, le1 h.removed, false⟩ u)
          { w with smu := { w.smu with heldStops := [] } })))

/-! ### The Roll and Knife Unit -/

/-- LANE SET writes a lane's fields whole: a roll target below 2 N that changes while a track runs is BAD-VALUE, a
change of the enable or the cut offset outside IDLE and THREAD WRONG-STATE, and clearing the enable of a lane with
an open roll BUSY; a lane whose enable clears goes OFF. CUT in RUN and HOLD sets FORCED, and in WINDING the force
flag; INDEXING is BUSY and OFF and LEADER are WRONG-STATE. That a repeated roll target or cut offset is not
refused is the model's reading (log 20). -/
def Obligations.LanesAreSetAndCut : Prop :=
  (∀ (tag : Byte) (l : Lane) (f : LaneFields) (p : LaneParams) (s : State), f.resolve s.tku.params.n (s.lane l).params.cutOffset = some p →
    (s.running = true → p.target ≠ (s.lane l).params.target → p.target < 2 * s.tku.params.n →
      exec (.laneSet tag (some l) f) s = .next (answer tag 0x38#8 .badValue [] s)) ∧
    (s.running = false ∨ p.target = (s.lane l).params.target ∨ 2 * s.tku.params.n ≤ p.target →
      (p.enabled ≠ (s.lane l).params.enabled ∨ p.cutOffset ≠ (s.lane l).params.cutOffset → s.wtb.line ≠ .idle →
        s.wtb.line ≠ .thread →
        exec (.laneSet tag (some l) f) s = .next (answer tag 0x38#8 .wrongState [] s)) ∧
      ((p.enabled = (s.lane l).params.enabled ∧ p.cutOffset = (s.lane l).params.cutOffset) ∨ s.wtb.line = .idle ∨
          s.wtb.line = .thread →
        ((s.lane l).params.enabled = true → p.enabled = false → (s.lane l).roll.isSome = true →
          exec (.laneSet tag (some l) f) s = .next (answer tag 0x38#8 .busy [] s)) ∧
        ((s.lane l).params.enabled = true → p.enabled = false → (s.lane l).roll = none →
          exec (.laneSet tag (some l) f) s = .next (answer tag 0x38#8 .ok []
            (s.onLane l (fun k => { k with params := p, state := .off, turret := none })))) ∧
        ((s.lane l).params.enabled = false ∨ p.enabled = true →
          exec (.laneSet tag (some l) f) s = .next (answer tag 0x38#8 .ok []
            (s.onLane l (fun k => { k with params := p }))))))) ∧
  (∀ (tag : Byte) (l : Coded Lane) (f : LaneFields) (s : State),
    l = none ∨ (∃ x, l = some x ∧ f.resolve s.tku.params.n (s.lane x).params.cutOffset = none) →
    exec (.laneSet tag l f) s = .next (answer tag 0x38#8 .badValue [] s)) ∧
  (∀ (tag : Byte) (s : State), exec (.cut tag none) s = .next (answer tag 0x39#8 .badValue [] s)) ∧
  (∀ (tag : Byte) (l : Lane) (s : State),
    let forced : State → State := fun t => t.onLane l (fun k => { k with
      roll := k.roll.map (fun r => { r with flags := { r.flags with forced := true } }) })
    (s.running = false ∨ (s.lane l).state = .off ∨ (s.lane l).state = .leader →
      exec (.cut tag (some l)) s = .next (answer tag 0x39#8 .wrongState [] s)) ∧
    (s.running = true → (s.lane l).state = .indexing →
      exec (.cut tag (some l)) s = .next (answer tag 0x39#8 .busy [] s)) ∧
    (s.running = true → (s.lane l).state = .winding → exec (.cut tag (some l)) s =
      .next (answer tag 0x39#8 .ok [] ((forced s).onLane l (fun k => { k with force := true })))) ∧
    (s.running = true → (s.lane l).state = .armed → exec (.cut tag (some l)) s =
      .next (answer tag 0x39#8 .ok [] (forced s))))

/-- A record counted into an open roll: every count it names saturates at 65,535, the defect repeat count rises
once for any of the lane's own defects, and OK shade values of the lane's own slots join the sums until the repeat
count is full. The record gets the roll's mark. The lane's action at a knife crossing. With the lead ceil(v *
knife lead / 1000): LEADER without a cut arms the leader cut for the next record; WINDING counts the record, and
arms at the next record's reference where the length there reaches the roll target or the force flag is set;
without a next record, or below the target, it only counts. A cut not yet attempted is attempted at its cut
record's crossing, before the record is counted; one that waits there is re-armed for the next record after it
(with none it waits on: log 29). A cut armed with its fire position already passed is attempted at once, and in
ARMED gets CUT-LATE. INDEXING counts; OFF does nothing. A record that carries SPLICE then raises SPLICE-AT-KNIFE.
That a reference is the record's fixed crossing position is the model's reading (log 24), and so is that a leader
cut that fires at its cut record's crossing takes that record (log 14). -/
def Obligations.KnifeCrossingsCountAndArm : Prop :=
  (∀ (l : Lane) (r : RepeatRecord) (o : OpenRoll) (s : State), (s.lane l).roll = some o →
    ∃ o' : OpenRoll, countRecord l r s = { s.onLane l (fun k => { k with roll := some o' }) with
        tku := { s.tku with track := s.tku.track.map (fun x => if x.number = r.number then
          (match l with | .a => { x with markA := some o.number } | .b => { x with markB := some o.number })
          else x) } } ∧
      o'.number = o.number ∧ o'.opening = o.opening ∧ o'.deferrals = o.deferrals ∧ o'.lastRef = r.at_.get (.knife l) ∧
      o'.flags = { o.flags with splice := o.flags.splice || r.splice } ∧
      o'.counts.startRepeat = some (o.counts.startRepeat.getD r.number) ∧ o'.counts.endRepeat = some r.number ∧
      o'.counts.repeats = min 65535 (o.counts.repeats + 1) ∧
      (∀ shade : Bool, shade = (match l with | .a => r.defects.shadeA | .b => r.defects.shadeB) →
        o'.counts.register = (if r.defects.register then min 65535 (o.counts.register + 1) else o.counts.register) ∧
        o'.counts.emboss = (if r.defects.emboss then min 65535 (o.counts.emboss + 1) else o.counts.emboss) ∧
        o'.counts.shade = (if shade then min 65535 (o.counts.shade + 1) else o.counts.shade) ∧
        o'.counts.splice = (if r.defects.splice then min 65535 (o.counts.splice + 1) else o.counts.splice) ∧
        o'.counts.coasted = (if r.coasted then min 65535 (o.counts.coasted + 1) else o.counts.coasted) ∧
        o'.counts.defectRepeats = (if r.defects.register ∨ r.defects.emboss ∨ r.defects.splice ∨ shade then
          min 65535 (o.counts.defectRepeats + 1) else o.counts.defectRepeats)) ∧
      (65535 ≤ o.counts.repeats → o'.counts.sums = o.counts.sums ∧ o'.counts.samples = o.counts.samples) ∧
      (∀ vs, o.counts.repeats < 65535 →
        vs = (r.shade.getD []).filterMap (fun e => match e.reading with
          | .ok v => if (e.slot.val < 3 ↔ l = .a) then some v else none
          | .excursion _ | .invalid => none) →
        o'.counts.samples = o.counts.samples + vs.length ∧
        o'.counts.sums = ⟨o.counts.sums.r + (vs.map (·.r)).sum, o.counts.sums.g + (vs.map (·.g)).sum,
          o.counts.sums.b + (vs.map (·.b)).sum⟩)) ∧
  (∀ (l : Lane) (r : RepeatRecord) (winder : Bool) (s : State),
    let late : OpenRoll → OpenRoll := fun o => { o with flags := { o.flags with cutLate := true } }
    let cutFor : RepeatRecord → ArmedCut := fun q => ⟨q.number, q.at_.get (.knife l), q.at_.get (.knife l) -
      BitVec.ofNat 32 ((s.wtb.v * (s.lane l).params.knifeLead + 999) / 1000), false⟩
    let passed : RepeatRecord → Prop := fun q => 0 ≤ (s.wtb.wp - (cutFor q).fire).toInt
    let next : Option RepeatRecord := s.tku.track.find? (fun q => r.number < q.number)
    (r.splice = false → knifeCrossing l r winder s = laneCrossing l r winder s) ∧
    (r.splice = true → knifeCrossing l r winder s =
      raise .spliceAtKnife (match l with | .a => 1 | .b => 2) r.number (laneCrossing l r winder s)) ∧
    ((s.lane l).state = .off → laneCrossing l r winder s = s) ∧
    ((s.lane l).state = .indexing → laneCrossing l r winder s = countRecord l r s) ∧
    (next = none →
      ((s.lane l).state = .leader → (s.lane l).cut = none → laneCrossing l r winder s = s) ∧
      ((s.lane l).state = .winding → laneCrossing l r winder s = countRecord l r s)) ∧
    (∀ q : RepeatRecord, next = some q →
      ((s.lane l).state = .leader → (s.lane l).cut = none →
        (¬ passed q → laneCrossing l r winder s = s.onLane l (fun k => { k with cut := some (cutFor q) })) ∧
        (passed q → laneCrossing l r winder s =
          attemptCut l winder (s.onLane l (fun k => { k with cut := some (cutFor q) })))) ∧
      (∀ o, (s.lane l).state = .winding → (s.lane l).roll = some o →
        ((s.lane l).params.target ≤ ((cutFor q).reference - o.opening).toInt ∨ (s.lane l).force = true →
          (¬ passed q → laneCrossing l r winder s = (countRecord l r s).onLane l (fun k => { k with
            state := .armed, force := false, cut := some (cutFor q) })) ∧
          (passed q → laneCrossing l r winder s = attemptCut l winder ((countRecord l r s).onLane l (fun k =>
            { k with
              state := .armed, force := false, cut := some (cutFor q), roll := k.roll.map late })))) ∧
        (((cutFor q).reference - o.opening).toInt < (s.lane l).params.target → (s.lane l).force = false →
          laneCrossing l r winder s = countRecord l r s))) ∧
    (∀ c, (s.lane l).cut = some c → c.record ≠ r.number →
      ((s.lane l).state = .leader → laneCrossing l r winder s = s) ∧
      ((s.lane l).state = .armed → laneCrossing l r winder s = countRecord l r s)) ∧
    (∀ c, (s.lane l).cut = some c → c.record = r.number → c.waiting = false → s.winderReady l winder = true →
      (s.lane l).state = .leader ∨ (s.lane l).state = .armed →
      laneCrossing l r winder s = countRecord l r (attemptCut l winder s)) ∧
    (∀ (c : ArmedCut) (u : State), (s.lane l).cut = some c → c.record = r.number →
      (s.lane l).state = .leader ∨ ((s.lane l).state = .armed ∧ (s.lane l).roll.isSome = true) →
      (c.waiting = true → u = s) →
      (c.waiting = false → s.winderReady l winder = false ∧ u = attemptCut l winder s) →
      let counted : State := if (s.lane l).state = .armed then countRecord l r u else u
      (next = none → laneCrossing l r winder s = counted.onLane l (fun k => { k with
        cut := some { c with record := nextRepeatAfter r.number, waiting := true } })) ∧
      (∀ q, next = some q →
        (¬ passed q →
          laneCrossing l r winder s = counted.onLane l (fun k => { k with cut := some (cutFor q) })) ∧
        (passed q → laneCrossing l r winder s = attemptCut l winder (counted.onLane l (fun k => { k with
          cut := some (cutFor q), roll := if (s.lane l).state = .armed then k.roll.map late else k.roll }))))))

/-- FIRE_POSITION at a new-web advance at or past the fire position of a cut not yet attempted. With the winder
ready the knife fires: the lane enters INDEXING with its turret timer started and a new roll open at the
reference, CUT-DONE is raised with the lane and the roll that closes (0 for none), and that roll is finalised
there with its length. With the winder not ready the cut waits for its cut record and CUT-DEFERRED is raised with
the roll (0 for a leader cut), a roll cut counting a deferral that past the max deferrals sets OVERLENGTH and
raises CUT-MISSED, also at the first deferral after max deferrals has been set below the count (log 33). Otherwise
nothing happens. TURRET_DONE's edge ends INDEXING in WINDING and stops the timer, and in LEADER stops the timer;
TURRET_TIMEOUT of a running timer there stops it and latches WINDER, with FAULT from THREAD, RUN and HOLD; a
FIRE_POSITION with no cut armed does nothing. The levels read come with the commands (log 4), and the pulse count
is the model's own (log 22). -/
def Obligations.CutsFireAndTurretsTurn : Prop :=
  (∀ (l : Lane) (winder : Bool) (c : ArmedCut) (s : State), (s.lane l).cut = some c →
    (s.wtb.newWeb = false ∨ s.running = false ∨ c.waiting = true ∨ (s.wtb.wp - c.fire).toInt < 0 →
      exec (.firePosition l winder) s = .next s) ∧
    (s.wtb.newWeb = true → s.running = true → c.waiting = false → 0 ≤ (s.wtb.wp - c.fire).toInt →
      exec (.firePosition l winder) s = .next (attemptCut l winder s) ∧
      (s.winderReady l winder = true → ∃ t, exec (.firePosition l winder) s = .next t ∧
        (t.lane l).state = .indexing ∧ (t.lane l).cut = none ∧ (t.lane l).params = (s.lane l).params ∧
        (t.lane l).turret = some (s.lane l).params.turretTimeout ∧ (t.lane l).pulses = (s.lane l).pulses + 1 ∧
        (t.lane l).roll = some ⟨s.rku.nextRoll, c.reference, c.reference,
          ⟨none, none, 0, 0, 0, 0, 0, 0, 0, ⟨0, 0, 0⟩, 0⟩, ⟨false, false, false, false, false⟩, 0⟩ ∧
        t.rku.nextRoll = (if s.rku.nextRoll < 65535 then s.rku.nextRoll + 1 else 1) ∧ t.tku = s.tku ∧
        t.rlu = s.rlu ∧
        ((s.lane l).roll = none → t.rku.history = s.rku.history ∧ t.btu.batches = s.btu.batches ∧ t.lbp = s.lbp) ∧
        (∀ r, (s.lane l).roll = some r → ∃ h ∈ t.rku.history, h.number = r.number ∧ h.lane = l ∧
          h.length = (c.reference - r.opening).toInt ∧ h.counts = r.counts ∧ h.flags = r.flags)) ∧
      (s.winderReady l winder = false → (s.lane l).state = .leader → ∃ t, exec (.firePosition l winder) s = .next t ∧
        t.lane l = { s.lane l with cut := some { c with waiting := true } } ∧ t.rku.history = s.rku.history ∧
        t.tku = s.tku) ∧
      (∀ r, s.winderReady l winder = false → (s.lane l).state = .armed → (s.lane l).roll = some r →
        ∃ (t : State) (o : OpenRoll), exec (.firePosition l winder) s = .next t ∧ (t.lane l).state = .armed ∧
          (t.lane l).cut = some { c with waiting := true } ∧ (t.lane l).pulses = (s.lane l).pulses ∧
          (t.lane l).roll = some o ∧ o.number = r.number ∧ o.opening = r.opening ∧ o.counts = r.counts ∧
          o.deferrals = min 255 (r.deferrals + 1) ∧
          (o.flags.overlength = true ↔ r.flags.overlength = true ∨
            (s.lane l).params.maxDeferrals < min 255 (r.deferrals + 1)) ∧
          t.rku.history = s.rku.history ∧ t.tku = s.tku) ∧
      (let code := (match l with | .a => 1 | .b => 2)
      (s.winderReady l winder = true → ∃ u,
        u = raise .cutDone code (((s.lane l).roll.map (·.number)).getD 0)
          (({ s with rku := { s.rku with
            nextRoll := if s.rku.nextRoll < 65535 then s.rku.nextRoll + 1 else 1
            wrapped := s.rku.wrapped || decide (65535 ≤ s.rku.nextRoll) } }).onLane l (fun k => { k with
              pulses := k.pulses + 1, turret := some k.params.turretTimeout, cut := none, state := .indexing
              roll := some ⟨s.rku.nextRoll, c.reference, c.reference,
                ⟨none, none, 0, 0, 0, 0, 0, 0, 0, ⟨0, 0, 0⟩, 0⟩, ⟨false, false, false, false, false⟩, 0⟩ })) ∧
        ((s.lane l).roll = none → exec (.firePosition l winder) s = .next u) ∧
        (∀ r, (s.lane l).roll = some r →
          exec (.firePosition l winder) s = .next (finalise .byCut l r c.reference u))) ∧
      (s.winderReady l winder = false → (s.lane l).state ≠ .armed ∨ (s.lane l).roll = none →
        exec (.firePosition l winder) s = .next (raise .cutDeferred code 0
          (s.onLane l (fun k => { k with cut := some { c with waiting := true } })))) ∧
      (∀ r, s.winderReady l winder = false → (s.lane l).state = .armed → (s.lane l).roll = some r →
        ∃ (d : Nat) (v : State), d = min 255 (r.deferrals + 1) ∧
          v = raise .cutDeferred code r.number (s.onLane l (fun k => { k with
            cut := some { c with waiting := true }, roll := some { r with deferrals := d } })) ∧
          ((s.lane l).params.maxDeferrals < d → r.flags.overlength = false →
            exec (.firePosition l winder) s = .next (raise .cutMissed code r.number (v.onLane l (fun k => { k with
              roll := k.roll.map (fun o => { o with flags := { o.flags with overlength := true } }) })))) ∧
          (d ≤ (s.lane l).params.maxDeferrals ∨ r.flags.overlength = true →
            exec (.firePosition l winder) s = .next v))))) ∧
  (∀ (l : Lane) (s : State),
    (∀ e edge : Bool, edge = (e != (match l with | .a => s.wtb.polarity.tda | .b => s.wtb.polarity.tdb)) →
      (edge = true → (s.lane l).state = .indexing → exec (.turretDone l e) s =
        .next (s.onLane l (fun k => { k with state := .winding, turret := none }))) ∧
      (edge = true → (s.lane l).state = .leader → exec (.turretDone l e) s =
        .next (s.onLane l (fun k => { k with turret := none }))) ∧
      (edge = false ∨ ((s.lane l).state ≠ .indexing ∧ (s.lane l).state ≠ .leader) →
        exec (.turretDone l e) s = .next s)) ∧
    ((s.lane l).turret.isSome = true → (s.lane l).state = .indexing ∨ (s.lane l).state = .leader →
      (s.wtb.latched.winder = true → exec (.turretTimeout l) s =
        .next (s.onLane l (fun k => { k with turret := none }))) ∧
      (s.wtb.latched.winder = false → ∃ t, exec (.turretTimeout l) s = .next t ∧
        t.wtb.latched.winder = true ∧ (t.lane l).turret = none ∧ (t.lane l).state = (s.lane l).state ∧
        (s.wtb.line = .thread ∨ s.wtb.line = .run ∨ s.wtb.line = .hold → t.wtb.line = .fault) ∧
        (s.wtb.line = .idle ∨ s.wtb.line = .fault → t.wtb.line = s.wtb.line))) ∧
    ((s.lane l).turret = none ∨ ((s.lane l).state ≠ .indexing ∧ (s.lane l).state ≠ .leader) →
      exec (.turretTimeout l) s = .next s) ∧
    (∀ winder, (s.lane l).cut = none → exec (.firePosition l winder) s = .next s))

/-- The shade mean of a roll, and its disposition before the batch table: the first that applies of PARTIAL at JOB
END, REJECT-SHORT, REJECT-DEFECT, HOLD-GAP and HOLD-UNSHADED, and else a good candidate with its mean. A length
below the minimum is REJECT-SHORT also where it is negative and the minimum 0 (log 42). Finalising a roll: its
disposition is decided, a good candidate's by the batch table, GOOD with its code and distance or else
HOLD-UNBATCHED; its record enters the history, the oldest of 64 leaving and the label jobs built from that one
losing their link; ROLL-DONE is raised; and where labelling of the lane is enabled its job is offered to the
lane's list, QUEUED or, of a full list, NOT-QUEUED with LABEL-QUEUE-FULL, an idle printer taking it at once. -/
def Obligations.RollsAreJudged : Prop :=
  ((∀ c : RollCounts, 0 < c.samples → ∃ m : Rgb, c.mean = some m ∧
    m.r = (c.sums.r + c.samples / 2) / c.samples ∧ m.g = (c.sums.g + c.samples / 2) / c.samples ∧
    m.b = (c.sums.b + c.samples / 2) / c.samples ∧
    (2 * c.sums.r < (2 * m.r + 1) * c.samples ∧ 2 * m.r * c.samples ≤ 2 * c.sums.r + c.samples) ∧
    (c.sums.r ≤ 4095 * c.samples → m.r ≤ 4095) ∧ (c.sums.g ≤ 4095 * c.samples → m.g ≤ 4095) ∧
    (c.sums.b ≤ 4095 * c.samples → m.b ≤ 4095) ∧ (c.samples = 19 → c.sums.r = 41217 → m.r = 2169)) ∧
  (∀ (p : LaneParams) (r : OpenRoll) (len : Int),
    verdict .byJobEnd p r len = .decided .partialRoll ∧
    (len < p.minLength → verdict .byCut p r len = .decided .rejectShort) ∧
    (p.minLength ≤ len → p.defectLimit < r.counts.defectRepeats →
      verdict .byCut p r len = .decided .rejectDefect) ∧
    (p.minLength ≤ len → r.counts.defectRepeats ≤ p.defectLimit →
      (r.flags.trackGap = true → verdict .byCut p r len = .decided .holdGap) ∧
      (r.flags.trackGap = false → r.counts.samples = 0 → verdict .byCut p r len = .decided .holdUnshaded) ∧
      (∀ m, r.flags.trackGap = false → r.counts.mean = some m → verdict .byCut p r len = .candidate m)))) ∧
  (∀ (how : Closing) (l : Lane) (r : OpenRoll) (closing : Pos) (len : Int) (s u : State) (d : Disposition)
    (ans : Option (BatchCode × Nat)), len = (closing - r.opening).toInt →
    (verdict how (s.lane l).params r len = .decided d ∧ u = s ∧ ans = none) ∨
      (∃ m, verdict how (s.lane l).params r len = .candidate m ∧ u = (takeCandidate ⟨r.number, l, len, m⟩ s).state ∧
        ans = (takeCandidate ⟨r.number, l, len, m⟩ s).answer ∧
        d = if ans.isSome = true then .good else .holdUnbatched) →
    let lane : Nat := match l with | .a => 1 | .b => 2
    let labelled : Bool := match l with | .a => s.lbp.params.enabledA | .b => s.lbp.params.enabledB
    let labelIs : LabelState → State → State := fun st t => { t with rku := { t.rku with
      history := t.rku.history.map (fun x => if x.number = r.number then { x with label := st } else x) } }
    ∃ (x : RollRecord) (w : State) (j : LabelJob),
      x = ⟨r.number, l, r.counts, len, r.flags, r.counts.mean, ans.map (·.1), ans.map (·.2), d,
        if labelled then .none else .off⟩ ∧
      j = buildJob s.lbp.params x ∧
      (u.rku.history.length < 64 → w = raise .rollDone lane r.number
        { u with rku := { u.rku with history := u.rku.history ++ [x] } }) ∧
      (∀ old rest, 64 ≤ u.rku.history.length → u.rku.history = old :: rest → w = raise .rollDone lane r.number
        { u with
          rku := { u.rku with history := rest ++ [x] }
          lbp := u.lbp.unlink (fun k => k.roll == old.number) }) ∧
      (labelled = false → finalise how l r closing s = w) ∧
      (labelled = true →
        (4 ≤ (w.lbp.list l).length →
          finalise how l r closing s = raise .labelQueueFull lane r.number (labelIs .notQueued w)) ∧
        ((w.lbp.list l).length < 4 → w.lbp.inFlight.isSome = true → finalise how l r closing s =
          { labelIs .queued w with lbp := match l with
            | .a => { w.lbp with listA := w.lbp.listA ++ [j] }
            | .b => { w.lbp with listB := w.lbp.listB ++ [j] } }) ∧
        (w.lbp.inFlight = none → w.lbp.listA = [] → w.lbp.listB = [] → finalise how l r closing s =
          { labelIs .printing w with lbp := { w.lbp with
            inFlight := some ⟨j, 1⟩, exchange := w.lbp.exchange + 1, lastGranted := l, timer := none
            printing := some (printFrame (w.lbp.exchange + 1) j) } })))

/-- ROLL SEEK and ROLL READ: the cursor's moves by the tables of R144 and R145, the records from the cursor on,
and END behind the newest. That ROLL READ's BAD-VALUE carries the status alone is the model's reading (log 28).
The records of the replies have the sizes their layouts give: a repeat record 26 bytes and 4 more for each
register entry and 8 for each shade entry, a roll record 61, a batch entry 30. -/
def Obligations.RollHistoryIsRead : Prop :=
  (∀ (tag : Byte) (s : State), ∃ (put : Option Nat → State) (bytes : Option Nat → List Byte) (oldest newest : Option Nat),
    (∀ c, put c = { s with rku := { s.rku with readCursor := c } }) ∧
    (∀ n, bytes (some n) = 0x00#8 :: le2 n) ∧ bytes none = [0x01#8, 0x00#8, 0x00#8] ∧
    oldest = s.rku.history.head?.map (·.number) ∧ newest = s.rku.history.getLast?.map (·.number) ∧
    exec (.rollSeek tag (some .oldest)) s = .next (answer tag 0x3A#8 .ok (bytes oldest) (put oldest)) ∧
    exec (.rollSeek tag (some .newest)) s = .next (answer tag 0x3A#8 .ok (bytes newest) (put newest)) ∧
    exec (.rollSeek tag none) s = .next (answer tag 0x3A#8 .badValue (bytes s.rku.readCursor) s) ∧
    exec (.rollSeek tag (some (.number 0))) s = .next (answer tag 0x3A#8 .badValue (bytes s.rku.readCursor) s) ∧
    (∀ n, 1 ≤ n → n ≤ 65535 →
      ((∃ r ∈ s.rku.history, r.number = n) →
        exec (.rollSeek tag (some (.number n))) s = .next (answer tag 0x3A#8 .ok (bytes (some n)) (put (some n)))) ∧
      ((∀ r ∈ s.rku.history, r.number ≠ n) →
        ((∃ l o, (s.lane l).roll = some o ∧ o.number = n) ∨ (s.rku.wrapped = false ∧ s.rku.nextRoll ≤ n) →
          exec (.rollSeek tag (some (.number n))) s =
            .next (answer tag 0x3A#8 .notFound (bytes s.rku.readCursor) s)) ∧
        ((∀ l o, (s.lane l).roll = some o → o.number ≠ n) → s.rku.wrapped = true ∨ n < s.rku.nextRoll →
          exec (.rollSeek tag (some (.number n))) s = .next (answer tag 0x3A#8 .gone (bytes oldest) (put oldest))))) ∧
    (∀ n, n = 0 ∨ 4 < n → exec (.rollRead tag n) s = .next (answer tag 0x3B#8 .badValue [] s)) ∧
    (∀ n, 1 ≤ n → n ≤ 4 →
      (s.rku.readCursor = none → exec (.rollRead tag n) s = .next (answer tag 0x3B#8 .ok (le1 0 ++ le2 0) s)) ∧
      (∀ c, s.rku.readCursor = some c → (∀ r ∈ s.rku.history, r.number ≠ c) →
        exec (.rollRead tag n) s = .next (answer tag 0x3B#8 .gone (le1 0 ++ le2 (oldest.getD 0)) (put oldest))) ∧
      (∀ before r after, s.rku.history = before ++ r :: after → s.rku.readCursor = some r.number →
        (∀ x ∈ before, x.number ≠ r.number) →
        exec (.rollRead tag n) s = .next (answer tag 0x3B#8 .ok
          (le1 (min n (after.length + 1)) ++ le2 ((((r :: after).drop n).head?.map (·.number)).getD 0) ++
            ((r :: after).take n).flatMap RollRecord.bytes)
          (put (((r :: after).drop n).head?.map (·.number))))))) ∧
  ((∀ r : RepeatRecord, r.bytes.length = 26 + 4 * r.regs.length + 8 * (r.shade.getD []).length) ∧
  (∀ r : RollRecord, (∀ c, r.code = some c → c.length = 5) → r.bytes.length = 61) ∧
  (∀ b : Batch, b.code.length = 5 → b.bytes.length = 30))

/-! ### The Batch Table Unit -/

/-- BATCH SET, BATCH LIST, BATCH CLOSE and BATCH BREAK. The tolerance and the weights change only while no batch
is open; the closed batch leaves the table with BATCH-CLOSED before the reply that carries its roll count and
length. That the mark byte of BATCH BREAK and the break-pending byte of BATCH LIST are 1 for set is the model's
choice (log 11). -/
def Obligations.BatchRequestsAreTaken : Prop :=
  (∀ (tag : Byte) (f : BatchFields) (p : BatchParams) (s : State), f.resolve = some p →
    ((p.tol = s.btu.params.tol ∧ p.wR = s.btu.params.wR ∧ p.wG = s.btu.params.wG ∧ p.wB = s.btu.params.wB) ∨
        s.btu.batches = [] →
      exec (.batchSet tag f) s = .next (answer tag 0x40#8 .ok [] { s with btu := { s.btu with params := p } })) ∧
    (p.tol ≠ s.btu.params.tol ∨ p.wR ≠ s.btu.params.wR ∨ p.wG ≠ s.btu.params.wG ∨ p.wB ≠ s.btu.params.wB →
      s.btu.batches ≠ [] → exec (.batchSet tag f) s = .next (answer tag 0x40#8 .full (le1 1) s))) ∧
  (∀ (tag : Byte) (f : BatchFields) (s : State), f.resolve = none →
    exec (.batchSet tag f) s = .next (answer tag 0x40#8 .badValue [] s)) ∧
  (∀ (tag : Byte) (s : State), exec (.batchList tag) s = .next (answer tag 0x41#8 .ok
    (le1 s.btu.batches.length ++ s.btu.batches.flatMap (fun b => b.code ++ le2 b.sequence ++ le2 b.reference.r ++
      le2 b.reference.g ++ le2 b.reference.b ++ le2 b.rolls ++ le8 b.totalLength.toNat ++ le2 b.lastRoll ++
      le4 b.lastTake.toNat ++ le1 ((if b.seenA then 1 else 0) + (if b.seenB then 2 else 0))) ++
      le2 s.btu.sequence ++ le1 (if s.btu.breakPending then 1 else 0) ++ le4 s.btu.takes.toNat ++
      le1 (match s.btu.params.mode with | .nearest => 0 | .currentOnly => 1)) s)) ∧
  (∀ (tag : Byte) (code : List Byte) (s : State),
    (isBatchCode code = false → exec (.batchClose tag code) s = .next (answer tag 0x42#8 .badValue [] s)) ∧
    (isBatchCode code = true → (∀ b ∈ s.btu.batches, b.code ≠ code) →
      exec (.batchClose tag code) s = .next (answer tag 0x42#8 .notFound [] s)) ∧
    (∀ before b after, isBatchCode code = true → s.btu.batches = before ++ b :: after → b.code = code →
      (∀ x ∈ before, x.code ≠ code ∧ x.sequence ≠ b.sequence) → (∀ x ∈ after, x.sequence ≠ b.sequence) →
      exec (.batchClose tag code) s = .next (answer tag 0x42#8 .ok (le2 b.rolls ++ le8 b.totalLength.toNat)
        (raise .batchClosed 1 b.sequence { s with btu := { s.btu with batches := before ++ after } })))) ∧
  (∀ code, isBatchCode code = true ↔ ∃ a b x y z : Byte, code = [a, b, x, y, z] ∧
    0x41 ≤ a.toNat ∧ a.toNat ≤ 0x5A ∧ 0x41 ≤ b.toNat ∧ b.toNat ≤ 0x5A ∧ 0x30 ≤ x.toNat ∧ x.toNat ≤ 0x39 ∧
    0x30 ≤ y.toNat ∧ y.toNat ≤ 0x39 ∧ 0x30 ≤ z.toNat ∧ z.toNat ≤ 0x39) ∧
  (∀ (tag : Byte) (s : State),
    (s.wtb.line = .idle → exec (.batchBreak tag) s = .next (answer tag 0x43#8 .wrongState [] s)) ∧
    (s.wtb.line ≠ .idle → exec (.batchBreak tag) s = .next (answer tag 0x43#8 .ok
      (le1 (if s.btu.breakPending then 1 else 0)) { s with btu := { s.btu with breakPending := true } })))

/-- A good candidate is taken: the take count rises, a pending break opens a batch, and else it joins the nearest
batch compared whose weighted squared distance is at most 16 * T^2, the older of equals, or opens one. A join
writes the entry and answers its code and floor(sqrt(D2 / 16)); an opened batch has the next sequence, the mean as
reference and BATCH-OPENED, a full table first displacing the batch used longest ago. A batch whose own rolls then
reach the rolls per batch, whatever the other batches hold, closes FULL: the joined one, or one opened with rolls
per batch 1, behind its BATCH-OPENED. -/
def Obligations.CandidatesFindBatches : Prop :=
  (∀ (p : BatchParams) (x r : Rgb), (distance2 p x r : Int) = p.wR * ((x.r : Int) - r.r) ^ 2 +
    p.wG * ((x.g : Int) - r.g) ^ 2 + p.wB * ((x.b : Int) - r.b) ^ 2) ∧
  (∀ d2, d2 < 4294967296 → 16 * reportedDistance d2 ^ 2 ≤ d2 ∧ d2 < 16 * (reportedDistance d2 + 1) ^ 2) ∧
  (∀ (t : Btu) (mean : Rgb),
    let near : Batch → Prop := fun b => distance2 t.params mean b.reference ≤ 16 * t.params.tol ^ 2 ∧
      (t.params.mode = .currentOnly → b.sequence + 1 = t.sequence)
    (t.nearest mean = none ↔ ∀ b ∈ t.batches, ¬ near b) ∧
    (∀ b, t.batches.Pairwise (fun a b => a.sequence < b.sequence) → t.nearest mean = some b →
      b ∈ t.batches ∧ near b ∧ ∀ c ∈ t.batches, near c →
        distance2 t.params mean b.reference < distance2 t.params mean c.reference ∨
        (distance2 t.params mean b.reference = distance2 t.params mean c.reference ∧ b.sequence ≤ c.sequence))) ∧
  (∀ (c : Candidate) (b : Batch) (s : State), s.btu.breakPending = false → s.btu.nearest c.mean = some b →
    ∃ t, t = { s with btu := { s.btu with
        takes := s.btu.takes + 1
        batches := s.btu.batches.map (fun x => if x.sequence = b.sequence then { x with
          rolls := x.rolls + 1, totalLength := x.totalLength + BitVec.ofInt 64 c.length, lastRoll := c.roll
          lastTake := s.btu.takes + 1, seenA := x.seenA || decide (c.lane = .a)
          seenB := x.seenB || decide (c.lane = .b) } else x) } } ∧
      (takeCandidate c s).answer = some (b.code, reportedDistance (distance2 s.btu.params c.mean b.reference)) ∧
      ((∀ x ∈ s.btu.batches, x.sequence = b.sequence → x.rolls + 1 < s.btu.params.rollsPerBatch) →
        (takeCandidate c s).state = t) ∧
      ((∀ x ∈ s.btu.batches, x.sequence = b.sequence → s.btu.params.rollsPerBatch ≤ x.rolls + 1) →
        (takeCandidate c s).state = raise .batchClosed 2 b.sequence { t with btu := { t.btu with
          batches := t.btu.batches.filter (fun x => x.sequence != b.sequence) } })) ∧
  (∀ (c : Candidate) (s : State), s.btu.breakPending = true ∨ s.btu.nearest c.mean = none →
    (999 < s.btu.sequence → (takeCandidate c s).answer = none ∧
      (takeCandidate c s).state = { s with btu := { s.btu with takes := s.btu.takes + 1 } }) ∧
    (s.btu.sequence ≤ 999 → ∃ e : Batch,
      e = ⟨[s.btu.params.char1, s.btu.params.char2, BitVec.ofNat 8 (48 + s.btu.sequence / 100),
        BitVec.ofNat 8 (48 + s.btu.sequence / 10 % 10), BitVec.ofNat 8 (48 + s.btu.sequence % 10)], s.btu.sequence,
        c.mean, 1, BitVec.ofInt 64 c.length, c.roll, s.btu.takes + 1, decide (c.lane = .a), decide (c.lane = .b)⟩ ∧
      (takeCandidate c s).answer = some (e.code, 0) ∧
      (∀ roomy opened : State, (∀ x ∈ s.btu.batches, x.sequence ≠ s.btu.sequence) →
        (s.btu.batches.length < 16 → roomy = { s with btu := { s.btu with takes := s.btu.takes + 1 } }) →
        (16 ≤ s.btu.batches.length → ∃ old ∈ s.btu.batches,
          (∀ x ∈ s.btu.batches, x ≠ old → old.lastTake.toNat < x.lastTake.toNat) ∧
          roomy = raise .batchClosed 3 old.sequence { s with btu := { s.btu with
            takes := s.btu.takes + 1
            batches := s.btu.batches.filter (fun x => x.sequence != old.sequence) } }) →
        opened = raise .batchOpened (match c.lane with | .a => 1 | .b => 2) s.btu.sequence
          { roomy with btu := { roomy.btu with
            batches := roomy.btu.batches ++ [e], sequence := s.btu.sequence + 1, breakPending := false } } →
        (1 < s.btu.params.rollsPerBatch → (takeCandidate c s).state = opened) ∧
        (s.btu.params.rollsPerBatch ≤ 1 → (takeCandidate c s).state = raise .batchClosed 2 s.btu.sequence
          { opened with btu := { opened.btu with
            batches := opened.btu.batches.filter (fun x => x.sequence != s.btu.sequence) } }))))

/-! ### The Label Port -/

/-- LABEL SET, LABEL REPRINT and LABEL DISCARD. A reprint's job, built from the history record, joins its lane's
list of fewer than four as QUEUED, and on an idle link with empty lists is granted at once: PRINT goes out under
the next exchange number and the record is PRINTING. A discard takes every queued job of the roll out of the
lists. -/
def Obligations.LabelRequestsAreTaken : Prop :=
  (∀ (tag : Byte) (f : LabelFields) (s : State),
    (∀ p, f.resolve = some p → exec (.labelSet tag f) s =
      .next (answer tag 0x48#8 .ok [] { s with lbp := { s.lbp with params := p } })) ∧
    (f.resolve = none → exec (.labelSet tag f) s = .next (answer tag 0x48#8 .badValue [] s))) ∧
  (∀ (tag : Byte) (n : Nat) (s : State),
    (n = 0 ∨ 65535 < n → exec (.labelReprint tag n) s = .next (answer tag 0x49#8 .badValue [] s) ∧
      exec (.labelDiscard tag n) s = .next (answer tag 0x4A#8 .badValue [] s)) ∧
    (1 ≤ n → n ≤ 65535 →
      ((∀ r ∈ s.rku.history, r.number ≠ n) →
        exec (.labelReprint tag n) s = .next (answer tag 0x49#8 .notFound [] s)) ∧
      (∀ r j, s.rku.history.find? (fun x => x.number == n) = some r → j = buildJob s.lbp.params r →
        (4 ≤ (s.lbp.list r.lane).length →
          exec (.labelReprint tag n) s = .next (answer tag 0x49#8 .full (le1 0) s)) ∧
        ((s.lbp.list r.lane).length < 4 → s.lbp.inFlight.isSome = true →
          exec (.labelReprint tag n) s = .next (answer tag 0x49#8 .ok [] { s with
            rku := { s.rku with history := s.rku.history.map (fun x =>
              if x.number = n then { x with label := .queued } else x) }
            lbp := match r.lane with
              | .a => { s.lbp with listA := s.lbp.listA ++ [j] }
              | .b => { s.lbp with listB := s.lbp.listB ++ [j] } })) ∧
        (s.lbp.inFlight = none → s.lbp.listA = [] → s.lbp.listB = [] →
          exec (.labelReprint tag n) s = .next (answer tag 0x49#8 .ok [] { s with
            rku := { s.rku with history := s.rku.history.map (fun x =>
              if x.number = n then { x with label := .printing } else x) }
            lbp := { s.lbp with
              inFlight := some ⟨j, 1⟩, exchange := s.lbp.exchange + 1, lastGranted := r.lane, timer := none
              printing := some (printFrame (s.lbp.exchange + 1) j) } }))) ∧
      (s.lbp.listA.filter (fun j => j.roll == n) = [] → s.lbp.listB.filter (fun j => j.roll == n) = [] →
        (∀ f, s.lbp.inFlight = some f → f.job.roll = n →
          exec (.labelDiscard tag n) s = .next (answer tag 0x4A#8 .busy [] s)) ∧
        ((∀ f, s.lbp.inFlight = some f → f.job.roll ≠ n) →
          exec (.labelDiscard tag n) s = .next (answer tag 0x4A#8 .notFound [] s))) ∧
      (∀ k, k = (s.lbp.listA.filter (fun j => j.roll == n)).length +
          (s.lbp.listB.filter (fun j => j.roll == n)).length → k ≠ 0 →
        exec (.labelDiscard tag n) s = .next (answer tag 0x4A#8 .ok (le1 k) { s with
          rku := { s.rku with history := s.rku.history.map (fun x =>
            if x.number = n ∧ (∃ j ∈ s.lbp.listA ++ s.lbp.listB, j.roll = n ∧ j.linked = true) then
              { x with label := .discarded } else x) }
          lbp := { s.lbp with
            listA := s.lbp.listA.filter (fun j => j.roll != n)
            listB := s.lbp.listB.filter (fun j => j.roll != n) } })))) ∧
  (∀ (p : LabelParams) (r : RollRecord), ∃ j, j = buildJob p r ∧ j.roll = r.number ∧ j.lane = r.lane ∧
    (0 ≤ r.length → (j.length : Int) = min 65535 (r.length / 400)) ∧ j.repeats = r.counts.repeats ∧
    j.defectRepeats = r.counts.defectRepeats ∧ j.splice = r.flags.splice ∧ j.linked = true ∧
    (r.disposition = .good → j.distance = r.distance ∧ ∀ c, r.code = some c → j.code = c) ∧
    (r.disposition ≠ .good → j.distance = none) ∧
    (r.disposition = .holdUnbatched ∨ r.disposition = .holdGap ∨ r.disposition = .holdUnshaded →
      j.code = [0x48#8, 0x4F#8, 0x4C#8, 0x44#8, 0x2D#8]) ∧
    (r.disposition = .rejectShort ∨ r.disposition = .rejectDefect →
      j.code = [0x52#8, 0x45#8, 0x4A#8, 0x43#8, 0x54#8]) ∧
    (r.disposition = .partialRoll → j.code = [0x50#8, 0x41#8, 0x52#8, 0x54#8, 0x4C#8]) ∧
    (r.lane = .a → j.template = p.templateA) ∧ (r.lane = .b → j.template = p.templateB))

/-- The print exchange with a job in flight. DONE that echoes the exchange number ends it DONE with LABEL-DONE;
FAULT and the label timer's run-out send PRINT again under a new number where a retry is left, and else end it
FAILED with LABEL-FAILED. However it ended, the link is then idle and the grant acts: it goes to the lane other
than the last granted where that lane's list holds a job, and else to the lane whose list does; the head job
leaves its list, its record becomes PRINTING through its link, where it has one, and PRINT goes out as the first
attempt under the next number. An answer before the PRINT has been sent whole does the same (log 45). Any other
answer, one off the layout (log 27) or with no job in flight is discarded. PRINT's last byte starts the timer.
That a FAULT with code 0 is a FAULT is the model's choice (log 27). -/
def Obligations.PrintExchangeRuns : Prop :=
  (∀ (frame : List Byte) (s : State), s.lbp.inFlight = none → exec (.printerDone frame) s = .next s ∧
    exec (.printerFault frame) s = .next s ∧ exec .labelTimeout s = .next s) ∧
  ∀ (f : InFlight) (s : State), s.lbp.inFlight = some f →
    let written : LabelState → State := fun st => if f.job.linked = true then { s with rku := { s.rku with
      history := s.rku.history.map (fun x => if x.number = f.job.roll then { x with label := st } else x) } } else s
    let failed : Byte → State := fun code =>
      { raise .labelFailed (match f.job.lane with | .a => 1 | .b => 2) f.job.roll
          { written .failed with lbp := { s.lbp with lastFailure := code } } with
        lbp := { s.lbp with lastFailure := code, inFlight := none, printing := none, timer := none } }
    let again : Byte → State := fun code => { s with lbp := { s.lbp with
      lastFailure := code, inFlight := some { f with attempt := 2 }, exchange := s.lbp.exchange + 1, timer := none
      printing := some (printFrame (s.lbp.exchange + 1) f.job) } }
    let done : State := raise .labelDone (match f.job.lane with | .a => 1 | .b => 2) f.job.roll (written .done)
    let granted : Lane → LabelJob → Lbp → State → State := fun l j b u => { u with
      rku := if j.linked = true then { u.rku with history := u.rku.history.map (fun x =>
        if x.number = j.roll then { x with label := .printing } else x) } else u.rku
      lbp := { b with
        inFlight := some ⟨j, 1⟩, lastGranted := l, exchange := s.lbp.exchange + 1, timer := none
        printing := some (printFrame (s.lbp.exchange + 1) j) } }
    let thenGrant : State → State := fun u => match s.lbp.lastGranted, u.lbp.listA, u.lbp.listB with
      | .a, _, j :: rest => granted .b j { u.lbp with listB := rest } u
      | .a, j :: rest, [] => granted .a j { u.lbp with listA := rest } u
      | .b, j :: rest, _ => granted .a j { u.lbp with listA := rest } u
      | .b, [], j :: rest => granted .b j { u.lbp with listB := rest } u
      | _, [], [] => u
    (exec (.printerDone (linkFrame 0x81#8 [s.lbp.exchange, 0])) s = .next (thenGrant { done with
      lbp := { s.lbp with inFlight := none, printing := none, timer := none } })) ∧
    (∀ z, z ≠ 0 → exec (.printerDone (linkFrame 0x81#8 [s.lbp.exchange, z])) s = .next s) ∧
    (∀ e, e ≠ s.lbp.exchange → exec (.printerDone (linkFrame 0x81#8 [e, 0])) s = .next s) ∧
    (∀ frame, parseLink frame = none → exec (.printerDone frame) s = .next s ∧
      exec (.printerFault frame) s = .next s) ∧
    (∀ frame type body, parseLink frame = some (type, body) →
      (type ≠ 0x81#8 ∨ body.length ≠ 2 → exec (.printerDone frame) s = .next s) ∧
      (type ≠ 0x82#8 ∨ body.length ≠ 2 → exec (.printerFault frame) s = .next s)) ∧
    (∀ code, (f.attempt = 1 → s.lbp.params.retries = 1 →
        exec (.printerFault (linkFrame 0x82#8 [s.lbp.exchange, code])) s = .next (again code)) ∧
      (f.attempt ≠ 1 ∨ s.lbp.params.retries ≠ 1 →
        exec (.printerFault (linkFrame 0x82#8 [s.lbp.exchange, code])) s = .next (thenGrant (failed code))) ∧
      (∀ e, e ≠ s.lbp.exchange → exec (.printerFault (linkFrame 0x82#8 [e, code])) s = .next s)) ∧
    (s.lbp.timer.isSome = true →
      (f.attempt = 1 → s.lbp.params.retries = 1 → exec .labelTimeout s = .next (again 0)) ∧
      (f.attempt ≠ 1 ∨ s.lbp.params.retries ≠ 1 → exec .labelTimeout s = .next (thenGrant (failed 0)))) ∧
    (s.lbp.timer = none → exec .labelTimeout s = .next s) ∧
    (s.lbp.printing.isSome = true → exec .printSent s = .next { s with lbp := { s.lbp with
      printing := none, timer := some s.lbp.params.timeout } }) ∧
    (s.lbp.printing = none → exec .printSent s = .next s)

/-! ### Invariants every step keeps -/

/-- Every invariant of Safety.lean holds after reset. `newWeb` and the trims' DIR are the model's own (logs 1 and
21). -/
def Obligations.InvariantsHoldAtReset : Prop :=
  LineCoherent State.reset ∧ TrackCoherent State.reset ∧ TrimsBounded State.reset ∧ NipSafe State.reset ∧
  LanesCoherent State.reset ∧ QueuesBounded State.reset ∧ BatchesOrdered State.reset ∧
  EventsCoherent State.reset ∧ SenderNeverIdles State.reset ∧ HeadWorkCoherent State.reset ∧
  PrinterGranted State.reset

/-- No step leaves resume armed outside HOLD, HW away from WP in IDLE or THREAD, or a new-web advance below HW.
`newWeb` is the model's own (log 1). -/
def Obligations.LineStaysCoherent : Prop :=
  ∀ s t : State, LineCoherent s → step s = .next t → LineCoherent t

/-- No step breaks the track's order of numbers, leaves a cursor on a record that has left, leaves records or
splices in IDLE or THREAD, or scans outside RUN and HOLD, while the repeat counter has not given its last number
(log 16). -/
def Obligations.TrackStaysCoherent : Prop :=
  ∀ s t : State, s.tku.nextRepeat < 4294967295 → TrackCoherent s → step s = .next t → TrackCoherent t

/-- No step takes an owed trim beyond 4,095 either way, or leaves one owed in IDLE or FAULT. -/
def Obligations.TrimsStayBounded : Prop :=
  ∀ s t : State, TrimsBounded s → step s = .next t → TrimsBounded t

/-- No step leaves the nip commanded closed outside ENGAGED, or SYNCING or ENGAGED outside RUN. -/
def Obligations.NipStaysSafe : Prop :=
  ∀ s t : State, NipSafe s → step s = .next t → NipSafe t

/-- No step leaves a lane with a roll, a cut or a force flag that its lane state does not allow. -/
def Obligations.LanesStayCoherent : Prop :=
  ∀ s t : State, LanesCoherent s → step s = .next t → LanesCoherent t

/-- No step fills a queue, a list or a table beyond its chapter's bound, and the open batches stay in ascending
sequence, given before the counter, each with a roll. -/
def Obligations.QueuesStayBounded : Prop :=
  (∀ s t : State, QueuesBounded s → step s = .next t → QueuesBounded t) ∧
  (∀ s t : State, BatchesOrdered s → step s = .next t → BatchesOrdered t)

/-- No step disorders the notices or leaves one of level 0, takes a level, the floor or a route's count out of
range, or leaves the sender idle with a reply waiting or a notice above the floor. That an idle sender sends at
once is the model's reading (log 9). -/
def Obligations.OutputStaysCoherent : Prop :=
  (∀ s t : State, EventsCoherent s → step s = .next t → EventsCoherent t) ∧
  (∀ s t : State, SenderNeverIdles s → step s = .next t → SenderNeverIdles t)

/-- No step leaves a standing spot beside a pending one, a held SPOT STOP without a spot in progress, a
calibration run in RUN or FAULT or with nothing to do, a head fault count of 8, or the label link idle with a job
waiting. -/
def Obligations.HeldWorkStaysCoherent : Prop :=
  (∀ s t : State, HeadWorkCoherent s → step s = .next t → HeadWorkCoherent t) ∧
  (∀ s t : State, PrinterGranted s → step s = .next t → PrinterGranted t)
end

