-- ==== Sys2Proof/Laws/State.lean ====
section
/-! SUPPORT. What each update of one unit changes and leaves alone: one lemma per field per update. -/

namespace Sys2Proof.Machine

@[simp] theorem State.onWtb_wtb (s : State) (f : Wtb → Wtb) : (s.onWtb f).wtb = f s.wtb := rfl
@[simp] theorem State.onWtb_tku (s : State) (f : Wtb → Wtb) : (s.onWtb f).tku = s.tku := rfl
@[simp] theorem State.onWtb_rlu (s : State) (f : Wtb → Wtb) : (s.onWtb f).rlu = s.rlu := rfl
@[simp] theorem State.onWtb_epu (s : State) (f : Wtb → Wtb) : (s.onWtb f).epu = s.epu := rfl
@[simp] theorem State.onWtb_smu (s : State) (f : Wtb → Wtb) : (s.onWtb f).smu = s.smu := rfl
@[simp] theorem State.onWtb_rku (s : State) (f : Wtb → Wtb) : (s.onWtb f).rku = s.rku := rfl
@[simp] theorem State.onWtb_btu (s : State) (f : Wtb → Wtb) : (s.onWtb f).btu = s.btu := rfl
@[simp] theorem State.onWtb_lbp (s : State) (f : Wtb → Wtb) : (s.onWtb f).lbp = s.lbp := rfl
@[simp] theorem State.onWtb_evu (s : State) (f : Wtb → Wtb) : (s.onWtb f).evu = s.evu := rfl
@[simp] theorem State.onWtb_svl (s : State) (f : Wtb → Wtb) : (s.onWtb f).svl = s.svl := rfl
@[simp] theorem State.onWtb_pins (s : State) (f : Wtb → Wtb) : (s.onWtb f).pins = s.pins := rfl
@[simp] theorem State.onWtb_pending (s : State) (f : Wtb → Wtb) : (s.onWtb f).pending = s.pending := rfl

@[simp] theorem State.onTku_wtb (s : State) (f : Tku → Tku) : (s.onTku f).wtb = s.wtb := rfl
@[simp] theorem State.onTku_tku (s : State) (f : Tku → Tku) : (s.onTku f).tku = f s.tku := rfl
@[simp] theorem State.onTku_rlu (s : State) (f : Tku → Tku) : (s.onTku f).rlu = s.rlu := rfl
@[simp] theorem State.onTku_epu (s : State) (f : Tku → Tku) : (s.onTku f).epu = s.epu := rfl
@[simp] theorem State.onTku_smu (s : State) (f : Tku → Tku) : (s.onTku f).smu = s.smu := rfl
@[simp] theorem State.onTku_rku (s : State) (f : Tku → Tku) : (s.onTku f).rku = s.rku := rfl
@[simp] theorem State.onTku_btu (s : State) (f : Tku → Tku) : (s.onTku f).btu = s.btu := rfl
@[simp] theorem State.onTku_lbp (s : State) (f : Tku → Tku) : (s.onTku f).lbp = s.lbp := rfl
@[simp] theorem State.onTku_evu (s : State) (f : Tku → Tku) : (s.onTku f).evu = s.evu := rfl
@[simp] theorem State.onTku_svl (s : State) (f : Tku → Tku) : (s.onTku f).svl = s.svl := rfl
@[simp] theorem State.onTku_pins (s : State) (f : Tku → Tku) : (s.onTku f).pins = s.pins := rfl
@[simp] theorem State.onTku_pending (s : State) (f : Tku → Tku) : (s.onTku f).pending = s.pending := rfl

@[simp] theorem State.onRlu_wtb (s : State) (f : Rlu → Rlu) : (s.onRlu f).wtb = s.wtb := rfl
@[simp] theorem State.onRlu_tku (s : State) (f : Rlu → Rlu) : (s.onRlu f).tku = s.tku := rfl
@[simp] theorem State.onRlu_rlu (s : State) (f : Rlu → Rlu) : (s.onRlu f).rlu = f s.rlu := rfl
@[simp] theorem State.onRlu_epu (s : State) (f : Rlu → Rlu) : (s.onRlu f).epu = s.epu := rfl
@[simp] theorem State.onRlu_smu (s : State) (f : Rlu → Rlu) : (s.onRlu f).smu = s.smu := rfl
@[simp] theorem State.onRlu_rku (s : State) (f : Rlu → Rlu) : (s.onRlu f).rku = s.rku := rfl
@[simp] theorem State.onRlu_btu (s : State) (f : Rlu → Rlu) : (s.onRlu f).btu = s.btu := rfl
@[simp] theorem State.onRlu_lbp (s : State) (f : Rlu → Rlu) : (s.onRlu f).lbp = s.lbp := rfl
@[simp] theorem State.onRlu_evu (s : State) (f : Rlu → Rlu) : (s.onRlu f).evu = s.evu := rfl
@[simp] theorem State.onRlu_svl (s : State) (f : Rlu → Rlu) : (s.onRlu f).svl = s.svl := rfl
@[simp] theorem State.onRlu_pins (s : State) (f : Rlu → Rlu) : (s.onRlu f).pins = s.pins := rfl
@[simp] theorem State.onRlu_pending (s : State) (f : Rlu → Rlu) : (s.onRlu f).pending = s.pending := rfl

@[simp] theorem State.onEpu_wtb (s : State) (f : Epu → Epu) : (s.onEpu f).wtb = s.wtb := rfl
@[simp] theorem State.onEpu_tku (s : State) (f : Epu → Epu) : (s.onEpu f).tku = s.tku := rfl
@[simp] theorem State.onEpu_rlu (s : State) (f : Epu → Epu) : (s.onEpu f).rlu = s.rlu := rfl
@[simp] theorem State.onEpu_epu (s : State) (f : Epu → Epu) : (s.onEpu f).epu = f s.epu := rfl
@[simp] theorem State.onEpu_smu (s : State) (f : Epu → Epu) : (s.onEpu f).smu = s.smu := rfl
@[simp] theorem State.onEpu_rku (s : State) (f : Epu → Epu) : (s.onEpu f).rku = s.rku := rfl
@[simp] theorem State.onEpu_btu (s : State) (f : Epu → Epu) : (s.onEpu f).btu = s.btu := rfl
@[simp] theorem State.onEpu_lbp (s : State) (f : Epu → Epu) : (s.onEpu f).lbp = s.lbp := rfl
@[simp] theorem State.onEpu_evu (s : State) (f : Epu → Epu) : (s.onEpu f).evu = s.evu := rfl
@[simp] theorem State.onEpu_svl (s : State) (f : Epu → Epu) : (s.onEpu f).svl = s.svl := rfl
@[simp] theorem State.onEpu_pins (s : State) (f : Epu → Epu) : (s.onEpu f).pins = s.pins := rfl
@[simp] theorem State.onEpu_pending (s : State) (f : Epu → Epu) : (s.onEpu f).pending = s.pending := rfl

@[simp] theorem State.onSmu_wtb (s : State) (f : Smu → Smu) : (s.onSmu f).wtb = s.wtb := rfl
@[simp] theorem State.onSmu_tku (s : State) (f : Smu → Smu) : (s.onSmu f).tku = s.tku := rfl
@[simp] theorem State.onSmu_rlu (s : State) (f : Smu → Smu) : (s.onSmu f).rlu = s.rlu := rfl
@[simp] theorem State.onSmu_epu (s : State) (f : Smu → Smu) : (s.onSmu f).epu = s.epu := rfl
@[simp] theorem State.onSmu_smu (s : State) (f : Smu → Smu) : (s.onSmu f).smu = f s.smu := rfl
@[simp] theorem State.onSmu_rku (s : State) (f : Smu → Smu) : (s.onSmu f).rku = s.rku := rfl
@[simp] theorem State.onSmu_btu (s : State) (f : Smu → Smu) : (s.onSmu f).btu = s.btu := rfl
@[simp] theorem State.onSmu_lbp (s : State) (f : Smu → Smu) : (s.onSmu f).lbp = s.lbp := rfl
@[simp] theorem State.onSmu_evu (s : State) (f : Smu → Smu) : (s.onSmu f).evu = s.evu := rfl
@[simp] theorem State.onSmu_svl (s : State) (f : Smu → Smu) : (s.onSmu f).svl = s.svl := rfl
@[simp] theorem State.onSmu_pins (s : State) (f : Smu → Smu) : (s.onSmu f).pins = s.pins := rfl
@[simp] theorem State.onSmu_pending (s : State) (f : Smu → Smu) : (s.onSmu f).pending = s.pending := rfl

@[simp] theorem State.onRku_wtb (s : State) (f : Rku → Rku) : (s.onRku f).wtb = s.wtb := rfl
@[simp] theorem State.onRku_tku (s : State) (f : Rku → Rku) : (s.onRku f).tku = s.tku := rfl
@[simp] theorem State.onRku_rlu (s : State) (f : Rku → Rku) : (s.onRku f).rlu = s.rlu := rfl
@[simp] theorem State.onRku_epu (s : State) (f : Rku → Rku) : (s.onRku f).epu = s.epu := rfl
@[simp] theorem State.onRku_smu (s : State) (f : Rku → Rku) : (s.onRku f).smu = s.smu := rfl
@[simp] theorem State.onRku_rku (s : State) (f : Rku → Rku) : (s.onRku f).rku = f s.rku := rfl
@[simp] theorem State.onRku_btu (s : State) (f : Rku → Rku) : (s.onRku f).btu = s.btu := rfl
@[simp] theorem State.onRku_lbp (s : State) (f : Rku → Rku) : (s.onRku f).lbp = s.lbp := rfl
@[simp] theorem State.onRku_evu (s : State) (f : Rku → Rku) : (s.onRku f).evu = s.evu := rfl
@[simp] theorem State.onRku_svl (s : State) (f : Rku → Rku) : (s.onRku f).svl = s.svl := rfl
@[simp] theorem State.onRku_pins (s : State) (f : Rku → Rku) : (s.onRku f).pins = s.pins := rfl
@[simp] theorem State.onRku_pending (s : State) (f : Rku → Rku) : (s.onRku f).pending = s.pending := rfl

@[simp] theorem State.onBtu_wtb (s : State) (f : Btu → Btu) : (s.onBtu f).wtb = s.wtb := rfl
@[simp] theorem State.onBtu_tku (s : State) (f : Btu → Btu) : (s.onBtu f).tku = s.tku := rfl
@[simp] theorem State.onBtu_rlu (s : State) (f : Btu → Btu) : (s.onBtu f).rlu = s.rlu := rfl
@[simp] theorem State.onBtu_epu (s : State) (f : Btu → Btu) : (s.onBtu f).epu = s.epu := rfl
@[simp] theorem State.onBtu_smu (s : State) (f : Btu → Btu) : (s.onBtu f).smu = s.smu := rfl
@[simp] theorem State.onBtu_rku (s : State) (f : Btu → Btu) : (s.onBtu f).rku = s.rku := rfl
@[simp] theorem State.onBtu_btu (s : State) (f : Btu → Btu) : (s.onBtu f).btu = f s.btu := rfl
@[simp] theorem State.onBtu_lbp (s : State) (f : Btu → Btu) : (s.onBtu f).lbp = s.lbp := rfl
@[simp] theorem State.onBtu_evu (s : State) (f : Btu → Btu) : (s.onBtu f).evu = s.evu := rfl
@[simp] theorem State.onBtu_svl (s : State) (f : Btu → Btu) : (s.onBtu f).svl = s.svl := rfl
@[simp] theorem State.onBtu_pins (s : State) (f : Btu → Btu) : (s.onBtu f).pins = s.pins := rfl
@[simp] theorem State.onBtu_pending (s : State) (f : Btu → Btu) : (s.onBtu f).pending = s.pending := rfl

@[simp] theorem State.onLbp_wtb (s : State) (f : Lbp → Lbp) : (s.onLbp f).wtb = s.wtb := rfl
@[simp] theorem State.onLbp_tku (s : State) (f : Lbp → Lbp) : (s.onLbp f).tku = s.tku := rfl
@[simp] theorem State.onLbp_rlu (s : State) (f : Lbp → Lbp) : (s.onLbp f).rlu = s.rlu := rfl
@[simp] theorem State.onLbp_epu (s : State) (f : Lbp → Lbp) : (s.onLbp f).epu = s.epu := rfl
@[simp] theorem State.onLbp_smu (s : State) (f : Lbp → Lbp) : (s.onLbp f).smu = s.smu := rfl
@[simp] theorem State.onLbp_rku (s : State) (f : Lbp → Lbp) : (s.onLbp f).rku = s.rku := rfl
@[simp] theorem State.onLbp_btu (s : State) (f : Lbp → Lbp) : (s.onLbp f).btu = s.btu := rfl
@[simp] theorem State.onLbp_lbp (s : State) (f : Lbp → Lbp) : (s.onLbp f).lbp = f s.lbp := rfl
@[simp] theorem State.onLbp_evu (s : State) (f : Lbp → Lbp) : (s.onLbp f).evu = s.evu := rfl
@[simp] theorem State.onLbp_svl (s : State) (f : Lbp → Lbp) : (s.onLbp f).svl = s.svl := rfl
@[simp] theorem State.onLbp_pins (s : State) (f : Lbp → Lbp) : (s.onLbp f).pins = s.pins := rfl
@[simp] theorem State.onLbp_pending (s : State) (f : Lbp → Lbp) : (s.onLbp f).pending = s.pending := rfl

@[simp] theorem State.onEvu_wtb (s : State) (f : Evu → Evu) : (s.onEvu f).wtb = s.wtb := rfl
@[simp] theorem State.onEvu_tku (s : State) (f : Evu → Evu) : (s.onEvu f).tku = s.tku := rfl
@[simp] theorem State.onEvu_rlu (s : State) (f : Evu → Evu) : (s.onEvu f).rlu = s.rlu := rfl
@[simp] theorem State.onEvu_epu (s : State) (f : Evu → Evu) : (s.onEvu f).epu = s.epu := rfl
@[simp] theorem State.onEvu_smu (s : State) (f : Evu → Evu) : (s.onEvu f).smu = s.smu := rfl
@[simp] theorem State.onEvu_rku (s : State) (f : Evu → Evu) : (s.onEvu f).rku = s.rku := rfl
@[simp] theorem State.onEvu_btu (s : State) (f : Evu → Evu) : (s.onEvu f).btu = s.btu := rfl
@[simp] theorem State.onEvu_lbp (s : State) (f : Evu → Evu) : (s.onEvu f).lbp = s.lbp := rfl
@[simp] theorem State.onEvu_evu (s : State) (f : Evu → Evu) : (s.onEvu f).evu = f s.evu := rfl
@[simp] theorem State.onEvu_svl (s : State) (f : Evu → Evu) : (s.onEvu f).svl = s.svl := rfl
@[simp] theorem State.onEvu_pins (s : State) (f : Evu → Evu) : (s.onEvu f).pins = s.pins := rfl
@[simp] theorem State.onEvu_pending (s : State) (f : Evu → Evu) : (s.onEvu f).pending = s.pending := rfl

@[simp] theorem State.onSvl_wtb (s : State) (f : Svl → Svl) : (s.onSvl f).wtb = s.wtb := rfl
@[simp] theorem State.onSvl_tku (s : State) (f : Svl → Svl) : (s.onSvl f).tku = s.tku := rfl
@[simp] theorem State.onSvl_rlu (s : State) (f : Svl → Svl) : (s.onSvl f).rlu = s.rlu := rfl
@[simp] theorem State.onSvl_epu (s : State) (f : Svl → Svl) : (s.onSvl f).epu = s.epu := rfl
@[simp] theorem State.onSvl_smu (s : State) (f : Svl → Svl) : (s.onSvl f).smu = s.smu := rfl
@[simp] theorem State.onSvl_rku (s : State) (f : Svl → Svl) : (s.onSvl f).rku = s.rku := rfl
@[simp] theorem State.onSvl_btu (s : State) (f : Svl → Svl) : (s.onSvl f).btu = s.btu := rfl
@[simp] theorem State.onSvl_lbp (s : State) (f : Svl → Svl) : (s.onSvl f).lbp = s.lbp := rfl
@[simp] theorem State.onSvl_evu (s : State) (f : Svl → Svl) : (s.onSvl f).evu = s.evu := rfl
@[simp] theorem State.onSvl_svl (s : State) (f : Svl → Svl) : (s.onSvl f).svl = f s.svl := rfl
@[simp] theorem State.onSvl_pins (s : State) (f : Svl → Svl) : (s.onSvl f).pins = s.pins := rfl
@[simp] theorem State.onSvl_pending (s : State) (f : Svl → Svl) : (s.onSvl f).pending = s.pending := rfl

@[simp] theorem State.onPins_wtb (s : State) (f : Pins → Pins) : (s.onPins f).wtb = s.wtb := rfl
@[simp] theorem State.onPins_tku (s : State) (f : Pins → Pins) : (s.onPins f).tku = s.tku := rfl
@[simp] theorem State.onPins_rlu (s : State) (f : Pins → Pins) : (s.onPins f).rlu = s.rlu := rfl
@[simp] theorem State.onPins_epu (s : State) (f : Pins → Pins) : (s.onPins f).epu = s.epu := rfl
@[simp] theorem State.onPins_smu (s : State) (f : Pins → Pins) : (s.onPins f).smu = s.smu := rfl
@[simp] theorem State.onPins_rku (s : State) (f : Pins → Pins) : (s.onPins f).rku = s.rku := rfl
@[simp] theorem State.onPins_btu (s : State) (f : Pins → Pins) : (s.onPins f).btu = s.btu := rfl
@[simp] theorem State.onPins_lbp (s : State) (f : Pins → Pins) : (s.onPins f).lbp = s.lbp := rfl
@[simp] theorem State.onPins_evu (s : State) (f : Pins → Pins) : (s.onPins f).evu = s.evu := rfl
@[simp] theorem State.onPins_svl (s : State) (f : Pins → Pins) : (s.onPins f).svl = s.svl := rfl
@[simp] theorem State.onPins_pins (s : State) (f : Pins → Pins) : (s.onPins f).pins = f s.pins := rfl
@[simp] theorem State.onPins_pending (s : State) (f : Pins → Pins) : (s.onPins f).pending = s.pending := rfl

end Sys2Proof.Machine
end

