-- ==== Sys2Proof/Laws/Output.lean ====
section
/-! SUPPORT. What the output operations of Machine/Link.lean can do: they change the link's reply path and sender,
and of the event unit the notice queue and the dropped count. -/

namespace Sys2Proof.Machine

/-- Everything the output sender can do when it may have become free. -/
theorem pump_cases (s : State) :
    pump s = s ∨
    (s.svl.sending = none ∧ ∃ r rs, s.svl.replies = r :: rs ∧
      pump s = s.onSvl (fun v => { v with sending := some r.frame, replies := rs, replied := true })) ∨
    (s.svl.sending = none ∧ s.svl.replies = [] ∧ ∃ n ns, s.evu.notices = n :: ns ∧
      (s.svl.replied = true ∧ s.evu.floor < n.level) ∧
      pump s = (s.onSvl (fun v => { v with sending := some (n.frame s.evu.dropped) })).onEvu
        (fun e => { e with notices := ns, dropped := 0 })) := by
  unfold pump
  split
  · exact .inl rfl
  · rename_i r rs hn hr
    exact .inr (.inl ⟨hn, r, rs, hr, rfl⟩)
  · rename_i n ns hn hr he
    split
    · rename_i hf
      exact .inr (.inr ⟨hn, hr, n, ns, he, hf, rfl⟩)
    · exact .inl rfl
  · exact .inl rfl

@[simp] theorem pump_wtb (s : State) : (pump s).wtb = s.wtb := by
  rcases pump_cases s with h | ⟨_, _, _, _, h⟩ | ⟨_, _, _, _, _, _, h⟩ <;> simp [h]
@[simp] theorem pump_tku (s : State) : (pump s).tku = s.tku := by
  rcases pump_cases s with h | ⟨_, _, _, _, h⟩ | ⟨_, _, _, _, _, _, h⟩ <;> simp [h]
@[simp] theorem pump_rlu (s : State) : (pump s).rlu = s.rlu := by
  rcases pump_cases s with h | ⟨_, _, _, _, h⟩ | ⟨_, _, _, _, _, _, h⟩ <;> simp [h]
@[simp] theorem pump_epu (s : State) : (pump s).epu = s.epu := by
  rcases pump_cases s with h | ⟨_, _, _, _, h⟩ | ⟨_, _, _, _, _, _, h⟩ <;> simp [h]
@[simp] theorem pump_smu (s : State) : (pump s).smu = s.smu := by
  rcases pump_cases s with h | ⟨_, _, _, _, h⟩ | ⟨_, _, _, _, _, _, h⟩ <;> simp [h]
@[simp] theorem pump_rku (s : State) : (pump s).rku = s.rku := by
  rcases pump_cases s with h | ⟨_, _, _, _, h⟩ | ⟨_, _, _, _, _, _, h⟩ <;> simp [h]
@[simp] theorem pump_btu (s : State) : (pump s).btu = s.btu := by
  rcases pump_cases s with h | ⟨_, _, _, _, h⟩ | ⟨_, _, _, _, _, _, h⟩ <;> simp [h]
@[simp] theorem pump_lbp (s : State) : (pump s).lbp = s.lbp := by
  rcases pump_cases s with h | ⟨_, _, _, _, h⟩ | ⟨_, _, _, _, _, _, h⟩ <;> simp [h]
@[simp] theorem pump_pins (s : State) : (pump s).pins = s.pins := by
  rcases pump_cases s with h | ⟨_, _, _, _, h⟩ | ⟨_, _, _, _, _, _, h⟩ <;> simp [h]
@[simp] theorem pump_pending (s : State) : (pump s).pending = s.pending := by
  rcases pump_cases s with h | ⟨_, _, _, _, h⟩ | ⟨_, _, _, _, _, _, h⟩ <;> simp [h]
@[simp] theorem pump_evu_levels (s : State) : (pump s).evu.levels = s.evu.levels := by
  rcases pump_cases s with h | ⟨_, _, _, _, h⟩ | ⟨_, _, _, _, _, _, h⟩ <;> simp [h]
@[simp] theorem pump_evu_routes (s : State) : (pump s).evu.routes = s.evu.routes := by
  rcases pump_cases s with h | ⟨_, _, _, _, h⟩ | ⟨_, _, _, _, _, _, h⟩ <;> simp [h]
@[simp] theorem pump_evu_floor (s : State) : (pump s).evu.floor = s.evu.floor := by
  rcases pump_cases s with h | ⟨_, _, _, _, h⟩ | ⟨_, _, _, _, _, _, h⟩ <;> simp [h]
@[simp] theorem pump_svl_receiver (s : State) : (pump s).svl.receiver = s.svl.receiver := by
  rcases pump_cases s with h | ⟨_, _, _, _, h⟩ | ⟨_, _, _, _, _, _, h⟩ <;> simp [h]
@[simp] theorem pump_svl_input (s : State) : (pump s).svl.input = s.svl.input := by
  rcases pump_cases s with h | ⟨_, _, _, _, h⟩ | ⟨_, _, _, _, _, _, h⟩ <;> simp [h]
@[simp] theorem pump_svl_discarded (s : State) : (pump s).svl.discarded = s.svl.discarded := by
  rcases pump_cases s with h | ⟨_, _, _, _, h⟩ | ⟨_, _, _, _, _, _, h⟩ <;> simp [h]

@[simp] theorem pushReply_wtb (r : Reply) (s : State) : (pushReply r s).wtb = s.wtb := by simp [pushReply]
@[simp] theorem pushReply_tku (r : Reply) (s : State) : (pushReply r s).tku = s.tku := by simp [pushReply]
@[simp] theorem pushReply_rlu (r : Reply) (s : State) : (pushReply r s).rlu = s.rlu := by simp [pushReply]
@[simp] theorem pushReply_epu (r : Reply) (s : State) : (pushReply r s).epu = s.epu := by simp [pushReply]
@[simp] theorem pushReply_smu (r : Reply) (s : State) : (pushReply r s).smu = s.smu := by simp [pushReply]
@[simp] theorem pushReply_rku (r : Reply) (s : State) : (pushReply r s).rku = s.rku := by simp [pushReply]
@[simp] theorem pushReply_btu (r : Reply) (s : State) : (pushReply r s).btu = s.btu := by simp [pushReply]
@[simp] theorem pushReply_lbp (r : Reply) (s : State) : (pushReply r s).lbp = s.lbp := by simp [pushReply]
@[simp] theorem pushReply_pins (r : Reply) (s : State) : (pushReply r s).pins = s.pins := by simp [pushReply]
@[simp] theorem pushReply_pending (r : Reply) (s : State) : (pushReply r s).pending = s.pending := by simp [pushReply]
@[simp] theorem pushReply_evu_levels (r : Reply) (s : State) : (pushReply r s).evu.levels = s.evu.levels := by simp [pushReply]
@[simp] theorem pushReply_evu_routes (r : Reply) (s : State) : (pushReply r s).evu.routes = s.evu.routes := by simp [pushReply]
@[simp] theorem pushReply_evu_floor (r : Reply) (s : State) : (pushReply r s).evu.floor = s.evu.floor := by simp [pushReply]
@[simp] theorem pushReply_svl_receiver (r : Reply) (s : State) : (pushReply r s).svl.receiver = s.svl.receiver := by simp [pushReply]
@[simp] theorem pushReply_svl_input (r : Reply) (s : State) : (pushReply r s).svl.input = s.svl.input := by simp [pushReply]
@[simp] theorem pushReply_svl_discarded (r : Reply) (s : State) : (pushReply r s).svl.discarded = s.svl.discarded := by simp [pushReply]
@[simp] theorem answer_wtb (tag request : Byte) (st : Status) (fs : List Byte) (s : State) : (answer tag request st fs s).wtb = s.wtb := by simp [answer]
@[simp] theorem answer_tku (tag request : Byte) (st : Status) (fs : List Byte) (s : State) : (answer tag request st fs s).tku = s.tku := by simp [answer]
@[simp] theorem answer_rlu (tag request : Byte) (st : Status) (fs : List Byte) (s : State) : (answer tag request st fs s).rlu = s.rlu := by simp [answer]
@[simp] theorem answer_epu (tag request : Byte) (st : Status) (fs : List Byte) (s : State) : (answer tag request st fs s).epu = s.epu := by simp [answer]
@[simp] theorem answer_smu (tag request : Byte) (st : Status) (fs : List Byte) (s : State) : (answer tag request st fs s).smu = s.smu := by simp [answer]
@[simp] theorem answer_rku (tag request : Byte) (st : Status) (fs : List Byte) (s : State) : (answer tag request st fs s).rku = s.rku := by simp [answer]
@[simp] theorem answer_btu (tag request : Byte) (st : Status) (fs : List Byte) (s : State) : (answer tag request st fs s).btu = s.btu := by simp [answer]
@[simp] theorem answer_lbp (tag request : Byte) (st : Status) (fs : List Byte) (s : State) : (answer tag request st fs s).lbp = s.lbp := by simp [answer]
@[simp] theorem answer_pins (tag request : Byte) (st : Status) (fs : List Byte) (s : State) : (answer tag request st fs s).pins = s.pins := by simp [answer]
@[simp] theorem answer_pending (tag request : Byte) (st : Status) (fs : List Byte) (s : State) : (answer tag request st fs s).pending = s.pending := by simp [answer]
@[simp] theorem answer_evu_levels (tag request : Byte) (st : Status) (fs : List Byte) (s : State) : (answer tag request st fs s).evu.levels = s.evu.levels := by simp [answer]
@[simp] theorem answer_evu_routes (tag request : Byte) (st : Status) (fs : List Byte) (s : State) : (answer tag request st fs s).evu.routes = s.evu.routes := by simp [answer]
@[simp] theorem answer_evu_floor (tag request : Byte) (st : Status) (fs : List Byte) (s : State) : (answer tag request st fs s).evu.floor = s.evu.floor := by simp [answer]
@[simp] theorem answer_svl_receiver (tag request : Byte) (st : Status) (fs : List Byte) (s : State) : (answer tag request st fs s).svl.receiver = s.svl.receiver := by simp [answer]
@[simp] theorem answer_svl_input (tag request : Byte) (st : Status) (fs : List Byte) (s : State) : (answer tag request st fs s).svl.input = s.svl.input := by simp [answer]
@[simp] theorem answer_svl_discarded (tag request : Byte) (st : Status) (fs : List Byte) (s : State) : (answer tag request st fs s).svl.discarded = s.svl.discarded := by simp [answer]

/-- A notice changes nothing at level 0, and otherwise enters the queue before the sender is offered it. -/
theorem notice_cases (ev : Event) (p1 p2 : Nat) (s : State) :
    (s.evu.level ev = 0 ∧ notice ev p1 p2 s = s) ∨
    (s.evu.level ev ≠ 0 ∧ notice ev p1 p2 s =
      pump (s.onEvu (fun e => e.enter ⟨ev, s.evu.level ev, s.wtb.wp, p1, p2⟩))) := by
  unfold notice
  by_cases h : s.evu.level ev = 0 <;> simp [h]

@[simp] theorem Evu.enter_levels (e : Evu) (n : Notice) : (e.enter n).levels = e.levels := by
  unfold Evu.enter
  split
  · rfl
  · split <;> rfl
@[simp] theorem Evu.enter_routes (e : Evu) (n : Notice) : (e.enter n).routes = e.routes := by
  unfold Evu.enter
  split
  · rfl
  · split <;> rfl
@[simp] theorem Evu.enter_floor (e : Evu) (n : Notice) : (e.enter n).floor = e.floor := by
  unfold Evu.enter
  split
  · rfl
  · split <;> rfl

@[simp] theorem notice_wtb (ev : Event) (p1 p2 : Nat) (s : State) : (notice ev p1 p2 s).wtb = s.wtb := by
  rcases notice_cases ev p1 p2 s with ⟨_, h⟩ | ⟨_, h⟩ <;> simp [h]
@[simp] theorem notice_tku (ev : Event) (p1 p2 : Nat) (s : State) : (notice ev p1 p2 s).tku = s.tku := by
  rcases notice_cases ev p1 p2 s with ⟨_, h⟩ | ⟨_, h⟩ <;> simp [h]
@[simp] theorem notice_rlu (ev : Event) (p1 p2 : Nat) (s : State) : (notice ev p1 p2 s).rlu = s.rlu := by
  rcases notice_cases ev p1 p2 s with ⟨_, h⟩ | ⟨_, h⟩ <;> simp [h]
@[simp] theorem notice_epu (ev : Event) (p1 p2 : Nat) (s : State) : (notice ev p1 p2 s).epu = s.epu := by
  rcases notice_cases ev p1 p2 s with ⟨_, h⟩ | ⟨_, h⟩ <;> simp [h]
@[simp] theorem notice_smu (ev : Event) (p1 p2 : Nat) (s : State) : (notice ev p1 p2 s).smu = s.smu := by
  rcases notice_cases ev p1 p2 s with ⟨_, h⟩ | ⟨_, h⟩ <;> simp [h]
@[simp] theorem notice_rku (ev : Event) (p1 p2 : Nat) (s : State) : (notice ev p1 p2 s).rku = s.rku := by
  rcases notice_cases ev p1 p2 s with ⟨_, h⟩ | ⟨_, h⟩ <;> simp [h]
@[simp] theorem notice_btu (ev : Event) (p1 p2 : Nat) (s : State) : (notice ev p1 p2 s).btu = s.btu := by
  rcases notice_cases ev p1 p2 s with ⟨_, h⟩ | ⟨_, h⟩ <;> simp [h]
@[simp] theorem notice_lbp (ev : Event) (p1 p2 : Nat) (s : State) : (notice ev p1 p2 s).lbp = s.lbp := by
  rcases notice_cases ev p1 p2 s with ⟨_, h⟩ | ⟨_, h⟩ <;> simp [h]
@[simp] theorem notice_pins (ev : Event) (p1 p2 : Nat) (s : State) : (notice ev p1 p2 s).pins = s.pins := by
  rcases notice_cases ev p1 p2 s with ⟨_, h⟩ | ⟨_, h⟩ <;> simp [h]
@[simp] theorem notice_pending (ev : Event) (p1 p2 : Nat) (s : State) : (notice ev p1 p2 s).pending = s.pending := by
  rcases notice_cases ev p1 p2 s with ⟨_, h⟩ | ⟨_, h⟩ <;> simp [h]
@[simp] theorem notice_evu_levels (ev : Event) (p1 p2 : Nat) (s : State) : (notice ev p1 p2 s).evu.levels = s.evu.levels := by
  rcases notice_cases ev p1 p2 s with ⟨_, h⟩ | ⟨_, h⟩ <;> simp [h]
@[simp] theorem notice_evu_routes (ev : Event) (p1 p2 : Nat) (s : State) : (notice ev p1 p2 s).evu.routes = s.evu.routes := by
  rcases notice_cases ev p1 p2 s with ⟨_, h⟩ | ⟨_, h⟩ <;> simp [h]
@[simp] theorem notice_evu_floor (ev : Event) (p1 p2 : Nat) (s : State) : (notice ev p1 p2 s).evu.floor = s.evu.floor := by
  rcases notice_cases ev p1 p2 s with ⟨_, h⟩ | ⟨_, h⟩ <;> simp [h]
@[simp] theorem notice_svl_receiver (ev : Event) (p1 p2 : Nat) (s : State) : (notice ev p1 p2 s).svl.receiver = s.svl.receiver := by
  rcases notice_cases ev p1 p2 s with ⟨_, h⟩ | ⟨_, h⟩ <;> simp [h]
@[simp] theorem notice_svl_input (ev : Event) (p1 p2 : Nat) (s : State) : (notice ev p1 p2 s).svl.input = s.svl.input := by
  rcases notice_cases ev p1 p2 s with ⟨_, h⟩ | ⟨_, h⟩ <;> simp [h]
@[simp] theorem notice_svl_discarded (ev : Event) (p1 p2 : Nat) (s : State) : (notice ev p1 p2 s).svl.discarded = s.svl.discarded := by
  rcases notice_cases ev p1 p2 s with ⟨_, h⟩ | ⟨_, h⟩ <;> simp [h]
@[simp] theorem noticeLineState_wtb (r : Reason) (s : State) : (noticeLineState r s).wtb = s.wtb := by
  simp [noticeLineState]
@[simp] theorem noticeLineState_tku (r : Reason) (s : State) : (noticeLineState r s).tku = s.tku := by
  simp [noticeLineState]
@[simp] theorem noticeLineState_rlu (r : Reason) (s : State) : (noticeLineState r s).rlu = s.rlu := by
  simp [noticeLineState]
@[simp] theorem noticeLineState_epu (r : Reason) (s : State) : (noticeLineState r s).epu = s.epu := by
  simp [noticeLineState]
@[simp] theorem noticeLineState_smu (r : Reason) (s : State) : (noticeLineState r s).smu = s.smu := by
  simp [noticeLineState]
@[simp] theorem noticeLineState_rku (r : Reason) (s : State) : (noticeLineState r s).rku = s.rku := by
  simp [noticeLineState]
@[simp] theorem noticeLineState_btu (r : Reason) (s : State) : (noticeLineState r s).btu = s.btu := by
  simp [noticeLineState]
@[simp] theorem noticeLineState_lbp (r : Reason) (s : State) : (noticeLineState r s).lbp = s.lbp := by
  simp [noticeLineState]
@[simp] theorem noticeLineState_pins (r : Reason) (s : State) : (noticeLineState r s).pins = s.pins := by
  simp [noticeLineState]
@[simp] theorem noticeLineState_pending (r : Reason) (s : State) : (noticeLineState r s).pending = s.pending := by
  simp [noticeLineState]
@[simp] theorem noticeLineState_evu_levels (r : Reason) (s : State) : (noticeLineState r s).evu.levels = s.evu.levels := by
  simp [noticeLineState]
@[simp] theorem noticeLineState_evu_routes (r : Reason) (s : State) : (noticeLineState r s).evu.routes = s.evu.routes := by
  simp [noticeLineState]
@[simp] theorem noticeLineState_evu_floor (r : Reason) (s : State) : (noticeLineState r s).evu.floor = s.evu.floor := by
  simp [noticeLineState]
@[simp] theorem noticeLineState_svl_receiver (r : Reason) (s : State) : (noticeLineState r s).svl.receiver = s.svl.receiver := by
  simp [noticeLineState]
@[simp] theorem noticeLineState_svl_input (r : Reason) (s : State) : (noticeLineState r s).svl.input = s.svl.input := by
  simp [noticeLineState]
@[simp] theorem noticeLineState_svl_discarded (r : Reason) (s : State) : (noticeLineState r s).svl.discarded = s.svl.discarded := by
  simp [noticeLineState]

end Sys2Proof.Machine
end

