-- ==== Sys2Proof/Laws/Raise.lean ====
section
/-! SUPPORT. What the taking of an occurrence can do (R174, R177, R178): the actions one by one, then `raise_keeps`,
which says once that whatever every action and the notice path keep, an occurrence keeps, and the frame of `raise`
that follows from it. -/

namespace Sys2Proof.Machine

/-! ### The actions one by one -/

@[simp] theorem enterSyncing_wtb (s : State) : (enterSyncing s).wtb = s.wtb := by simp [enterSyncing]
@[simp] theorem enterSyncing_tku (s : State) : (enterSyncing s).tku = s.tku := by simp [enterSyncing]
@[simp] theorem enterSyncing_rlu (s : State) : (enterSyncing s).rlu = s.rlu := by simp [enterSyncing]
@[simp] theorem enterSyncing_smu (s : State) : (enterSyncing s).smu = s.smu := by simp [enterSyncing]
@[simp] theorem enterSyncing_rku (s : State) : (enterSyncing s).rku = s.rku := by simp [enterSyncing]
@[simp] theorem enterSyncing_btu (s : State) : (enterSyncing s).btu = s.btu := by simp [enterSyncing]
@[simp] theorem enterSyncing_lbp (s : State) : (enterSyncing s).lbp = s.lbp := by simp [enterSyncing]
@[simp] theorem enterSyncing_pins (s : State) : (enterSyncing s).pins = s.pins := by simp [enterSyncing]
@[simp] theorem enterSyncing_pending (s : State) : (enterSyncing s).pending = s.pending := by simp [enterSyncing]
@[simp] theorem enterSyncing_evu (s : State) : (enterSyncing s).evu = s.evu := by simp [enterSyncing]
@[simp] theorem enterSyncing_svl (s : State) : (enterSyncing s).svl = s.svl := by simp [enterSyncing]
@[simp] theorem enterSyncing_epu_params (s : State) : (enterSyncing s).epu.params = s.epu.params := by simp [enterSyncing]
@[simp] theorem enterSyncing_epu_lastPhase (s : State) : (enterSyncing s).epu.lastPhase = s.epu.lastPhase := by simp [enterSyncing]
@[simp] theorem enterSyncing_epu_lastOutcome (s : State) : (enterSyncing s).epu.lastOutcome = s.epu.lastOutcome := by simp [enterSyncing]
@[simp] theorem enterSyncing_epu_lastIndex (s : State) : (enterSyncing s).epu.lastIndex = s.epu.lastIndex := by simp [enterSyncing]
@[simp] theorem enterSyncing_epu_eixPrev (s : State) : (enterSyncing s).epu.eixPrev = s.epu.eixPrev := by simp [enterSyncing]
@[simp] theorem actOnReengage_wtb (s : State) : (actOnReengage s).wtb = s.wtb := by
  unfold actOnReengage
  split
  · split <;> simp
  · rfl
@[simp] theorem actOnReengage_tku (s : State) : (actOnReengage s).tku = s.tku := by
  unfold actOnReengage
  split
  · split <;> simp
  · rfl
@[simp] theorem actOnReengage_rlu (s : State) : (actOnReengage s).rlu = s.rlu := by
  unfold actOnReengage
  split
  · split <;> simp
  · rfl
@[simp] theorem actOnReengage_smu (s : State) : (actOnReengage s).smu = s.smu := by
  unfold actOnReengage
  split
  · split <;> simp
  · rfl
@[simp] theorem actOnReengage_rku (s : State) : (actOnReengage s).rku = s.rku := by
  unfold actOnReengage
  split
  · split <;> simp
  · rfl
@[simp] theorem actOnReengage_btu (s : State) : (actOnReengage s).btu = s.btu := by
  unfold actOnReengage
  split
  · split <;> simp
  · rfl
@[simp] theorem actOnReengage_lbp (s : State) : (actOnReengage s).lbp = s.lbp := by
  unfold actOnReengage
  split
  · split <;> simp
  · rfl
@[simp] theorem actOnReengage_pins (s : State) : (actOnReengage s).pins = s.pins := by
  unfold actOnReengage
  split
  · split <;> simp
  · rfl
@[simp] theorem actOnReengage_pending (s : State) : (actOnReengage s).pending = s.pending := by
  unfold actOnReengage
  split
  · split <;> simp
  · rfl
@[simp] theorem actOnReengage_evu (s : State) : (actOnReengage s).evu = s.evu := by
  unfold actOnReengage
  split
  · split <;> simp
  · rfl
@[simp] theorem actOnReengage_svl (s : State) : (actOnReengage s).svl = s.svl := by
  unfold actOnReengage
  split
  · split <;> simp
  · rfl
@[simp] theorem actOnReengage_epu_params (s : State) : (actOnReengage s).epu.params = s.epu.params := by
  unfold actOnReengage
  split
  · split <;> simp
  · rfl
@[simp] theorem actOnReengage_epu_lastPhase (s : State) : (actOnReengage s).epu.lastPhase = s.epu.lastPhase := by
  unfold actOnReengage
  split
  · split <;> simp
  · rfl
@[simp] theorem actOnReengage_epu_lastOutcome (s : State) : (actOnReengage s).epu.lastOutcome = s.epu.lastOutcome := by
  unfold actOnReengage
  split
  · split <;> simp
  · rfl
@[simp] theorem actOnReengage_epu_lastIndex (s : State) : (actOnReengage s).epu.lastIndex = s.epu.lastIndex := by
  unfold actOnReengage
  split
  · split <;> simp
  · rfl
@[simp] theorem actOnReengage_epu_eixPrev (s : State) : (actOnReengage s).epu.eixPrev = s.epu.eixPrev := by
  unfold actOnReengage
  split
  · split <;> simp
  · rfl
@[simp] theorem enterReleasing_wtb (s : State) : (enterReleasing s).wtb = s.wtb := by
  unfold enterReleasing
  split <;> simp
@[simp] theorem enterReleasing_tku (s : State) : (enterReleasing s).tku = s.tku := by
  unfold enterReleasing
  split <;> simp
@[simp] theorem enterReleasing_rlu (s : State) : (enterReleasing s).rlu = s.rlu := by
  unfold enterReleasing
  split <;> simp
@[simp] theorem enterReleasing_smu (s : State) : (enterReleasing s).smu = s.smu := by
  unfold enterReleasing
  split <;> simp
@[simp] theorem enterReleasing_rku (s : State) : (enterReleasing s).rku = s.rku := by
  unfold enterReleasing
  split <;> simp
@[simp] theorem enterReleasing_btu (s : State) : (enterReleasing s).btu = s.btu := by
  unfold enterReleasing
  split <;> simp
@[simp] theorem enterReleasing_lbp (s : State) : (enterReleasing s).lbp = s.lbp := by
  unfold enterReleasing
  split <;> simp
@[simp] theorem enterReleasing_pins (s : State) : (enterReleasing s).pins = s.pins := by
  unfold enterReleasing
  split <;> simp
@[simp] theorem enterReleasing_pending (s : State) : (enterReleasing s).pending = s.pending := by
  unfold enterReleasing
  split <;> simp
@[simp] theorem enterReleasing_evu (s : State) : (enterReleasing s).evu = s.evu := by
  unfold enterReleasing
  split <;> simp
@[simp] theorem enterReleasing_svl (s : State) : (enterReleasing s).svl = s.svl := by
  unfold enterReleasing
  split <;> simp
@[simp] theorem enterReleasing_epu_params (s : State) : (enterReleasing s).epu.params = s.epu.params := by
  unfold enterReleasing
  split <;> simp
@[simp] theorem enterReleasing_epu_lastPhase (s : State) : (enterReleasing s).epu.lastPhase = s.epu.lastPhase := by
  unfold enterReleasing
  split <;> simp
@[simp] theorem enterReleasing_epu_lastOutcome (s : State) : (enterReleasing s).epu.lastOutcome = s.epu.lastOutcome := by
  unfold enterReleasing
  split <;> simp
@[simp] theorem enterReleasing_epu_lastIndex (s : State) : (enterReleasing s).epu.lastIndex = s.epu.lastIndex := by
  unfold enterReleasing
  split <;> simp
@[simp] theorem enterReleasing_epu_eixPrev (s : State) : (enterReleasing s).epu.eixPrev = s.epu.eixPrev := by
  unfold enterReleasing
  split <;> simp
@[simp] theorem leaveStep_wtb (s : State) : (leaveStep s).wtb = s.wtb := by
  unfold leaveStep
  split <;> simp
@[simp] theorem leaveStep_tku (s : State) : (leaveStep s).tku = s.tku := by
  unfold leaveStep
  split <;> simp
@[simp] theorem leaveStep_rlu (s : State) : (leaveStep s).rlu = s.rlu := by
  unfold leaveStep
  split <;> simp
@[simp] theorem leaveStep_smu (s : State) : (leaveStep s).smu = s.smu := by
  unfold leaveStep
  split <;> simp
@[simp] theorem leaveStep_rku (s : State) : (leaveStep s).rku = s.rku := by
  unfold leaveStep
  split <;> simp
@[simp] theorem leaveStep_btu (s : State) : (leaveStep s).btu = s.btu := by
  unfold leaveStep
  split <;> simp
@[simp] theorem leaveStep_lbp (s : State) : (leaveStep s).lbp = s.lbp := by
  unfold leaveStep
  split <;> simp
@[simp] theorem leaveStep_pins (s : State) : (leaveStep s).pins = s.pins := by
  unfold leaveStep
  split <;> simp
@[simp] theorem leaveStep_pending (s : State) : (leaveStep s).pending = s.pending := by
  unfold leaveStep
  split <;> simp
@[simp] theorem leaveStep_evu (s : State) : (leaveStep s).evu = s.evu := by
  unfold leaveStep
  split <;> simp
@[simp] theorem leaveStep_svl (s : State) : (leaveStep s).svl = s.svl := by
  unfold leaveStep
  split <;> simp
@[simp] theorem leaveStep_epu_params (s : State) : (leaveStep s).epu.params = s.epu.params := by
  unfold leaveStep
  split <;> simp
@[simp] theorem leaveStep_epu_lastPhase (s : State) : (leaveStep s).epu.lastPhase = s.epu.lastPhase := by
  unfold leaveStep
  split <;> simp
@[simp] theorem leaveStep_epu_lastOutcome (s : State) : (leaveStep s).epu.lastOutcome = s.epu.lastOutcome := by
  unfold leaveStep
  split <;> simp
@[simp] theorem leaveStep_epu_lastIndex (s : State) : (leaveStep s).epu.lastIndex = s.epu.lastIndex := by
  unfold leaveStep
  split <;> simp
@[simp] theorem leaveStep_epu_eixPrev (s : State) : (leaveStep s).epu.eixPrev = s.epu.eixPrev := by
  unfold leaveStep
  split <;> simp
@[simp] theorem embossAtHold_wtb (s : State) : (embossAtHold s).wtb = s.wtb := by simp [embossAtHold]
@[simp] theorem embossAtHold_tku (s : State) : (embossAtHold s).tku = s.tku := by simp [embossAtHold]
@[simp] theorem embossAtHold_rlu (s : State) : (embossAtHold s).rlu = s.rlu := by simp [embossAtHold]
@[simp] theorem embossAtHold_smu (s : State) : (embossAtHold s).smu = s.smu := by simp [embossAtHold]
@[simp] theorem embossAtHold_rku (s : State) : (embossAtHold s).rku = s.rku := by simp [embossAtHold]
@[simp] theorem embossAtHold_btu (s : State) : (embossAtHold s).btu = s.btu := by simp [embossAtHold]
@[simp] theorem embossAtHold_lbp (s : State) : (embossAtHold s).lbp = s.lbp := by simp [embossAtHold]
@[simp] theorem embossAtHold_pins (s : State) : (embossAtHold s).pins = s.pins := by simp [embossAtHold]
@[simp] theorem embossAtHold_pending (s : State) : (embossAtHold s).pending = s.pending := by simp [embossAtHold]
@[simp] theorem embossAtHold_evu (s : State) : (embossAtHold s).evu = s.evu := by simp [embossAtHold]
@[simp] theorem embossAtHold_svl (s : State) : (embossAtHold s).svl = s.svl := by simp [embossAtHold]
@[simp] theorem embossAtHold_epu_params (s : State) : (embossAtHold s).epu.params = s.epu.params := by simp [embossAtHold]
@[simp] theorem embossAtHold_epu_lastPhase (s : State) : (embossAtHold s).epu.lastPhase = s.epu.lastPhase := by simp [embossAtHold]
@[simp] theorem embossAtHold_epu_lastOutcome (s : State) : (embossAtHold s).epu.lastOutcome = s.epu.lastOutcome := by simp [embossAtHold]
@[simp] theorem embossAtHold_epu_lastIndex (s : State) : (embossAtHold s).epu.lastIndex = s.epu.lastIndex := by simp [embossAtHold]
@[simp] theorem embossAtHold_epu_eixPrev (s : State) : (embossAtHold s).epu.eixPrev = s.epu.eixPrev := by simp [embossAtHold]
@[simp] theorem embossAtStop_wtb (s : State) : (embossAtStop s).wtb = s.wtb := by simp [embossAtStop]
@[simp] theorem embossAtStop_tku (s : State) : (embossAtStop s).tku = s.tku := by simp [embossAtStop]
@[simp] theorem embossAtStop_rlu (s : State) : (embossAtStop s).rlu = s.rlu := by simp [embossAtStop]
@[simp] theorem embossAtStop_smu (s : State) : (embossAtStop s).smu = s.smu := by simp [embossAtStop]
@[simp] theorem embossAtStop_rku (s : State) : (embossAtStop s).rku = s.rku := by simp [embossAtStop]
@[simp] theorem embossAtStop_btu (s : State) : (embossAtStop s).btu = s.btu := by simp [embossAtStop]
@[simp] theorem embossAtStop_lbp (s : State) : (embossAtStop s).lbp = s.lbp := by simp [embossAtStop]
@[simp] theorem embossAtStop_pins (s : State) : (embossAtStop s).pins = s.pins := by simp [embossAtStop]
@[simp] theorem embossAtStop_pending (s : State) : (embossAtStop s).pending = s.pending := by simp [embossAtStop]
@[simp] theorem embossAtStop_evu (s : State) : (embossAtStop s).evu = s.evu := by simp [embossAtStop]
@[simp] theorem embossAtStop_svl (s : State) : (embossAtStop s).svl = s.svl := by simp [embossAtStop]
@[simp] theorem embossAtStop_epu_params (s : State) : (embossAtStop s).epu.params = s.epu.params := by simp [embossAtStop]
@[simp] theorem embossAtStop_epu_lastPhase (s : State) : (embossAtStop s).epu.lastPhase = s.epu.lastPhase := by simp [embossAtStop]
@[simp] theorem embossAtStop_epu_lastOutcome (s : State) : (embossAtStop s).epu.lastOutcome = s.epu.lastOutcome := by simp [embossAtStop]
@[simp] theorem embossAtStop_epu_lastIndex (s : State) : (embossAtStop s).epu.lastIndex = s.epu.lastIndex := by simp [embossAtStop]
@[simp] theorem embossAtStop_epu_eixPrev (s : State) : (embossAtStop s).epu.eixPrev = s.epu.eixPrev := by simp [embossAtStop]
@[simp] theorem releaseEmboss_wtb (s : State) : (releaseEmboss s).wtb = s.wtb := by
  unfold releaseEmboss
  dsimp only
  split <;> simp
@[simp] theorem releaseEmboss_tku (s : State) : (releaseEmboss s).tku = s.tku := by
  unfold releaseEmboss
  dsimp only
  split <;> simp
@[simp] theorem releaseEmboss_rlu (s : State) : (releaseEmboss s).rlu = s.rlu := by
  unfold releaseEmboss
  dsimp only
  split <;> simp
@[simp] theorem releaseEmboss_smu (s : State) : (releaseEmboss s).smu = s.smu := by
  unfold releaseEmboss
  dsimp only
  split <;> simp
@[simp] theorem releaseEmboss_rku (s : State) : (releaseEmboss s).rku = s.rku := by
  unfold releaseEmboss
  dsimp only
  split <;> simp
@[simp] theorem releaseEmboss_btu (s : State) : (releaseEmboss s).btu = s.btu := by
  unfold releaseEmboss
  dsimp only
  split <;> simp
@[simp] theorem releaseEmboss_lbp (s : State) : (releaseEmboss s).lbp = s.lbp := by
  unfold releaseEmboss
  dsimp only
  split <;> simp
@[simp] theorem releaseEmboss_pins (s : State) : (releaseEmboss s).pins = s.pins := by
  unfold releaseEmboss
  dsimp only
  split <;> simp
@[simp] theorem releaseEmboss_pending (s : State) : (releaseEmboss s).pending = s.pending := by
  unfold releaseEmboss
  dsimp only
  split <;> simp
@[simp] theorem releaseEmboss_evu (s : State) : (releaseEmboss s).evu = s.evu := by
  unfold releaseEmboss
  dsimp only
  split <;> simp
@[simp] theorem releaseEmboss_svl (s : State) : (releaseEmboss s).svl = s.svl := by
  unfold releaseEmboss
  dsimp only
  split <;> simp
@[simp] theorem releaseEmboss_epu_params (s : State) : (releaseEmboss s).epu.params = s.epu.params := by
  unfold releaseEmboss
  dsimp only
  split <;> simp
@[simp] theorem releaseEmboss_epu_lastPhase (s : State) : (releaseEmboss s).epu.lastPhase = s.epu.lastPhase := by
  unfold releaseEmboss
  dsimp only
  split <;> simp
@[simp] theorem releaseEmboss_epu_lastOutcome (s : State) : (releaseEmboss s).epu.lastOutcome = s.epu.lastOutcome := by
  unfold releaseEmboss
  dsimp only
  split <;> simp
@[simp] theorem releaseEmboss_epu_lastIndex (s : State) : (releaseEmboss s).epu.lastIndex = s.epu.lastIndex := by
  unfold releaseEmboss
  dsimp only
  split <;> simp
@[simp] theorem releaseEmboss_epu_eixPrev (s : State) : (releaseEmboss s).epu.eixPrev = s.epu.eixPrev := by
  unfold releaseEmboss
  dsimp only
  split <;> simp

/-- HOLD is entered in the line state, the resume flag and the emboss unit alone. -/
@[simp] theorem enterHold_wtb (armed : Bool) (s : State) :
    (enterHold armed s).wtb = { s.wtb with line := .hold, resumeArmed := armed } := by simp [enterHold]
@[simp] theorem enterHold_tku (armed : Bool) (s : State) : (enterHold armed s).tku = s.tku := by simp [enterHold]
@[simp] theorem enterHold_rlu (armed : Bool) (s : State) : (enterHold armed s).rlu = s.rlu := by simp [enterHold]
@[simp] theorem enterHold_smu (armed : Bool) (s : State) : (enterHold armed s).smu = s.smu := by simp [enterHold]
@[simp] theorem enterHold_rku (armed : Bool) (s : State) : (enterHold armed s).rku = s.rku := by simp [enterHold]
@[simp] theorem enterHold_btu (armed : Bool) (s : State) : (enterHold armed s).btu = s.btu := by simp [enterHold]
@[simp] theorem enterHold_lbp (armed : Bool) (s : State) : (enterHold armed s).lbp = s.lbp := by simp [enterHold]
@[simp] theorem enterHold_pins (armed : Bool) (s : State) : (enterHold armed s).pins = s.pins := by simp [enterHold]
@[simp] theorem enterHold_pending (armed : Bool) (s : State) : (enterHold armed s).pending = s.pending := by simp [enterHold]
@[simp] theorem enterHold_evu (armed : Bool) (s : State) : (enterHold armed s).evu = s.evu := by simp [enterHold]
@[simp] theorem enterHold_svl (armed : Bool) (s : State) : (enterHold armed s).svl = s.svl := by simp [enterHold]
@[simp] theorem enterHold_epu_params (armed : Bool) (s : State) : (enterHold armed s).epu.params = s.epu.params := by simp [enterHold]
@[simp] theorem enterHold_epu_lastPhase (armed : Bool) (s : State) : (enterHold armed s).epu.lastPhase = s.epu.lastPhase := by simp [enterHold]
@[simp] theorem enterHold_epu_lastOutcome (armed : Bool) (s : State) : (enterHold armed s).epu.lastOutcome = s.epu.lastOutcome := by simp [enterHold]
@[simp] theorem enterHold_epu_lastIndex (armed : Bool) (s : State) : (enterHold armed s).epu.lastIndex = s.epu.lastIndex := by simp [enterHold]
@[simp] theorem enterHold_epu_eixPrev (armed : Bool) (s : State) : (enterHold armed s).epu.eixPrev = s.epu.eixPrev := by simp [enterHold]
@[simp] theorem onLane_wtb (l : Lane) (f : LaneControl → LaneControl) (s : State) : (s.onLane l f).wtb = s.wtb := by cases l <;> rfl
@[simp] theorem onLane_tku (l : Lane) (f : LaneControl → LaneControl) (s : State) : (s.onLane l f).tku = s.tku := by cases l <;> rfl
@[simp] theorem onLane_rlu (l : Lane) (f : LaneControl → LaneControl) (s : State) : (s.onLane l f).rlu = s.rlu := by cases l <;> rfl
@[simp] theorem onLane_epu (l : Lane) (f : LaneControl → LaneControl) (s : State) : (s.onLane l f).epu = s.epu := by cases l <;> rfl
@[simp] theorem onLane_smu (l : Lane) (f : LaneControl → LaneControl) (s : State) : (s.onLane l f).smu = s.smu := by cases l <;> rfl
@[simp] theorem onLane_btu (l : Lane) (f : LaneControl → LaneControl) (s : State) : (s.onLane l f).btu = s.btu := by cases l <;> rfl
@[simp] theorem onLane_lbp (l : Lane) (f : LaneControl → LaneControl) (s : State) : (s.onLane l f).lbp = s.lbp := by cases l <;> rfl
@[simp] theorem onLane_pins (l : Lane) (f : LaneControl → LaneControl) (s : State) : (s.onLane l f).pins = s.pins := by cases l <;> rfl
@[simp] theorem onLane_pending (l : Lane) (f : LaneControl → LaneControl) (s : State) : (s.onLane l f).pending = s.pending := by cases l <;> rfl
@[simp] theorem onLane_evu (l : Lane) (f : LaneControl → LaneControl) (s : State) : (s.onLane l f).evu = s.evu := by cases l <;> rfl
@[simp] theorem onLane_svl (l : Lane) (f : LaneControl → LaneControl) (s : State) : (s.onLane l f).svl = s.svl := by cases l <;> rfl
@[simp] theorem onLane_rku_history (l : Lane) (f : LaneControl → LaneControl) (s : State) : (s.onLane l f).rku.history = s.rku.history := by cases l <;> rfl
@[simp] theorem onLane_rku_nextRoll (l : Lane) (f : LaneControl → LaneControl) (s : State) : (s.onLane l f).rku.nextRoll = s.rku.nextRoll := by cases l <;> rfl
@[simp] theorem onLane_rku_wrapped (l : Lane) (f : LaneControl → LaneControl) (s : State) : (s.onLane l f).rku.wrapped = s.rku.wrapped := by cases l <;> rfl
@[simp] theorem onLane_rku_readCursor (l : Lane) (f : LaneControl → LaneControl) (s : State) : (s.onLane l f).rku.readCursor = s.rku.readCursor := by cases l <;> rfl
@[simp] theorem cutLane_wtb (l : Lane) (s : State) : (cutLane l s).wtb = s.wtb := by
  unfold cutLane
  split <;> simp
@[simp] theorem cutLane_tku (l : Lane) (s : State) : (cutLane l s).tku = s.tku := by
  unfold cutLane
  split <;> simp
@[simp] theorem cutLane_rlu (l : Lane) (s : State) : (cutLane l s).rlu = s.rlu := by
  unfold cutLane
  split <;> simp
@[simp] theorem cutLane_epu (l : Lane) (s : State) : (cutLane l s).epu = s.epu := by
  unfold cutLane
  split <;> simp
@[simp] theorem cutLane_smu (l : Lane) (s : State) : (cutLane l s).smu = s.smu := by
  unfold cutLane
  split <;> simp
@[simp] theorem cutLane_btu (l : Lane) (s : State) : (cutLane l s).btu = s.btu := by
  unfold cutLane
  split <;> simp
@[simp] theorem cutLane_lbp (l : Lane) (s : State) : (cutLane l s).lbp = s.lbp := by
  unfold cutLane
  split <;> simp
@[simp] theorem cutLane_pins (l : Lane) (s : State) : (cutLane l s).pins = s.pins := by
  unfold cutLane
  split <;> simp
@[simp] theorem cutLane_pending (l : Lane) (s : State) : (cutLane l s).pending = s.pending := by
  unfold cutLane
  split <;> simp
@[simp] theorem cutLane_evu (l : Lane) (s : State) : (cutLane l s).evu = s.evu := by
  unfold cutLane
  split <;> simp
@[simp] theorem cutLane_svl (l : Lane) (s : State) : (cutLane l s).svl = s.svl := by
  unfold cutLane
  split <;> simp
@[simp] theorem cutLane_rku_history (l : Lane) (s : State) : (cutLane l s).rku.history = s.rku.history := by
  unfold cutLane
  split <;> simp
@[simp] theorem cutLane_rku_nextRoll (l : Lane) (s : State) : (cutLane l s).rku.nextRoll = s.rku.nextRoll := by
  unfold cutLane
  split <;> simp
@[simp] theorem cutLane_rku_wrapped (l : Lane) (s : State) : (cutLane l s).rku.wrapped = s.rku.wrapped := by
  unfold cutLane
  split <;> simp
@[simp] theorem cutLane_rku_readCursor (l : Lane) (s : State) : (cutLane l s).rku.readCursor = s.rku.readCursor := by
  unfold cutLane
  split <;> simp
@[simp] theorem joinSpot_wtb (c : SpotContext) (s : State) : (joinSpot c s).wtb = s.wtb := by simp [joinSpot]
@[simp] theorem joinSpot_tku (c : SpotContext) (s : State) : (joinSpot c s).tku = s.tku := by simp [joinSpot]
@[simp] theorem joinSpot_rlu (c : SpotContext) (s : State) : (joinSpot c s).rlu = s.rlu := by simp [joinSpot]
@[simp] theorem joinSpot_epu (c : SpotContext) (s : State) : (joinSpot c s).epu = s.epu := by simp [joinSpot]
@[simp] theorem joinSpot_rku (c : SpotContext) (s : State) : (joinSpot c s).rku = s.rku := by simp [joinSpot]
@[simp] theorem joinSpot_btu (c : SpotContext) (s : State) : (joinSpot c s).btu = s.btu := by simp [joinSpot]
@[simp] theorem joinSpot_lbp (c : SpotContext) (s : State) : (joinSpot c s).lbp = s.lbp := by simp [joinSpot]
@[simp] theorem joinSpot_pins (c : SpotContext) (s : State) : (joinSpot c s).pins = s.pins := by simp [joinSpot]
@[simp] theorem joinSpot_pending (c : SpotContext) (s : State) : (joinSpot c s).pending = s.pending := by simp [joinSpot]
@[simp] theorem joinSpot_evu (c : SpotContext) (s : State) : (joinSpot c s).evu = s.evu := by simp [joinSpot]
@[simp] theorem joinSpot_svl (c : SpotContext) (s : State) : (joinSpot c s).svl = s.svl := by simp [joinSpot]
@[simp] theorem joinSpot_smu_params (c : SpotContext) (s : State) : (joinSpot c s).smu.params = s.smu.params := by simp [joinSpot]
@[simp] theorem joinSpot_smu_results (c : SpotContext) (s : State) : (joinSpot c s).smu.results = s.smu.results := by simp [joinSpot]
@[simp] theorem joinSpot_smu_bus (c : SpotContext) (s : State) : (joinSpot c s).smu.bus = s.smu.bus := by simp [joinSpot]
@[simp] theorem joinSpot_smu_scan (c : SpotContext) (s : State) : (joinSpot c s).smu.scan = s.smu.scan := by simp [joinSpot]
@[simp] theorem joinSpot_smu_overrun (c : SpotContext) (s : State) : (joinSpot c s).smu.overrun = s.smu.overrun := by simp [joinSpot]
@[simp] theorem joinSpot_smu_pointer (c : SpotContext) (s : State) : (joinSpot c s).smu.pointer = s.smu.pointer := by simp [joinSpot]
@[simp] theorem joinSpot_smu_enables (c : SpotContext) (s : State) : (joinSpot c s).smu.enables = s.smu.enables := by simp [joinSpot]
@[simp] theorem joinSpot_smu_faults (c : SpotContext) (s : State) : (joinSpot c s).smu.faults = s.smu.faults := by simp [joinSpot]
@[simp] theorem joinSpot_smu_heldStops (c : SpotContext) (s : State) : (joinSpot c s).smu.heldStops = s.smu.heldStops := by simp [joinSpot]
@[simp] theorem joinSpot_smu_calRun (c : SpotContext) (s : State) : (joinSpot c s).smu.calRun = s.smu.calRun := by simp [joinSpot]
@[simp] theorem joinSpot_smu_active (c : SpotContext) (s : State) : (joinSpot c s).smu.active = s.smu.active := by simp [joinSpot]
@[simp] theorem joinSpot_smu_staged (c : SpotContext) (s : State) : (joinSpot c s).smu.staged = s.smu.staged := by simp [joinSpot]
@[simp] theorem joinSpot_smu_guardR (c : SpotContext) (s : State) : (joinSpot c s).smu.guardR = s.smu.guardR := by simp [joinSpot]
@[simp] theorem joinSpot_smu_guardG (c : SpotContext) (s : State) : (joinSpot c s).smu.guardG = s.smu.guardG := by simp [joinSpot]
@[simp] theorem joinSpot_smu_guardB (c : SpotContext) (s : State) : (joinSpot c s).smu.guardB = s.smu.guardB := by simp [joinSpot]
@[simp] theorem joinSpot_smu_seqBits (c : SpotContext) (s : State) : (joinSpot c s).smu.seqBits = s.smu.seqBits := by simp [joinSpot]
@[simp] theorem spotTrigger_wtb (src : SpotSource) (s : State) : (spotTrigger src s).wtb = s.wtb := by
  unfold spotTrigger
  split <;> simp
@[simp] theorem spotTrigger_tku (src : SpotSource) (s : State) : (spotTrigger src s).tku = s.tku := by
  unfold spotTrigger
  split <;> simp
@[simp] theorem spotTrigger_rlu (src : SpotSource) (s : State) : (spotTrigger src s).rlu = s.rlu := by
  unfold spotTrigger
  split <;> simp
@[simp] theorem spotTrigger_epu (src : SpotSource) (s : State) : (spotTrigger src s).epu = s.epu := by
  unfold spotTrigger
  split <;> simp
@[simp] theorem spotTrigger_rku (src : SpotSource) (s : State) : (spotTrigger src s).rku = s.rku := by
  unfold spotTrigger
  split <;> simp
@[simp] theorem spotTrigger_btu (src : SpotSource) (s : State) : (spotTrigger src s).btu = s.btu := by
  unfold spotTrigger
  split <;> simp
@[simp] theorem spotTrigger_lbp (src : SpotSource) (s : State) : (spotTrigger src s).lbp = s.lbp := by
  unfold spotTrigger
  split <;> simp
@[simp] theorem spotTrigger_pins (src : SpotSource) (s : State) : (spotTrigger src s).pins = s.pins := by
  unfold spotTrigger
  split <;> simp
@[simp] theorem spotTrigger_pending (src : SpotSource) (s : State) : (spotTrigger src s).pending = s.pending := by
  unfold spotTrigger
  split <;> simp
@[simp] theorem spotTrigger_evu (src : SpotSource) (s : State) : (spotTrigger src s).evu = s.evu := by
  unfold spotTrigger
  split <;> simp
@[simp] theorem spotTrigger_svl (src : SpotSource) (s : State) : (spotTrigger src s).svl = s.svl := by
  unfold spotTrigger
  split <;> simp
@[simp] theorem spotTrigger_smu_params (src : SpotSource) (s : State) : (spotTrigger src s).smu.params = s.smu.params := by
  unfold spotTrigger
  split <;> simp
@[simp] theorem spotTrigger_smu_results (src : SpotSource) (s : State) : (spotTrigger src s).smu.results = s.smu.results := by
  unfold spotTrigger
  split <;> simp
@[simp] theorem spotTrigger_smu_bus (src : SpotSource) (s : State) : (spotTrigger src s).smu.bus = s.smu.bus := by
  unfold spotTrigger
  split <;> simp
@[simp] theorem spotTrigger_smu_scan (src : SpotSource) (s : State) : (spotTrigger src s).smu.scan = s.smu.scan := by
  unfold spotTrigger
  split <;> simp
@[simp] theorem spotTrigger_smu_overrun (src : SpotSource) (s : State) : (spotTrigger src s).smu.overrun = s.smu.overrun := by
  unfold spotTrigger
  split <;> simp
@[simp] theorem spotTrigger_smu_pointer (src : SpotSource) (s : State) : (spotTrigger src s).smu.pointer = s.smu.pointer := by
  unfold spotTrigger
  split <;> simp
@[simp] theorem spotTrigger_smu_enables (src : SpotSource) (s : State) : (spotTrigger src s).smu.enables = s.smu.enables := by
  unfold spotTrigger
  split <;> simp
@[simp] theorem spotTrigger_smu_faults (src : SpotSource) (s : State) : (spotTrigger src s).smu.faults = s.smu.faults := by
  unfold spotTrigger
  split <;> simp
@[simp] theorem spotTrigger_smu_heldStops (src : SpotSource) (s : State) : (spotTrigger src s).smu.heldStops = s.smu.heldStops := by
  unfold spotTrigger
  split <;> simp
@[simp] theorem spotTrigger_smu_calRun (src : SpotSource) (s : State) : (spotTrigger src s).smu.calRun = s.smu.calRun := by
  unfold spotTrigger
  split <;> simp
@[simp] theorem spotTrigger_smu_active (src : SpotSource) (s : State) : (spotTrigger src s).smu.active = s.smu.active := by
  unfold spotTrigger
  split <;> simp
@[simp] theorem spotTrigger_smu_staged (src : SpotSource) (s : State) : (spotTrigger src s).smu.staged = s.smu.staged := by
  unfold spotTrigger
  split <;> simp
@[simp] theorem spotTrigger_smu_guardR (src : SpotSource) (s : State) : (spotTrigger src s).smu.guardR = s.smu.guardR := by
  unfold spotTrigger
  split <;> simp
@[simp] theorem spotTrigger_smu_guardG (src : SpotSource) (s : State) : (spotTrigger src s).smu.guardG = s.smu.guardG := by
  unfold spotTrigger
  split <;> simp
@[simp] theorem spotTrigger_smu_guardB (src : SpotSource) (s : State) : (spotTrigger src s).smu.guardB = s.smu.guardB := by
  unfold spotTrigger
  split <;> simp
@[simp] theorem spotTrigger_smu_seqBits (src : SpotSource) (s : State) : (spotTrigger src s).smu.seqBits = s.smu.seqBits := by
  unfold spotTrigger
  split <;> simp
@[simp] theorem setBreak_wtb (s : State) : (setBreak s).wtb = s.wtb := by simp [setBreak]
@[simp] theorem setBreak_tku (s : State) : (setBreak s).tku = s.tku := by simp [setBreak]
@[simp] theorem setBreak_rlu (s : State) : (setBreak s).rlu = s.rlu := by simp [setBreak]
@[simp] theorem setBreak_epu (s : State) : (setBreak s).epu = s.epu := by simp [setBreak]
@[simp] theorem setBreak_smu (s : State) : (setBreak s).smu = s.smu := by simp [setBreak]
@[simp] theorem setBreak_rku (s : State) : (setBreak s).rku = s.rku := by simp [setBreak]
@[simp] theorem setBreak_lbp (s : State) : (setBreak s).lbp = s.lbp := by simp [setBreak]
@[simp] theorem setBreak_pins (s : State) : (setBreak s).pins = s.pins := by simp [setBreak]
@[simp] theorem setBreak_pending (s : State) : (setBreak s).pending = s.pending := by simp [setBreak]
@[simp] theorem setBreak_evu (s : State) : (setBreak s).evu = s.evu := by simp [setBreak]
@[simp] theorem setBreak_svl (s : State) : (setBreak s).svl = s.svl := by simp [setBreak]
@[simp] theorem setBreak_btu_batches (s : State) : (setBreak s).btu.batches = s.btu.batches := by simp [setBreak]
@[simp] theorem setBreak_btu_sequence (s : State) : (setBreak s).btu.sequence = s.btu.sequence := by simp [setBreak]
@[simp] theorem setBreak_btu_params (s : State) : (setBreak s).btu.params = s.btu.params := by simp [setBreak]
@[simp] theorem setBreak_btu_takes (s : State) : (setBreak s).btu.takes = s.btu.takes := by simp [setBreak]
@[simp] theorem countRoute_wtb (slot : Fin 4) (s : State) : (countRoute slot s).wtb = s.wtb := by
  unfold countRoute
  split
  · rfl
  · split <;> simp
@[simp] theorem countRoute_tku (slot : Fin 4) (s : State) : (countRoute slot s).tku = s.tku := by
  unfold countRoute
  split
  · rfl
  · split <;> simp
@[simp] theorem countRoute_rlu (slot : Fin 4) (s : State) : (countRoute slot s).rlu = s.rlu := by
  unfold countRoute
  split
  · rfl
  · split <;> simp
@[simp] theorem countRoute_epu (slot : Fin 4) (s : State) : (countRoute slot s).epu = s.epu := by
  unfold countRoute
  split
  · rfl
  · split <;> simp
@[simp] theorem countRoute_smu (slot : Fin 4) (s : State) : (countRoute slot s).smu = s.smu := by
  unfold countRoute
  split
  · rfl
  · split <;> simp
@[simp] theorem countRoute_rku (slot : Fin 4) (s : State) : (countRoute slot s).rku = s.rku := by
  unfold countRoute
  split
  · rfl
  · split <;> simp
@[simp] theorem countRoute_btu (slot : Fin 4) (s : State) : (countRoute slot s).btu = s.btu := by
  unfold countRoute
  split
  · rfl
  · split <;> simp
@[simp] theorem countRoute_lbp (slot : Fin 4) (s : State) : (countRoute slot s).lbp = s.lbp := by
  unfold countRoute
  split
  · rfl
  · split <;> simp
@[simp] theorem countRoute_pins (slot : Fin 4) (s : State) : (countRoute slot s).pins = s.pins := by
  unfold countRoute
  split
  · rfl
  · split <;> simp
@[simp] theorem countRoute_pending (slot : Fin 4) (s : State) : (countRoute slot s).pending = s.pending := by
  unfold countRoute
  split
  · rfl
  · split <;> simp
@[simp] theorem countRoute_evu_levels (slot : Fin 4) (s : State) : (countRoute slot s).evu.levels = s.evu.levels := by
  unfold countRoute
  split
  · rfl
  · split <;> simp
@[simp] theorem countRoute_evu_floor (slot : Fin 4) (s : State) : (countRoute slot s).evu.floor = s.evu.floor := by
  unfold countRoute
  split
  · rfl
  · split <;> simp
@[simp] theorem countRoute_svl_receiver (slot : Fin 4) (s : State) : (countRoute slot s).svl.receiver = s.svl.receiver := by
  unfold countRoute
  split
  · rfl
  · split <;> simp
@[simp] theorem countRoute_svl_input (slot : Fin 4) (s : State) : (countRoute slot s).svl.input = s.svl.input := by
  unfold countRoute
  split
  · rfl
  · split <;> simp
@[simp] theorem countRoute_svl_discarded (slot : Fin 4) (s : State) : (countRoute slot s).svl.discarded = s.svl.discarded := by
  unfold countRoute
  split
  · rfl
  · split <;> simp

/-! ### An occurrence -/

/-- What the notice path, every route action at its owner, and the count of a done action keep, the raising of an
occurrence keeps. -/
theorem raise_keeps (P : State → Prop)
    (hNotice : ∀ ev p1 p2 t, P t → P (notice ev p1 p2 t))
    (hSpot : ∀ c t, spotRefusal t = none → P t → P (joinSpot c t))
    (hTrigger : ∀ slot t, P t → P (spotTrigger (.route slot) t))
    (hCut : ∀ l t, P t → P (cutLane l t))
    (hHold : ∀ t, t.wtb.line = .run → P t → P (enterHold false t))
    (hDisarm : ∀ t, t.wtb.line = .hold → P t → P (t.onWtb (fun w => { w with resumeArmed := false })))
    (hRelease : ∀ t, P t → P (releaseEmboss t))
    (hBreak : ∀ t, P t → P (setBreak t))
    (hCount : ∀ slot t, P t → P (countRoute slot t))
    (ev : Event) (p1 p2 : Nat) (s : State) (h : P s) : P (raise ev p1 p2 s) := by
  have hFold : ∀ (ls : List Lane) (t : State), P t → P (ls.foldl (fun t l => cutLane l t) t) := by
    intro ls
    induction ls with
    | nil => exact fun t ht => ht
    | cons l ls ih => exact fun t ht => ih _ (hCut l t ht)
  have hRun : ∀ slot action lanes, P (runAction slot action lanes s).state := by
    intro slot action lanes
    cases action with
    | spot t =>
      cases t with
      | none => exact hTrigger slot s h
      | some t =>
        simp only [runAction]
        split
        · exact hSpot _ s (by assumption) h
        · exact h
    | cut t =>
      cases t with
      | lane l => exact hCut l s h
      | event => exact hFold lanes s h
    | holdLine =>
      simp only [runAction]
      split
      · exact hHold s (by assumption) h
      · exact hDisarm s (by assumption) h
      all_goals exact h
    | releaseEmboss =>
      simp only [runAction]
      split
      · exact hRelease s h
      · exact hRelease s h
      all_goals exact h
    | newBatch => exact hBreak s h
  unfold raise
  split
  · exact hNotice ev p1 p2 s h
  · rename_i slot r _
    dsimp only
    split
    · unfold finishAction
      dsimp only
      split
      · exact hNotice _ _ _ _ (hCount slot _ (hRun slot r.action _))
      · exact hCount slot _ (hRun slot r.action _)
    · exact hNotice _ _ _ _ (hRun slot r.action _)

@[simp] theorem raise_tku (ev : Event) (p1 p2 : Nat) (s : State) : (raise ev p1 p2 s).tku = s.tku := by
  refine raise_keeps (fun t => t.tku = s.tku) ?_ ?_ ?_ ?_ ?_ ?_ ?_ ?_ ?_ ev p1 p2 s rfl <;>
    intros <;> simp_all
@[simp] theorem raise_rlu (ev : Event) (p1 p2 : Nat) (s : State) : (raise ev p1 p2 s).rlu = s.rlu := by
  refine raise_keeps (fun t => t.rlu = s.rlu) ?_ ?_ ?_ ?_ ?_ ?_ ?_ ?_ ?_ ev p1 p2 s rfl <;>
    intros <;> simp_all
@[simp] theorem raise_lbp (ev : Event) (p1 p2 : Nat) (s : State) : (raise ev p1 p2 s).lbp = s.lbp := by
  refine raise_keeps (fun t => t.lbp = s.lbp) ?_ ?_ ?_ ?_ ?_ ?_ ?_ ?_ ?_ ev p1 p2 s rfl <;>
    intros <;> simp_all
@[simp] theorem raise_pins (ev : Event) (p1 p2 : Nat) (s : State) : (raise ev p1 p2 s).pins = s.pins := by
  refine raise_keeps (fun t => t.pins = s.pins) ?_ ?_ ?_ ?_ ?_ ?_ ?_ ?_ ?_ ev p1 p2 s rfl <;>
    intros <;> simp_all
@[simp] theorem raise_pending (ev : Event) (p1 p2 : Nat) (s : State) : (raise ev p1 p2 s).pending = s.pending := by
  refine raise_keeps (fun t => t.pending = s.pending) ?_ ?_ ?_ ?_ ?_ ?_ ?_ ?_ ?_ ev p1 p2 s rfl <;>
    intros <;> simp_all
@[simp] theorem raise_evu_levels (ev : Event) (p1 p2 : Nat) (s : State) : (raise ev p1 p2 s).evu.levels = s.evu.levels := by
  refine raise_keeps (fun t => t.evu.levels = s.evu.levels) ?_ ?_ ?_ ?_ ?_ ?_ ?_ ?_ ?_ ev p1 p2 s rfl <;>
    intros <;> simp_all
@[simp] theorem raise_evu_floor (ev : Event) (p1 p2 : Nat) (s : State) : (raise ev p1 p2 s).evu.floor = s.evu.floor := by
  refine raise_keeps (fun t => t.evu.floor = s.evu.floor) ?_ ?_ ?_ ?_ ?_ ?_ ?_ ?_ ?_ ev p1 p2 s rfl <;>
    intros <;> simp_all
@[simp] theorem raise_svl_receiver (ev : Event) (p1 p2 : Nat) (s : State) : (raise ev p1 p2 s).svl.receiver = s.svl.receiver := by
  refine raise_keeps (fun t => t.svl.receiver = s.svl.receiver) ?_ ?_ ?_ ?_ ?_ ?_ ?_ ?_ ?_ ev p1 p2 s rfl <;>
    intros <;> simp_all
@[simp] theorem raise_svl_input (ev : Event) (p1 p2 : Nat) (s : State) : (raise ev p1 p2 s).svl.input = s.svl.input := by
  refine raise_keeps (fun t => t.svl.input = s.svl.input) ?_ ?_ ?_ ?_ ?_ ?_ ?_ ?_ ?_ ev p1 p2 s rfl <;>
    intros <;> simp_all
@[simp] theorem raise_svl_discarded (ev : Event) (p1 p2 : Nat) (s : State) : (raise ev p1 p2 s).svl.discarded = s.svl.discarded := by
  refine raise_keeps (fun t => t.svl.discarded = s.svl.discarded) ?_ ?_ ?_ ?_ ?_ ?_ ?_ ?_ ?_ ev p1 p2 s rfl <;>
    intros <;> simp_all
@[simp] theorem raise_wtb_wp (ev : Event) (p1 p2 : Nat) (s : State) : (raise ev p1 p2 s).wtb.wp = s.wtb.wp := by
  refine raise_keeps (fun t => t.wtb.wp = s.wtb.wp) ?_ ?_ ?_ ?_ ?_ ?_ ?_ ?_ ?_ ev p1 p2 s rfl <;>
    intros <;> simp_all
@[simp] theorem raise_wtb_hw (ev : Event) (p1 p2 : Nat) (s : State) : (raise ev p1 p2 s).wtb.hw = s.wtb.hw := by
  refine raise_keeps (fun t => t.wtb.hw = s.wtb.hw) ?_ ?_ ?_ ?_ ?_ ?_ ?_ ?_ ?_ ev p1 p2 s rfl <;>
    intros <;> simp_all
@[simp] theorem raise_wtb_newWeb (ev : Event) (p1 p2 : Nat) (s : State) : (raise ev p1 p2 s).wtb.newWeb = s.wtb.newWeb := by
  refine raise_keeps (fun t => t.wtb.newWeb = s.wtb.newWeb) ?_ ?_ ?_ ?_ ?_ ?_ ?_ ?_ ?_ ev p1 p2 s rfl <;>
    intros <;> simp_all
@[simp] theorem raise_wtb_excursion (ev : Event) (p1 p2 : Nat) (s : State) : (raise ev p1 p2 s).wtb.excursion = s.wtb.excursion := by
  refine raise_keeps (fun t => t.wtb.excursion = s.wtb.excursion) ?_ ?_ ?_ ?_ ?_ ?_ ?_ ?_ ?_ ev p1 p2 s rfl <;>
    intros <;> simp_all
@[simp] theorem raise_wtb_latched (ev : Event) (p1 p2 : Nat) (s : State) : (raise ev p1 p2 s).wtb.latched = s.wtb.latched := by
  refine raise_keeps (fun t => t.wtb.latched = s.wtb.latched) ?_ ?_ ?_ ?_ ?_ ?_ ?_ ?_ ?_ ev p1 p2 s rfl <;>
    intros <;> simp_all
@[simp] theorem raise_wtb_v (ev : Event) (p1 p2 : Nat) (s : State) : (raise ev p1 p2 s).wtb.v = s.wtb.v := by
  refine raise_keeps (fun t => t.wtb.v = s.wtb.v) ?_ ?_ ?_ ?_ ?_ ?_ ?_ ?_ ?_ ev p1 p2 s rfl <;>
    intros <;> simp_all
@[simp] theorem raise_wtb_crawl (ev : Event) (p1 p2 : Nat) (s : State) : (raise ev p1 p2 s).wtb.crawl = s.wtb.crawl := by
  refine raise_keeps (fun t => t.wtb.crawl = s.wtb.crawl) ?_ ?_ ?_ ?_ ?_ ?_ ?_ ?_ ?_ ev p1 p2 s rfl <;>
    intros <;> simp_all
@[simp] theorem raise_wtb_autoHold (ev : Event) (p1 p2 : Nat) (s : State) : (raise ev p1 p2 s).wtb.autoHold = s.wtb.autoHold := by
  refine raise_keeps (fun t => t.wtb.autoHold = s.wtb.autoHold) ?_ ?_ ?_ ?_ ?_ ?_ ?_ ?_ ?_ ev p1 p2 s rfl <;>
    intros <;> simp_all
@[simp] theorem raise_wtb_polarity (ev : Event) (p1 p2 : Nat) (s : State) : (raise ev p1 p2 s).wtb.polarity = s.wtb.polarity := by
  refine raise_keeps (fun t => t.wtb.polarity = s.wtb.polarity) ?_ ?_ ?_ ?_ ?_ ?_ ?_ ?_ ?_ ev p1 p2 s rfl <;>
    intros <;> simp_all
@[simp] theorem raise_epu_params (ev : Event) (p1 p2 : Nat) (s : State) : (raise ev p1 p2 s).epu.params = s.epu.params := by
  refine raise_keeps (fun t => t.epu.params = s.epu.params) ?_ ?_ ?_ ?_ ?_ ?_ ?_ ?_ ?_ ev p1 p2 s rfl <;>
    intros <;> simp_all
@[simp] theorem raise_epu_lastPhase (ev : Event) (p1 p2 : Nat) (s : State) : (raise ev p1 p2 s).epu.lastPhase = s.epu.lastPhase := by
  refine raise_keeps (fun t => t.epu.lastPhase = s.epu.lastPhase) ?_ ?_ ?_ ?_ ?_ ?_ ?_ ?_ ?_ ev p1 p2 s rfl <;>
    intros <;> simp_all
@[simp] theorem raise_epu_lastOutcome (ev : Event) (p1 p2 : Nat) (s : State) : (raise ev p1 p2 s).epu.lastOutcome = s.epu.lastOutcome := by
  refine raise_keeps (fun t => t.epu.lastOutcome = s.epu.lastOutcome) ?_ ?_ ?_ ?_ ?_ ?_ ?_ ?_ ?_ ev p1 p2 s rfl <;>
    intros <;> simp_all
@[simp] theorem raise_epu_lastIndex (ev : Event) (p1 p2 : Nat) (s : State) : (raise ev p1 p2 s).epu.lastIndex = s.epu.lastIndex := by
  refine raise_keeps (fun t => t.epu.lastIndex = s.epu.lastIndex) ?_ ?_ ?_ ?_ ?_ ?_ ?_ ?_ ?_ ev p1 p2 s rfl <;>
    intros <;> simp_all
@[simp] theorem raise_epu_eixPrev (ev : Event) (p1 p2 : Nat) (s : State) : (raise ev p1 p2 s).epu.eixPrev = s.epu.eixPrev := by
  refine raise_keeps (fun t => t.epu.eixPrev = s.epu.eixPrev) ?_ ?_ ?_ ?_ ?_ ?_ ?_ ?_ ?_ ev p1 p2 s rfl <;>
    intros <;> simp_all
@[simp] theorem raise_smu_params (ev : Event) (p1 p2 : Nat) (s : State) : (raise ev p1 p2 s).smu.params = s.smu.params := by
  refine raise_keeps (fun t => t.smu.params = s.smu.params) ?_ ?_ ?_ ?_ ?_ ?_ ?_ ?_ ?_ ev p1 p2 s rfl <;>
    intros <;> simp_all
@[simp] theorem raise_smu_results (ev : Event) (p1 p2 : Nat) (s : State) : (raise ev p1 p2 s).smu.results = s.smu.results := by
  refine raise_keeps (fun t => t.smu.results = s.smu.results) ?_ ?_ ?_ ?_ ?_ ?_ ?_ ?_ ?_ ev p1 p2 s rfl <;>
    intros <;> simp_all
@[simp] theorem raise_smu_bus (ev : Event) (p1 p2 : Nat) (s : State) : (raise ev p1 p2 s).smu.bus = s.smu.bus := by
  refine raise_keeps (fun t => t.smu.bus = s.smu.bus) ?_ ?_ ?_ ?_ ?_ ?_ ?_ ?_ ?_ ev p1 p2 s rfl <;>
    intros <;> simp_all
@[simp] theorem raise_smu_scan (ev : Event) (p1 p2 : Nat) (s : State) : (raise ev p1 p2 s).smu.scan = s.smu.scan := by
  refine raise_keeps (fun t => t.smu.scan = s.smu.scan) ?_ ?_ ?_ ?_ ?_ ?_ ?_ ?_ ?_ ev p1 p2 s rfl <;>
    intros <;> simp_all
@[simp] theorem raise_smu_overrun (ev : Event) (p1 p2 : Nat) (s : State) : (raise ev p1 p2 s).smu.overrun = s.smu.overrun := by
  refine raise_keeps (fun t => t.smu.overrun = s.smu.overrun) ?_ ?_ ?_ ?_ ?_ ?_ ?_ ?_ ?_ ev p1 p2 s rfl <;>
    intros <;> simp_all
@[simp] theorem raise_smu_pointer (ev : Event) (p1 p2 : Nat) (s : State) : (raise ev p1 p2 s).smu.pointer = s.smu.pointer := by
  refine raise_keeps (fun t => t.smu.pointer = s.smu.pointer) ?_ ?_ ?_ ?_ ?_ ?_ ?_ ?_ ?_ ev p1 p2 s rfl <;>
    intros <;> simp_all
@[simp] theorem raise_smu_enables (ev : Event) (p1 p2 : Nat) (s : State) : (raise ev p1 p2 s).smu.enables = s.smu.enables := by
  refine raise_keeps (fun t => t.smu.enables = s.smu.enables) ?_ ?_ ?_ ?_ ?_ ?_ ?_ ?_ ?_ ev p1 p2 s rfl <;>
    intros <;> simp_all
@[simp] theorem raise_smu_faults (ev : Event) (p1 p2 : Nat) (s : State) : (raise ev p1 p2 s).smu.faults = s.smu.faults := by
  refine raise_keeps (fun t => t.smu.faults = s.smu.faults) ?_ ?_ ?_ ?_ ?_ ?_ ?_ ?_ ?_ ev p1 p2 s rfl <;>
    intros <;> simp_all
@[simp] theorem raise_smu_heldStops (ev : Event) (p1 p2 : Nat) (s : State) : (raise ev p1 p2 s).smu.heldStops = s.smu.heldStops := by
  refine raise_keeps (fun t => t.smu.heldStops = s.smu.heldStops) ?_ ?_ ?_ ?_ ?_ ?_ ?_ ?_ ?_ ev p1 p2 s rfl <;>
    intros <;> simp_all
@[simp] theorem raise_smu_calRun (ev : Event) (p1 p2 : Nat) (s : State) : (raise ev p1 p2 s).smu.calRun = s.smu.calRun := by
  refine raise_keeps (fun t => t.smu.calRun = s.smu.calRun) ?_ ?_ ?_ ?_ ?_ ?_ ?_ ?_ ?_ ev p1 p2 s rfl <;>
    intros <;> simp_all
@[simp] theorem raise_smu_active (ev : Event) (p1 p2 : Nat) (s : State) : (raise ev p1 p2 s).smu.active = s.smu.active := by
  refine raise_keeps (fun t => t.smu.active = s.smu.active) ?_ ?_ ?_ ?_ ?_ ?_ ?_ ?_ ?_ ev p1 p2 s rfl <;>
    intros <;> simp_all
@[simp] theorem raise_smu_staged (ev : Event) (p1 p2 : Nat) (s : State) : (raise ev p1 p2 s).smu.staged = s.smu.staged := by
  refine raise_keeps (fun t => t.smu.staged = s.smu.staged) ?_ ?_ ?_ ?_ ?_ ?_ ?_ ?_ ?_ ev p1 p2 s rfl <;>
    intros <;> simp_all
@[simp] theorem raise_smu_guardR (ev : Event) (p1 p2 : Nat) (s : State) : (raise ev p1 p2 s).smu.guardR = s.smu.guardR := by
  refine raise_keeps (fun t => t.smu.guardR = s.smu.guardR) ?_ ?_ ?_ ?_ ?_ ?_ ?_ ?_ ?_ ev p1 p2 s rfl <;>
    intros <;> simp_all
@[simp] theorem raise_smu_guardG (ev : Event) (p1 p2 : Nat) (s : State) : (raise ev p1 p2 s).smu.guardG = s.smu.guardG := by
  refine raise_keeps (fun t => t.smu.guardG = s.smu.guardG) ?_ ?_ ?_ ?_ ?_ ?_ ?_ ?_ ?_ ev p1 p2 s rfl <;>
    intros <;> simp_all
@[simp] theorem raise_smu_guardB (ev : Event) (p1 p2 : Nat) (s : State) : (raise ev p1 p2 s).smu.guardB = s.smu.guardB := by
  refine raise_keeps (fun t => t.smu.guardB = s.smu.guardB) ?_ ?_ ?_ ?_ ?_ ?_ ?_ ?_ ?_ ev p1 p2 s rfl <;>
    intros <;> simp_all
@[simp] theorem raise_smu_seqBits (ev : Event) (p1 p2 : Nat) (s : State) : (raise ev p1 p2 s).smu.seqBits = s.smu.seqBits := by
  refine raise_keeps (fun t => t.smu.seqBits = s.smu.seqBits) ?_ ?_ ?_ ?_ ?_ ?_ ?_ ?_ ?_ ev p1 p2 s rfl <;>
    intros <;> simp_all
@[simp] theorem raise_btu_batches (ev : Event) (p1 p2 : Nat) (s : State) : (raise ev p1 p2 s).btu.batches = s.btu.batches := by
  refine raise_keeps (fun t => t.btu.batches = s.btu.batches) ?_ ?_ ?_ ?_ ?_ ?_ ?_ ?_ ?_ ev p1 p2 s rfl <;>
    intros <;> simp_all
@[simp] theorem raise_btu_sequence (ev : Event) (p1 p2 : Nat) (s : State) : (raise ev p1 p2 s).btu.sequence = s.btu.sequence := by
  refine raise_keeps (fun t => t.btu.sequence = s.btu.sequence) ?_ ?_ ?_ ?_ ?_ ?_ ?_ ?_ ?_ ev p1 p2 s rfl <;>
    intros <;> simp_all
@[simp] theorem raise_btu_params (ev : Event) (p1 p2 : Nat) (s : State) : (raise ev p1 p2 s).btu.params = s.btu.params := by
  refine raise_keeps (fun t => t.btu.params = s.btu.params) ?_ ?_ ?_ ?_ ?_ ?_ ?_ ?_ ?_ ev p1 p2 s rfl <;>
    intros <;> simp_all
@[simp] theorem raise_btu_takes (ev : Event) (p1 p2 : Nat) (s : State) : (raise ev p1 p2 s).btu.takes = s.btu.takes := by
  refine raise_keeps (fun t => t.btu.takes = s.btu.takes) ?_ ?_ ?_ ?_ ?_ ?_ ?_ ?_ ?_ ev p1 p2 s rfl <;>
    intros <;> simp_all
@[simp] theorem raise_rku_history (ev : Event) (p1 p2 : Nat) (s : State) : (raise ev p1 p2 s).rku.history = s.rku.history := by
  refine raise_keeps (fun t => t.rku.history = s.rku.history) ?_ ?_ ?_ ?_ ?_ ?_ ?_ ?_ ?_ ev p1 p2 s rfl <;>
    intros <;> simp_all
@[simp] theorem raise_rku_nextRoll (ev : Event) (p1 p2 : Nat) (s : State) : (raise ev p1 p2 s).rku.nextRoll = s.rku.nextRoll := by
  refine raise_keeps (fun t => t.rku.nextRoll = s.rku.nextRoll) ?_ ?_ ?_ ?_ ?_ ?_ ?_ ?_ ?_ ev p1 p2 s rfl <;>
    intros <;> simp_all
@[simp] theorem raise_rku_wrapped (ev : Event) (p1 p2 : Nat) (s : State) : (raise ev p1 p2 s).rku.wrapped = s.rku.wrapped := by
  refine raise_keeps (fun t => t.rku.wrapped = s.rku.wrapped) ?_ ?_ ?_ ?_ ?_ ?_ ?_ ?_ ?_ ev p1 p2 s rfl <;>
    intros <;> simp_all
@[simp] theorem raise_rku_readCursor (ev : Event) (p1 p2 : Nat) (s : State) : (raise ev p1 p2 s).rku.readCursor = s.rku.readCursor := by
  refine raise_keeps (fun t => t.rku.readCursor = s.rku.readCursor) ?_ ?_ ?_ ?_ ?_ ?_ ?_ ?_ ?_ ev p1 p2 s rfl <;>
    intros <;> simp_all

/-- An occurrence leaves the line where it stands, or its HOLD LINE takes RUN to HOLD (R11, R178). -/
theorem raise_line_cases (ev : Event) (p1 p2 : Nat) (s : State) :
    (raise ev p1 p2 s).wtb.line = s.wtb.line ∨
      (s.wtb.line = .run ∧ (raise ev p1 p2 s).wtb.line = .hold) := by
  refine raise_keeps (fun t => t.wtb.line = s.wtb.line ∨ (s.wtb.line = .run ∧ t.wtb.line = .hold))
    ?_ ?_ ?_ ?_ ?_ ?_ ?_ ?_ ?_ ev p1 p2 s (.inl rfl) <;>
    intros <;> simp_all

/-- An occurrence neither starts nor stops the track (R46). -/
@[simp] theorem raise_running (ev : Event) (p1 p2 : Nat) (s : State) :
    (raise ev p1 p2 s).running = s.running := by
  rcases raise_line_cases ev p1 p2 s with h | ⟨h, h'⟩ <;> simp [State.running, *]

/-- An occurrence that no slot binds goes to the notice path (R174). -/
theorem raise_unrouted (ev : Event) (p1 p2 : Nat) (s : State) (h : s.evu.routeFor ev = none) :
    raise ev p1 p2 s = notice ev p1 p2 s := by
  simp [raise, h]

end Sys2Proof.Machine
end

