-- ==== Sys2Proof/Laws/Shared.lean ====
section
/-! SUPPORT. The frames of the operations that the line's transitions share (Machine/Spots.lean, Machine/Line.lean):
what the ending of spot, scan and calibration work, an owed trim and the entries of the line states leave alone; and
what an overtaken offset and a reading of EIX can do. -/

namespace Sys2Proof.Machine

@[simp] theorem applyStaged_tku (i : Fin 6) (s : State) : (applyStaged i s).tku = s.tku := by
  unfold applyStaged
  split <;> rfl
@[simp] theorem applyStaged_rlu (i : Fin 6) (s : State) : (applyStaged i s).rlu = s.rlu := by
  unfold applyStaged
  split <;> rfl
@[simp] theorem applyStaged_lbp (i : Fin 6) (s : State) : (applyStaged i s).lbp = s.lbp := by
  unfold applyStaged
  split <;> rfl
@[simp] theorem applyStaged_pins (i : Fin 6) (s : State) : (applyStaged i s).pins = s.pins := by
  unfold applyStaged
  split <;> rfl
@[simp] theorem applyStaged_pending (i : Fin 6) (s : State) : (applyStaged i s).pending = s.pending := by
  unfold applyStaged
  split <;> rfl
@[simp] theorem applyStaged_wtb_wp (i : Fin 6) (s : State) : (applyStaged i s).wtb.wp = s.wtb.wp := by
  unfold applyStaged
  split <;> rfl
@[simp] theorem applyStaged_wtb_hw (i : Fin 6) (s : State) : (applyStaged i s).wtb.hw = s.wtb.hw := by
  unfold applyStaged
  split <;> rfl
@[simp] theorem applyStaged_wtb_latched (i : Fin 6) (s : State) : (applyStaged i s).wtb.latched = s.wtb.latched := by
  unfold applyStaged
  split <;> rfl
@[simp] theorem applyStaged_rku_history (i : Fin 6) (s : State) : (applyStaged i s).rku.history = s.rku.history := by
  unfold applyStaged
  split <;> rfl
@[simp] theorem applyStaged_btu_batches (i : Fin 6) (s : State) : (applyStaged i s).btu.batches = s.btu.batches := by
  unfold applyStaged
  split <;> rfl
@[simp] theorem applyStaged_svl_input (i : Fin 6) (s : State) : (applyStaged i s).svl.input = s.svl.input := by
  unfold applyStaged
  split <;> rfl
@[simp] theorem applyStaged_wtb (i : Fin 6) (s : State) : (applyStaged i s).wtb = s.wtb := by
  unfold applyStaged
  split <;> rfl
@[simp] theorem applyStaged_epu (i : Fin 6) (s : State) : (applyStaged i s).epu = s.epu := by
  unfold applyStaged
  split <;> rfl
@[simp] theorem applyStaged_rku (i : Fin 6) (s : State) : (applyStaged i s).rku = s.rku := by
  unfold applyStaged
  split <;> rfl
@[simp] theorem applyStaged_btu (i : Fin 6) (s : State) : (applyStaged i s).btu = s.btu := by
  unfold applyStaged
  split <;> rfl
@[simp] theorem applyStaged_evu (i : Fin 6) (s : State) : (applyStaged i s).evu = s.evu := by
  unfold applyStaged
  split <;> rfl
@[simp] theorem applyStaged_svl (i : Fin 6) (s : State) : (applyStaged i s).svl = s.svl := by
  unfold applyStaged
  split <;> rfl
@[simp] theorem offerResult_tku (r : SpotResult) (s : State) : (offerResult r s).tku = s.tku := by
  unfold offerResult
  dsimp only
  split
  · simp
  · split
    · split <;> simp
    · simp
@[simp] theorem offerResult_rlu (r : SpotResult) (s : State) : (offerResult r s).rlu = s.rlu := by
  unfold offerResult
  dsimp only
  split
  · simp
  · split
    · split <;> simp
    · simp
@[simp] theorem offerResult_lbp (r : SpotResult) (s : State) : (offerResult r s).lbp = s.lbp := by
  unfold offerResult
  dsimp only
  split
  · simp
  · split
    · split <;> simp
    · simp
@[simp] theorem offerResult_pins (r : SpotResult) (s : State) : (offerResult r s).pins = s.pins := by
  unfold offerResult
  dsimp only
  split
  · simp
  · split
    · split <;> simp
    · simp
@[simp] theorem offerResult_pending (r : SpotResult) (s : State) : (offerResult r s).pending = s.pending := by
  unfold offerResult
  dsimp only
  split
  · simp
  · split
    · split <;> simp
    · simp
@[simp] theorem offerResult_wtb_wp (r : SpotResult) (s : State) : (offerResult r s).wtb.wp = s.wtb.wp := by
  unfold offerResult
  dsimp only
  split
  · simp
  · split
    · split <;> simp
    · simp
@[simp] theorem offerResult_wtb_hw (r : SpotResult) (s : State) : (offerResult r s).wtb.hw = s.wtb.hw := by
  unfold offerResult
  dsimp only
  split
  · simp
  · split
    · split <;> simp
    · simp
@[simp] theorem offerResult_wtb_latched (r : SpotResult) (s : State) : (offerResult r s).wtb.latched = s.wtb.latched := by
  unfold offerResult
  dsimp only
  split
  · simp
  · split
    · split <;> simp
    · simp
@[simp] theorem offerResult_rku_history (r : SpotResult) (s : State) : (offerResult r s).rku.history = s.rku.history := by
  unfold offerResult
  dsimp only
  split
  · simp
  · split
    · split <;> simp
    · simp
@[simp] theorem offerResult_btu_batches (r : SpotResult) (s : State) : (offerResult r s).btu.batches = s.btu.batches := by
  unfold offerResult
  dsimp only
  split
  · simp
  · split
    · split <;> simp
    · simp
@[simp] theorem offerResult_svl_input (r : SpotResult) (s : State) : (offerResult r s).svl.input = s.svl.input := by
  unfold offerResult
  dsimp only
  split
  · simp
  · split
    · split <;> simp
    · simp
@[simp] theorem endSpot_tku (c : SpotContext) (st : SpotStatus) (s : State) : (endSpot c st s).tku = s.tku := by simp [endSpot]
@[simp] theorem endSpot_rlu (c : SpotContext) (st : SpotStatus) (s : State) : (endSpot c st s).rlu = s.rlu := by simp [endSpot]
@[simp] theorem endSpot_lbp (c : SpotContext) (st : SpotStatus) (s : State) : (endSpot c st s).lbp = s.lbp := by simp [endSpot]
@[simp] theorem endSpot_pins (c : SpotContext) (st : SpotStatus) (s : State) : (endSpot c st s).pins = s.pins := by simp [endSpot]
@[simp] theorem endSpot_pending (c : SpotContext) (st : SpotStatus) (s : State) : (endSpot c st s).pending = s.pending := by simp [endSpot]
@[simp] theorem endSpot_wtb_wp (c : SpotContext) (st : SpotStatus) (s : State) : (endSpot c st s).wtb.wp = s.wtb.wp := by simp [endSpot]
@[simp] theorem endSpot_wtb_hw (c : SpotContext) (st : SpotStatus) (s : State) : (endSpot c st s).wtb.hw = s.wtb.hw := by simp [endSpot]
@[simp] theorem endSpot_wtb_latched (c : SpotContext) (st : SpotStatus) (s : State) : (endSpot c st s).wtb.latched = s.wtb.latched := by simp [endSpot]
@[simp] theorem endSpot_rku_history (c : SpotContext) (st : SpotStatus) (s : State) : (endSpot c st s).rku.history = s.rku.history := by simp [endSpot]
@[simp] theorem endSpot_btu_batches (c : SpotContext) (st : SpotStatus) (s : State) : (endSpot c st s).btu.batches = s.btu.batches := by simp [endSpot]
@[simp] theorem endSpot_svl_input (c : SpotContext) (st : SpotStatus) (s : State) : (endSpot c st s).svl.input = s.svl.input := by simp [endSpot]

/-- What the ending of a spot keeps, once its context has been consumed, the ending of every spot of a list keeps. -/
theorem missPending_keeps (P : State → Prop) (p : SpotContext → Bool)
    (h : ∀ c rest t, P t → P (endSpot c .missed (t.onSmu (fun m => m.consume c rest)))) (fuel : Nat) (s : State)
    (hs : P s) : P (missPending p fuel s) := by
  induction fuel generalizing s with
  | zero => exact hs
  | succ n ih =>
    unfold missPending
    split
    · exact hs
    · exact ih _ (h _ _ s hs)

@[simp] theorem missAll_tku (p : SpotContext → Bool) (s : State) : (missAll p s).tku = s.tku := 
  missPending_keeps (fun t => t.tku = s.tku) p (fun _ _ _ h => by simpa using h) _ s rfl
@[simp] theorem missAll_rlu (p : SpotContext → Bool) (s : State) : (missAll p s).rlu = s.rlu := 
  missPending_keeps (fun t => t.rlu = s.rlu) p (fun _ _ _ h => by simpa using h) _ s rfl
@[simp] theorem missAll_lbp (p : SpotContext → Bool) (s : State) : (missAll p s).lbp = s.lbp := 
  missPending_keeps (fun t => t.lbp = s.lbp) p (fun _ _ _ h => by simpa using h) _ s rfl
@[simp] theorem missAll_pins (p : SpotContext → Bool) (s : State) : (missAll p s).pins = s.pins := 
  missPending_keeps (fun t => t.pins = s.pins) p (fun _ _ _ h => by simpa using h) _ s rfl
@[simp] theorem missAll_pending (p : SpotContext → Bool) (s : State) : (missAll p s).pending = s.pending := 
  missPending_keeps (fun t => t.pending = s.pending) p (fun _ _ _ h => by simpa using h) _ s rfl
@[simp] theorem missAll_wtb_wp (p : SpotContext → Bool) (s : State) : (missAll p s).wtb.wp = s.wtb.wp := 
  missPending_keeps (fun t => t.wtb.wp = s.wtb.wp) p (fun _ _ _ h => by simpa using h) _ s rfl
@[simp] theorem missAll_wtb_hw (p : SpotContext → Bool) (s : State) : (missAll p s).wtb.hw = s.wtb.hw := 
  missPending_keeps (fun t => t.wtb.hw = s.wtb.hw) p (fun _ _ _ h => by simpa using h) _ s rfl
@[simp] theorem missAll_wtb_latched (p : SpotContext → Bool) (s : State) : (missAll p s).wtb.latched = s.wtb.latched := 
  missPending_keeps (fun t => t.wtb.latched = s.wtb.latched) p (fun _ _ _ h => by simpa using h) _ s rfl
@[simp] theorem missAll_rku_history (p : SpotContext → Bool) (s : State) : (missAll p s).rku.history = s.rku.history := 
  missPending_keeps (fun t => t.rku.history = s.rku.history) p (fun _ _ _ h => by simpa using h) _ s rfl
@[simp] theorem missAll_btu_batches (p : SpotContext → Bool) (s : State) : (missAll p s).btu.batches = s.btu.batches := 
  missPending_keeps (fun t => t.btu.batches = s.btu.batches) p (fun _ _ _ h => by simpa using h) _ s rfl
@[simp] theorem missAll_svl_input (p : SpotContext → Bool) (s : State) : (missAll p s).svl.input = s.svl.input := 
  missPending_keeps (fun t => t.svl.input = s.svl.input) p (fun _ _ _ h => by simpa using h) _ s rfl

/-- Held SPOT STOP replies join the reply path, and nothing else is changed by their release but the held list. -/
theorem releaseStops_keeps (P : State → Prop) (s : State) (h : ∀ r t, P t → P (pushReply r t))
    (hs : P (s.onSmu (fun m => { m with heldStops := [] }))) : P (releaseStops s) := by
  unfold releaseStops
  have hf : ∀ (hs : List HeldStop) (t : State), P t → P (hs.foldl (fun t h => pushReply (stopReply h) t) t) := by
    intro hs
    induction hs with
    | nil => exact fun t ht => ht
    | cons x xs ih => exact fun t ht => ih _ (h _ _ ht)
  exact hf _ _ hs

@[simp] theorem releaseStops_tku (s : State) : (releaseStops s).tku = s.tku := 
  releaseStops_keeps (fun t => t.tku = s.tku) s (fun _ _ h => by simpa using h) rfl
@[simp] theorem releaseStops_rlu (s : State) : (releaseStops s).rlu = s.rlu := 
  releaseStops_keeps (fun t => t.rlu = s.rlu) s (fun _ _ h => by simpa using h) rfl
@[simp] theorem releaseStops_lbp (s : State) : (releaseStops s).lbp = s.lbp := 
  releaseStops_keeps (fun t => t.lbp = s.lbp) s (fun _ _ h => by simpa using h) rfl
@[simp] theorem releaseStops_pins (s : State) : (releaseStops s).pins = s.pins := 
  releaseStops_keeps (fun t => t.pins = s.pins) s (fun _ _ h => by simpa using h) rfl
@[simp] theorem releaseStops_pending (s : State) : (releaseStops s).pending = s.pending := 
  releaseStops_keeps (fun t => t.pending = s.pending) s (fun _ _ h => by simpa using h) rfl
@[simp] theorem releaseStops_wtb_wp (s : State) : (releaseStops s).wtb.wp = s.wtb.wp := 
  releaseStops_keeps (fun t => t.wtb.wp = s.wtb.wp) s (fun _ _ h => by simpa using h) rfl
@[simp] theorem releaseStops_wtb_hw (s : State) : (releaseStops s).wtb.hw = s.wtb.hw := 
  releaseStops_keeps (fun t => t.wtb.hw = s.wtb.hw) s (fun _ _ h => by simpa using h) rfl
@[simp] theorem releaseStops_wtb_latched (s : State) : (releaseStops s).wtb.latched = s.wtb.latched := 
  releaseStops_keeps (fun t => t.wtb.latched = s.wtb.latched) s (fun _ _ h => by simpa using h) rfl
@[simp] theorem releaseStops_rku_history (s : State) : (releaseStops s).rku.history = s.rku.history := 
  releaseStops_keeps (fun t => t.rku.history = s.rku.history) s (fun _ _ h => by simpa using h) rfl
@[simp] theorem releaseStops_btu_batches (s : State) : (releaseStops s).btu.batches = s.btu.batches := 
  releaseStops_keeps (fun t => t.btu.batches = s.btu.batches) s (fun _ _ h => by simpa using h) rfl
@[simp] theorem releaseStops_svl_input (s : State) : (releaseStops s).svl.input = s.svl.input := 
  releaseStops_keeps (fun t => t.svl.input = s.svl.input) s (fun _ _ h => by simpa using h) rfl
@[simp] theorem releaseStops_wtb (s : State) : (releaseStops s).wtb = s.wtb := 
  releaseStops_keeps (fun t => t.wtb = s.wtb) s (fun _ _ h => by simpa using h) rfl
@[simp] theorem releaseStops_epu (s : State) : (releaseStops s).epu = s.epu := 
  releaseStops_keeps (fun t => t.epu = s.epu) s (fun _ _ h => by simpa using h) rfl
@[simp] theorem releaseStops_rku (s : State) : (releaseStops s).rku = s.rku := 
  releaseStops_keeps (fun t => t.rku = s.rku) s (fun _ _ h => by simpa using h) rfl
@[simp] theorem releaseStops_btu (s : State) : (releaseStops s).btu = s.btu := 
  releaseStops_keeps (fun t => t.btu = s.btu) s (fun _ _ h => by simpa using h) rfl
@[simp] theorem dropBus_tku (s : State) : (dropBus s).tku = s.tku := rfl
@[simp] theorem dropBus_rlu (s : State) : (dropBus s).rlu = s.rlu := rfl
@[simp] theorem dropBus_lbp (s : State) : (dropBus s).lbp = s.lbp := rfl
@[simp] theorem dropBus_pins (s : State) : (dropBus s).pins = s.pins := rfl
@[simp] theorem dropBus_pending (s : State) : (dropBus s).pending = s.pending := rfl
@[simp] theorem dropBus_wtb_wp (s : State) : (dropBus s).wtb.wp = s.wtb.wp := rfl
@[simp] theorem dropBus_wtb_hw (s : State) : (dropBus s).wtb.hw = s.wtb.hw := rfl
@[simp] theorem dropBus_wtb_latched (s : State) : (dropBus s).wtb.latched = s.wtb.latched := rfl
@[simp] theorem dropBus_rku_history (s : State) : (dropBus s).rku.history = s.rku.history := rfl
@[simp] theorem dropBus_btu_batches (s : State) : (dropBus s).btu.batches = s.btu.batches := rfl
@[simp] theorem dropBus_svl_input (s : State) : (dropBus s).svl.input = s.svl.input := rfl
@[simp] theorem dropBus_wtb (s : State) : (dropBus s).wtb = s.wtb := rfl
@[simp] theorem dropBus_epu (s : State) : (dropBus s).epu = s.epu := rfl
@[simp] theorem dropBus_rku (s : State) : (dropBus s).rku = s.rku := rfl
@[simp] theorem dropBus_btu (s : State) : (dropBus s).btu = s.btu := rfl
@[simp] theorem dropBus_evu (s : State) : (dropBus s).evu = s.evu := rfl
@[simp] theorem dropBus_svl (s : State) : (dropBus s).svl = s.svl := rfl
@[simp] theorem abandonSpot_tku (c : SpotContext) (s : State) : (abandonSpot c s).tku = s.tku := by simp [abandonSpot]
@[simp] theorem abandonSpot_rlu (c : SpotContext) (s : State) : (abandonSpot c s).rlu = s.rlu := by simp [abandonSpot]
@[simp] theorem abandonSpot_lbp (c : SpotContext) (s : State) : (abandonSpot c s).lbp = s.lbp := by simp [abandonSpot]
@[simp] theorem abandonSpot_pins (c : SpotContext) (s : State) : (abandonSpot c s).pins = s.pins := by simp [abandonSpot]
@[simp] theorem abandonSpot_pending (c : SpotContext) (s : State) : (abandonSpot c s).pending = s.pending := by simp [abandonSpot]
@[simp] theorem abandonSpot_wtb_wp (c : SpotContext) (s : State) : (abandonSpot c s).wtb.wp = s.wtb.wp := by simp [abandonSpot]
@[simp] theorem abandonSpot_wtb_hw (c : SpotContext) (s : State) : (abandonSpot c s).wtb.hw = s.wtb.hw := by simp [abandonSpot]
@[simp] theorem abandonSpot_wtb_latched (c : SpotContext) (s : State) : (abandonSpot c s).wtb.latched = s.wtb.latched := by simp [abandonSpot]
@[simp] theorem abandonSpot_rku_history (c : SpotContext) (s : State) : (abandonSpot c s).rku.history = s.rku.history := by simp [abandonSpot]
@[simp] theorem abandonSpot_btu_batches (c : SpotContext) (s : State) : (abandonSpot c s).btu.batches = s.btu.batches := by simp [abandonSpot]
@[simp] theorem abandonSpot_svl_input (c : SpotContext) (s : State) : (abandonSpot c s).svl.input = s.svl.input := by simp [abandonSpot]
@[simp] theorem abandonSpotIf_tku (p : SpotContext → Bool) (s : State) : (abandonSpotIf p s).tku = s.tku := by
  unfold abandonSpotIf
  split
  · split <;> simp
  · rfl
@[simp] theorem abandonSpotIf_rlu (p : SpotContext → Bool) (s : State) : (abandonSpotIf p s).rlu = s.rlu := by
  unfold abandonSpotIf
  split
  · split <;> simp
  · rfl
@[simp] theorem abandonSpotIf_lbp (p : SpotContext → Bool) (s : State) : (abandonSpotIf p s).lbp = s.lbp := by
  unfold abandonSpotIf
  split
  · split <;> simp
  · rfl
@[simp] theorem abandonSpotIf_pins (p : SpotContext → Bool) (s : State) : (abandonSpotIf p s).pins = s.pins := by
  unfold abandonSpotIf
  split
  · split <;> simp
  · rfl
@[simp] theorem abandonSpotIf_pending (p : SpotContext → Bool) (s : State) : (abandonSpotIf p s).pending = s.pending := by
  unfold abandonSpotIf
  split
  · split <;> simp
  · rfl
@[simp] theorem abandonSpotIf_wtb_wp (p : SpotContext → Bool) (s : State) : (abandonSpotIf p s).wtb.wp = s.wtb.wp := by
  unfold abandonSpotIf
  split
  · split <;> simp
  · rfl
@[simp] theorem abandonSpotIf_wtb_hw (p : SpotContext → Bool) (s : State) : (abandonSpotIf p s).wtb.hw = s.wtb.hw := by
  unfold abandonSpotIf
  split
  · split <;> simp
  · rfl
@[simp] theorem abandonSpotIf_wtb_latched (p : SpotContext → Bool) (s : State) : (abandonSpotIf p s).wtb.latched = s.wtb.latched := by
  unfold abandonSpotIf
  split
  · split <;> simp
  · rfl
@[simp] theorem abandonSpotIf_rku_history (p : SpotContext → Bool) (s : State) : (abandonSpotIf p s).rku.history = s.rku.history := by
  unfold abandonSpotIf
  split
  · split <;> simp
  · rfl
@[simp] theorem abandonSpotIf_btu_batches (p : SpotContext → Bool) (s : State) : (abandonSpotIf p s).btu.batches = s.btu.batches := by
  unfold abandonSpotIf
  split
  · split <;> simp
  · rfl
@[simp] theorem abandonSpotIf_svl_input (p : SpotContext → Bool) (s : State) : (abandonSpotIf p s).svl.input = s.svl.input := by
  unfold abandonSpotIf
  split
  · split <;> simp
  · rfl
@[simp] theorem dropScanMeasurement_tku (s : State) : (dropScanMeasurement s).tku = s.tku := by
  unfold dropScanMeasurement
  split
  · split <;> simp
  · rfl
@[simp] theorem dropScanMeasurement_rlu (s : State) : (dropScanMeasurement s).rlu = s.rlu := by
  unfold dropScanMeasurement
  split
  · split <;> simp
  · rfl
@[simp] theorem dropScanMeasurement_lbp (s : State) : (dropScanMeasurement s).lbp = s.lbp := by
  unfold dropScanMeasurement
  split
  · split <;> simp
  · rfl
@[simp] theorem dropScanMeasurement_pins (s : State) : (dropScanMeasurement s).pins = s.pins := by
  unfold dropScanMeasurement
  split
  · split <;> simp
  · rfl
@[simp] theorem dropScanMeasurement_pending (s : State) : (dropScanMeasurement s).pending = s.pending := by
  unfold dropScanMeasurement
  split
  · split <;> simp
  · rfl
@[simp] theorem dropScanMeasurement_wtb_wp (s : State) : (dropScanMeasurement s).wtb.wp = s.wtb.wp := by
  unfold dropScanMeasurement
  split
  · split <;> simp
  · rfl
@[simp] theorem dropScanMeasurement_wtb_hw (s : State) : (dropScanMeasurement s).wtb.hw = s.wtb.hw := by
  unfold dropScanMeasurement
  split
  · split <;> simp
  · rfl
@[simp] theorem dropScanMeasurement_wtb_latched (s : State) : (dropScanMeasurement s).wtb.latched = s.wtb.latched := by
  unfold dropScanMeasurement
  split
  · split <;> simp
  · rfl
@[simp] theorem dropScanMeasurement_rku_history (s : State) : (dropScanMeasurement s).rku.history = s.rku.history := by
  unfold dropScanMeasurement
  split
  · split <;> simp
  · rfl
@[simp] theorem dropScanMeasurement_btu_batches (s : State) : (dropScanMeasurement s).btu.batches = s.btu.batches := by
  unfold dropScanMeasurement
  split
  · split <;> simp
  · rfl
@[simp] theorem dropScanMeasurement_svl_input (s : State) : (dropScanMeasurement s).svl.input = s.svl.input := by
  unfold dropScanMeasurement
  split
  · split <;> simp
  · rfl
@[simp] theorem dropScanMeasurement_wtb (s : State) : (dropScanMeasurement s).wtb = s.wtb := by
  unfold dropScanMeasurement
  split
  · split <;> simp
  · rfl
@[simp] theorem dropScanMeasurement_epu (s : State) : (dropScanMeasurement s).epu = s.epu := by
  unfold dropScanMeasurement
  split
  · split <;> simp
  · rfl
@[simp] theorem dropScanMeasurement_rku (s : State) : (dropScanMeasurement s).rku = s.rku := by
  unfold dropScanMeasurement
  split
  · split <;> simp
  · rfl
@[simp] theorem dropScanMeasurement_btu (s : State) : (dropScanMeasurement s).btu = s.btu := by
  unfold dropScanMeasurement
  split
  · split <;> simp
  · rfl
@[simp] theorem dropScanMeasurement_evu (s : State) : (dropScanMeasurement s).evu = s.evu := by
  unfold dropScanMeasurement
  split
  · split <;> simp
  · rfl
@[simp] theorem dropScanMeasurement_svl (s : State) : (dropScanMeasurement s).svl = s.svl := by
  unfold dropScanMeasurement
  split
  · split <;> simp
  · rfl
@[simp] theorem abandonScans_tku (s : State) : (abandonScans s).tku = s.tku := by simp [abandonScans]
@[simp] theorem abandonScans_rlu (s : State) : (abandonScans s).rlu = s.rlu := by simp [abandonScans]
@[simp] theorem abandonScans_lbp (s : State) : (abandonScans s).lbp = s.lbp := by simp [abandonScans]
@[simp] theorem abandonScans_pins (s : State) : (abandonScans s).pins = s.pins := by simp [abandonScans]
@[simp] theorem abandonScans_pending (s : State) : (abandonScans s).pending = s.pending := by simp [abandonScans]
@[simp] theorem abandonScans_wtb_wp (s : State) : (abandonScans s).wtb.wp = s.wtb.wp := by simp [abandonScans]
@[simp] theorem abandonScans_wtb_hw (s : State) : (abandonScans s).wtb.hw = s.wtb.hw := by simp [abandonScans]
@[simp] theorem abandonScans_wtb_latched (s : State) : (abandonScans s).wtb.latched = s.wtb.latched := by simp [abandonScans]
@[simp] theorem abandonScans_rku_history (s : State) : (abandonScans s).rku.history = s.rku.history := by simp [abandonScans]
@[simp] theorem abandonScans_btu_batches (s : State) : (abandonScans s).btu.batches = s.btu.batches := by simp [abandonScans]
@[simp] theorem abandonScans_svl_input (s : State) : (abandonScans s).svl.input = s.svl.input := by simp [abandonScans]
@[simp] theorem abandonScans_wtb (s : State) : (abandonScans s).wtb = s.wtb := by simp [abandonScans]
@[simp] theorem abandonScans_epu (s : State) : (abandonScans s).epu = s.epu := by simp [abandonScans]
@[simp] theorem abandonScans_rku (s : State) : (abandonScans s).rku = s.rku := by simp [abandonScans]
@[simp] theorem abandonScans_btu (s : State) : (abandonScans s).btu = s.btu := by simp [abandonScans]
@[simp] theorem abandonScans_evu (s : State) : (abandonScans s).evu = s.evu := by simp [abandonScans]
@[simp] theorem abandonScans_svl (s : State) : (abandonScans s).svl = s.svl := by simp [abandonScans]
@[simp] theorem endCalibrationEarly_tku (s : State) : (endCalibrationEarly s).tku = s.tku := by
  unfold endCalibrationEarly
  split
  · rfl
  · dsimp only
    split
    · split <;> simp
    · simp
@[simp] theorem endCalibrationEarly_rlu (s : State) : (endCalibrationEarly s).rlu = s.rlu := by
  unfold endCalibrationEarly
  split
  · rfl
  · dsimp only
    split
    · split <;> simp
    · simp
@[simp] theorem endCalibrationEarly_lbp (s : State) : (endCalibrationEarly s).lbp = s.lbp := by
  unfold endCalibrationEarly
  split
  · rfl
  · dsimp only
    split
    · split <;> simp
    · simp
@[simp] theorem endCalibrationEarly_pins (s : State) : (endCalibrationEarly s).pins = s.pins := by
  unfold endCalibrationEarly
  split
  · rfl
  · dsimp only
    split
    · split <;> simp
    · simp
@[simp] theorem endCalibrationEarly_pending (s : State) : (endCalibrationEarly s).pending = s.pending := by
  unfold endCalibrationEarly
  split
  · rfl
  · dsimp only
    split
    · split <;> simp
    · simp
@[simp] theorem endCalibrationEarly_wtb_wp (s : State) : (endCalibrationEarly s).wtb.wp = s.wtb.wp := by
  unfold endCalibrationEarly
  split
  · rfl
  · dsimp only
    split
    · split <;> simp
    · simp
@[simp] theorem endCalibrationEarly_wtb_hw (s : State) : (endCalibrationEarly s).wtb.hw = s.wtb.hw := by
  unfold endCalibrationEarly
  split
  · rfl
  · dsimp only
    split
    · split <;> simp
    · simp
@[simp] theorem endCalibrationEarly_wtb_latched (s : State) : (endCalibrationEarly s).wtb.latched = s.wtb.latched := by
  unfold endCalibrationEarly
  split
  · rfl
  · dsimp only
    split
    · split <;> simp
    · simp
@[simp] theorem endCalibrationEarly_rku_history (s : State) : (endCalibrationEarly s).rku.history = s.rku.history := by
  unfold endCalibrationEarly
  split
  · rfl
  · dsimp only
    split
    · split <;> simp
    · simp
@[simp] theorem endCalibrationEarly_btu_batches (s : State) : (endCalibrationEarly s).btu.batches = s.btu.batches := by
  unfold endCalibrationEarly
  split
  · rfl
  · dsimp only
    split
    · split <;> simp
    · simp
@[simp] theorem endCalibrationEarly_svl_input (s : State) : (endCalibrationEarly s).svl.input = s.svl.input := by
  unfold endCalibrationEarly
  split
  · rfl
  · dsimp only
    split
    · split <;> simp
    · simp
@[simp] theorem shadeAtFault_tku (s : State) : (shadeAtFault s).tku = s.tku := by simp [shadeAtFault]
@[simp] theorem shadeAtFault_rlu (s : State) : (shadeAtFault s).rlu = s.rlu := by simp [shadeAtFault]
@[simp] theorem shadeAtFault_lbp (s : State) : (shadeAtFault s).lbp = s.lbp := by simp [shadeAtFault]
@[simp] theorem shadeAtFault_pins (s : State) : (shadeAtFault s).pins = s.pins := by simp [shadeAtFault]
@[simp] theorem shadeAtFault_pending (s : State) : (shadeAtFault s).pending = s.pending := by simp [shadeAtFault]
@[simp] theorem shadeAtFault_wtb_wp (s : State) : (shadeAtFault s).wtb.wp = s.wtb.wp := by simp [shadeAtFault]
@[simp] theorem shadeAtFault_wtb_hw (s : State) : (shadeAtFault s).wtb.hw = s.wtb.hw := by simp [shadeAtFault]
@[simp] theorem shadeAtFault_wtb_latched (s : State) : (shadeAtFault s).wtb.latched = s.wtb.latched := by simp [shadeAtFault]
@[simp] theorem shadeAtFault_rku_history (s : State) : (shadeAtFault s).rku.history = s.rku.history := by simp [shadeAtFault]
@[simp] theorem shadeAtFault_btu_batches (s : State) : (shadeAtFault s).btu.batches = s.btu.batches := by simp [shadeAtFault]
@[simp] theorem shadeAtFault_svl_input (s : State) : (shadeAtFault s).svl.input = s.svl.input := by simp [shadeAtFault]
@[simp] theorem shadeAtStop_tku (s : State) : (shadeAtStop s).tku = s.tku := by simp [shadeAtStop]
@[simp] theorem shadeAtStop_rlu (s : State) : (shadeAtStop s).rlu = s.rlu := by simp [shadeAtStop]
@[simp] theorem shadeAtStop_lbp (s : State) : (shadeAtStop s).lbp = s.lbp := by simp [shadeAtStop]
@[simp] theorem shadeAtStop_pins (s : State) : (shadeAtStop s).pins = s.pins := by simp [shadeAtStop]
@[simp] theorem shadeAtStop_pending (s : State) : (shadeAtStop s).pending = s.pending := by simp [shadeAtStop]
@[simp] theorem shadeAtStop_wtb_wp (s : State) : (shadeAtStop s).wtb.wp = s.wtb.wp := by simp [shadeAtStop]
@[simp] theorem shadeAtStop_wtb_hw (s : State) : (shadeAtStop s).wtb.hw = s.wtb.hw := by simp [shadeAtStop]
@[simp] theorem shadeAtStop_wtb_latched (s : State) : (shadeAtStop s).wtb.latched = s.wtb.latched := by simp [shadeAtStop]
@[simp] theorem shadeAtStop_rku_history (s : State) : (shadeAtStop s).rku.history = s.rku.history := by simp [shadeAtStop]
@[simp] theorem shadeAtStop_btu_batches (s : State) : (shadeAtStop s).btu.batches = s.btu.batches := by simp [shadeAtStop]
@[simp] theorem shadeAtStop_svl_input (s : State) : (shadeAtStop s).svl.input = s.svl.input := by simp [shadeAtStop]
@[simp] theorem shadeAtRecover_tku (s : State) : (shadeAtRecover s).tku = s.tku := by simp [shadeAtRecover]
@[simp] theorem shadeAtRecover_rlu (s : State) : (shadeAtRecover s).rlu = s.rlu := by simp [shadeAtRecover]
@[simp] theorem shadeAtRecover_lbp (s : State) : (shadeAtRecover s).lbp = s.lbp := by simp [shadeAtRecover]
@[simp] theorem shadeAtRecover_pins (s : State) : (shadeAtRecover s).pins = s.pins := by simp [shadeAtRecover]
@[simp] theorem shadeAtRecover_pending (s : State) : (shadeAtRecover s).pending = s.pending := by simp [shadeAtRecover]
@[simp] theorem shadeAtRecover_wtb_wp (s : State) : (shadeAtRecover s).wtb.wp = s.wtb.wp := by simp [shadeAtRecover]
@[simp] theorem shadeAtRecover_wtb_hw (s : State) : (shadeAtRecover s).wtb.hw = s.wtb.hw := by simp [shadeAtRecover]
@[simp] theorem shadeAtRecover_wtb_latched (s : State) : (shadeAtRecover s).wtb.latched = s.wtb.latched := by simp [shadeAtRecover]
@[simp] theorem shadeAtRecover_rku_history (s : State) : (shadeAtRecover s).rku.history = s.rku.history := by simp [shadeAtRecover]
@[simp] theorem shadeAtRecover_btu_batches (s : State) : (shadeAtRecover s).btu.batches = s.btu.batches := by simp [shadeAtRecover]
@[simp] theorem shadeAtRecover_svl_input (s : State) : (shadeAtRecover s).svl.input = s.svl.input := by simp [shadeAtRecover]
@[simp] theorem shadeAtEnd_tku (s : State) : (shadeAtEnd s).tku = s.tku := by simp [shadeAtEnd]
@[simp] theorem shadeAtEnd_rlu (s : State) : (shadeAtEnd s).rlu = s.rlu := by simp [shadeAtEnd]
@[simp] theorem shadeAtEnd_lbp (s : State) : (shadeAtEnd s).lbp = s.lbp := by simp [shadeAtEnd]
@[simp] theorem shadeAtEnd_pins (s : State) : (shadeAtEnd s).pins = s.pins := by simp [shadeAtEnd]
@[simp] theorem shadeAtEnd_pending (s : State) : (shadeAtEnd s).pending = s.pending := by simp [shadeAtEnd]
@[simp] theorem shadeAtEnd_wtb_wp (s : State) : (shadeAtEnd s).wtb.wp = s.wtb.wp := by simp [shadeAtEnd]
@[simp] theorem shadeAtEnd_wtb_hw (s : State) : (shadeAtEnd s).wtb.hw = s.wtb.hw := by simp [shadeAtEnd]
@[simp] theorem shadeAtEnd_wtb_latched (s : State) : (shadeAtEnd s).wtb.latched = s.wtb.latched := by simp [shadeAtEnd]
@[simp] theorem shadeAtEnd_rku_history (s : State) : (shadeAtEnd s).rku.history = s.rku.history := by simp [shadeAtEnd]
@[simp] theorem shadeAtEnd_btu_batches (s : State) : (shadeAtEnd s).btu.batches = s.btu.batches := by simp [shadeAtEnd]
@[simp] theorem shadeAtEnd_svl_input (s : State) : (shadeAtEnd s).svl.input = s.svl.input := by simp [shadeAtEnd]
@[simp] theorem addOwed_tku (c : Fin 9) (n : Int) (number : Nat) (s : State) : (addOwed c n number s).tku = s.tku := by
  unfold addOwed
  dsimp only
  split <;> simp
@[simp] theorem addOwed_lbp (c : Fin 9) (n : Int) (number : Nat) (s : State) : (addOwed c n number s).lbp = s.lbp := by
  unfold addOwed
  dsimp only
  split <;> simp
@[simp] theorem addOwed_pins (c : Fin 9) (n : Int) (number : Nat) (s : State) : (addOwed c n number s).pins = s.pins := by
  unfold addOwed
  dsimp only
  split <;> simp
@[simp] theorem addOwed_pending (c : Fin 9) (n : Int) (number : Nat) (s : State) : (addOwed c n number s).pending = s.pending := by
  unfold addOwed
  dsimp only
  split <;> simp
@[simp] theorem addOwed_wtb_wp (c : Fin 9) (n : Int) (number : Nat) (s : State) : (addOwed c n number s).wtb.wp = s.wtb.wp := by
  unfold addOwed
  dsimp only
  split <;> simp
@[simp] theorem addOwed_wtb_hw (c : Fin 9) (n : Int) (number : Nat) (s : State) : (addOwed c n number s).wtb.hw = s.wtb.hw := by
  unfold addOwed
  dsimp only
  split <;> simp
@[simp] theorem addOwed_wtb_latched (c : Fin 9) (n : Int) (number : Nat) (s : State) : (addOwed c n number s).wtb.latched = s.wtb.latched := by
  unfold addOwed
  dsimp only
  split <;> simp
@[simp] theorem addOwed_rku_history (c : Fin 9) (n : Int) (number : Nat) (s : State) : (addOwed c n number s).rku.history = s.rku.history := by
  unfold addOwed
  dsimp only
  split <;> simp
@[simp] theorem addOwed_btu_batches (c : Fin 9) (n : Int) (number : Nat) (s : State) : (addOwed c n number s).btu.batches = s.btu.batches := by
  unfold addOwed
  dsimp only
  split <;> simp
@[simp] theorem addOwed_svl_input (c : Fin 9) (n : Int) (number : Nat) (s : State) : (addOwed c n number s).svl.input = s.svl.input := by
  unfold addOwed
  dsimp only
  split <;> simp
@[simp] theorem zeroTrims_tku (s : State) : (zeroTrims s).tku = s.tku := rfl
@[simp] theorem zeroTrims_lbp (s : State) : (zeroTrims s).lbp = s.lbp := rfl
@[simp] theorem zeroTrims_pins (s : State) : (zeroTrims s).pins = s.pins := rfl
@[simp] theorem zeroTrims_pending (s : State) : (zeroTrims s).pending = s.pending := rfl
@[simp] theorem zeroTrims_wtb_wp (s : State) : (zeroTrims s).wtb.wp = s.wtb.wp := rfl
@[simp] theorem zeroTrims_wtb_hw (s : State) : (zeroTrims s).wtb.hw = s.wtb.hw := rfl
@[simp] theorem zeroTrims_wtb_latched (s : State) : (zeroTrims s).wtb.latched = s.wtb.latched := rfl
@[simp] theorem zeroTrims_rku_history (s : State) : (zeroTrims s).rku.history = s.rku.history := rfl
@[simp] theorem zeroTrims_btu_batches (s : State) : (zeroTrims s).btu.batches = s.btu.batches := rfl
@[simp] theorem zeroTrims_svl_input (s : State) : (zeroTrims s).svl.input = s.svl.input := rfl
@[simp] theorem zeroTrims_wtb (s : State) : (zeroTrims s).wtb = s.wtb := rfl
@[simp] theorem zeroTrims_epu (s : State) : (zeroTrims s).epu = s.epu := rfl
@[simp] theorem zeroTrims_smu (s : State) : (zeroTrims s).smu = s.smu := rfl
@[simp] theorem zeroTrims_rku (s : State) : (zeroTrims s).rku = s.rku := rfl
@[simp] theorem zeroTrims_btu (s : State) : (zeroTrims s).btu = s.btu := rfl
@[simp] theorem zeroTrims_evu (s : State) : (zeroTrims s).evu = s.evu := rfl
@[simp] theorem zeroTrims_svl (s : State) : (zeroTrims s).svl = s.svl := rfl
@[simp] theorem scannerOff_rlu (s : State) : (scannerOff s).rlu = s.rlu := rfl
@[simp] theorem scannerOff_lbp (s : State) : (scannerOff s).lbp = s.lbp := rfl
@[simp] theorem scannerOff_pins (s : State) : (scannerOff s).pins = s.pins := rfl
@[simp] theorem scannerOff_pending (s : State) : (scannerOff s).pending = s.pending := rfl
@[simp] theorem scannerOff_wtb_wp (s : State) : (scannerOff s).wtb.wp = s.wtb.wp := rfl
@[simp] theorem scannerOff_wtb_hw (s : State) : (scannerOff s).wtb.hw = s.wtb.hw := rfl
@[simp] theorem scannerOff_wtb_latched (s : State) : (scannerOff s).wtb.latched = s.wtb.latched := rfl
@[simp] theorem scannerOff_rku_history (s : State) : (scannerOff s).rku.history = s.rku.history := rfl
@[simp] theorem scannerOff_btu_batches (s : State) : (scannerOff s).btu.batches = s.btu.batches := rfl
@[simp] theorem scannerOff_svl_input (s : State) : (scannerOff s).svl.input = s.svl.input := rfl
@[simp] theorem scannerOff_wtb (s : State) : (scannerOff s).wtb = s.wtb := rfl
@[simp] theorem scannerOff_epu (s : State) : (scannerOff s).epu = s.epu := rfl
@[simp] theorem scannerOff_smu (s : State) : (scannerOff s).smu = s.smu := rfl
@[simp] theorem scannerOff_rku (s : State) : (scannerOff s).rku = s.rku := rfl
@[simp] theorem scannerOff_btu (s : State) : (scannerOff s).btu = s.btu := rfl
@[simp] theorem scannerOff_evu (s : State) : (scannerOff s).evu = s.evu := rfl
@[simp] theorem scannerOff_svl (s : State) : (scannerOff s).svl = s.svl := rfl
@[simp] theorem emptyTrack_rlu (s : State) : (emptyTrack s).rlu = s.rlu := rfl
@[simp] theorem emptyTrack_lbp (s : State) : (emptyTrack s).lbp = s.lbp := rfl
@[simp] theorem emptyTrack_pins (s : State) : (emptyTrack s).pins = s.pins := rfl
@[simp] theorem emptyTrack_pending (s : State) : (emptyTrack s).pending = s.pending := rfl
@[simp] theorem emptyTrack_wtb_wp (s : State) : (emptyTrack s).wtb.wp = s.wtb.wp := rfl
@[simp] theorem emptyTrack_wtb_hw (s : State) : (emptyTrack s).wtb.hw = s.wtb.hw := rfl
@[simp] theorem emptyTrack_wtb_latched (s : State) : (emptyTrack s).wtb.latched = s.wtb.latched := rfl
@[simp] theorem emptyTrack_rku_history (s : State) : (emptyTrack s).rku.history = s.rku.history := rfl
@[simp] theorem emptyTrack_btu_batches (s : State) : (emptyTrack s).btu.batches = s.btu.batches := rfl
@[simp] theorem emptyTrack_svl_input (s : State) : (emptyTrack s).svl.input = s.svl.input := rfl
@[simp] theorem emptyTrack_wtb (s : State) : (emptyTrack s).wtb = s.wtb := rfl
@[simp] theorem emptyTrack_epu (s : State) : (emptyTrack s).epu = s.epu := rfl
@[simp] theorem emptyTrack_smu (s : State) : (emptyTrack s).smu = s.smu := rfl
@[simp] theorem emptyTrack_rku (s : State) : (emptyTrack s).rku = s.rku := rfl
@[simp] theorem emptyTrack_btu (s : State) : (emptyTrack s).btu = s.btu := rfl
@[simp] theorem emptyTrack_evu (s : State) : (emptyTrack s).evu = s.evu := rfl
@[simp] theorem emptyTrack_svl (s : State) : (emptyTrack s).svl = s.svl := rfl
@[simp] theorem disarmLanes_tku (s : State) : (disarmLanes s).tku = s.tku := rfl
@[simp] theorem disarmLanes_rlu (s : State) : (disarmLanes s).rlu = s.rlu := rfl
@[simp] theorem disarmLanes_lbp (s : State) : (disarmLanes s).lbp = s.lbp := rfl
@[simp] theorem disarmLanes_pins (s : State) : (disarmLanes s).pins = s.pins := rfl
@[simp] theorem disarmLanes_pending (s : State) : (disarmLanes s).pending = s.pending := rfl
@[simp] theorem disarmLanes_wtb_wp (s : State) : (disarmLanes s).wtb.wp = s.wtb.wp := rfl
@[simp] theorem disarmLanes_wtb_hw (s : State) : (disarmLanes s).wtb.hw = s.wtb.hw := rfl
@[simp] theorem disarmLanes_wtb_latched (s : State) : (disarmLanes s).wtb.latched = s.wtb.latched := rfl
@[simp] theorem disarmLanes_rku_history (s : State) : (disarmLanes s).rku.history = s.rku.history := rfl
@[simp] theorem disarmLanes_btu_batches (s : State) : (disarmLanes s).btu.batches = s.btu.batches := rfl
@[simp] theorem disarmLanes_svl_input (s : State) : (disarmLanes s).svl.input = s.svl.input := rfl
@[simp] theorem disarmLanes_wtb (s : State) : (disarmLanes s).wtb = s.wtb := rfl
@[simp] theorem disarmLanes_epu (s : State) : (disarmLanes s).epu = s.epu := rfl
@[simp] theorem disarmLanes_smu (s : State) : (disarmLanes s).smu = s.smu := rfl
@[simp] theorem disarmLanes_btu (s : State) : (disarmLanes s).btu = s.btu := rfl
@[simp] theorem disarmLanes_evu (s : State) : (disarmLanes s).evu = s.evu := rfl
@[simp] theorem disarmLanes_svl (s : State) : (disarmLanes s).svl = s.svl := rfl
@[simp] theorem gapLanes_tku (s : State) : (gapLanes s).tku = s.tku := rfl
@[simp] theorem gapLanes_rlu (s : State) : (gapLanes s).rlu = s.rlu := rfl
@[simp] theorem gapLanes_lbp (s : State) : (gapLanes s).lbp = s.lbp := rfl
@[simp] theorem gapLanes_pins (s : State) : (gapLanes s).pins = s.pins := rfl
@[simp] theorem gapLanes_pending (s : State) : (gapLanes s).pending = s.pending := rfl
@[simp] theorem gapLanes_wtb_wp (s : State) : (gapLanes s).wtb.wp = s.wtb.wp := rfl
@[simp] theorem gapLanes_wtb_hw (s : State) : (gapLanes s).wtb.hw = s.wtb.hw := rfl
@[simp] theorem gapLanes_wtb_latched (s : State) : (gapLanes s).wtb.latched = s.wtb.latched := rfl
@[simp] theorem gapLanes_rku_history (s : State) : (gapLanes s).rku.history = s.rku.history := rfl
@[simp] theorem gapLanes_btu_batches (s : State) : (gapLanes s).btu.batches = s.btu.batches := rfl
@[simp] theorem gapLanes_svl_input (s : State) : (gapLanes s).svl.input = s.svl.input := rfl
@[simp] theorem gapLanes_wtb (s : State) : (gapLanes s).wtb = s.wtb := rfl
@[simp] theorem gapLanes_epu (s : State) : (gapLanes s).epu = s.epu := rfl
@[simp] theorem gapLanes_smu (s : State) : (gapLanes s).smu = s.smu := rfl
@[simp] theorem gapLanes_btu (s : State) : (gapLanes s).btu = s.btu := rfl
@[simp] theorem gapLanes_evu (s : State) : (gapLanes s).evu = s.evu := rfl
@[simp] theorem gapLanes_svl (s : State) : (gapLanes s).svl = s.svl := rfl

/-- The latch of another cause is left as it was by a write. -/
theorem Latches.get_put (l : Latches) (c d : StopCause) (b : Bool) :
    (l.put c b).get d = if c = d then b else l.get d := by
  cases c <;> cases d <;> rfl

/-- FAULT is entered with every owed trim 0, the scanner OFF and the track otherwise as it stood (R16, R46, R66). -/
theorem enterFault_tku (s : State) :
    (enterFault s).tku = { s.tku with scanner := .off, halfSeen := none, coastCount := 0 } := by
  simp [enterFault, scannerOff]

/-- Every owed trim is 0 after the entry into FAULT, and totals and stations are as before (R66, R70). -/
theorem enterFault_rlu (s : State) :
    (enterFault s).rlu = { s.rlu with channels := s.rlu.channels.map (fun c => { c with owed := 0 }) } := by
  simp [enterFault, zeroTrims]

@[simp] theorem enterFault_lbp (s : State) : (enterFault s).lbp = s.lbp := by simp [enterFault]
@[simp] theorem enterFault_pins (s : State) : (enterFault s).pins = s.pins := by simp [enterFault]
@[simp] theorem enterFault_pending (s : State) : (enterFault s).pending = s.pending := by simp [enterFault]
@[simp] theorem enterFault_wtb_wp (s : State) : (enterFault s).wtb.wp = s.wtb.wp := by simp [enterFault]
@[simp] theorem enterFault_wtb_hw (s : State) : (enterFault s).wtb.hw = s.wtb.hw := by simp [enterFault]
@[simp] theorem enterFault_wtb_latched (s : State) : (enterFault s).wtb.latched = s.wtb.latched := by simp [enterFault]
@[simp] theorem enterFault_rku_history (s : State) : (enterFault s).rku.history = s.rku.history := by simp [enterFault]
@[simp] theorem enterFault_btu_batches (s : State) : (enterFault s).btu.batches = s.btu.batches := by simp [enterFault]
@[simp] theorem enterFault_svl_input (s : State) : (enterFault s).svl.input = s.svl.input := by simp [enterFault]
@[simp] theorem latchCause_lbp (c : StopCause) (s : State) : (latchCause c s).lbp = s.lbp := by
  unfold latchCause
  split
  · rfl
  · dsimp only
    split <;> simp
@[simp] theorem latchCause_pins (c : StopCause) (s : State) : (latchCause c s).pins = s.pins := by
  unfold latchCause
  split
  · rfl
  · dsimp only
    split <;> simp
@[simp] theorem latchCause_pending (c : StopCause) (s : State) : (latchCause c s).pending = s.pending := by
  unfold latchCause
  split
  · rfl
  · dsimp only
    split <;> simp
@[simp] theorem latchCause_wtb_wp (c : StopCause) (s : State) : (latchCause c s).wtb.wp = s.wtb.wp := by
  unfold latchCause
  split
  · rfl
  · dsimp only
    split <;> simp
@[simp] theorem latchCause_wtb_hw (c : StopCause) (s : State) : (latchCause c s).wtb.hw = s.wtb.hw := by
  unfold latchCause
  split
  · rfl
  · dsimp only
    split <;> simp
@[simp] theorem latchCause_rku_history (c : StopCause) (s : State) : (latchCause c s).rku.history = s.rku.history := by
  unfold latchCause
  split
  · rfl
  · dsimp only
    split <;> simp
@[simp] theorem latchCause_btu_batches (c : StopCause) (s : State) : (latchCause c s).btu.batches = s.btu.batches := by
  unfold latchCause
  split
  · rfl
  · dsimp only
    split <;> simp
@[simp] theorem latchCause_svl_input (c : StopCause) (s : State) : (latchCause c s).svl.input = s.svl.input := by
  unfold latchCause
  split
  · rfl
  · dsimp only
    split <;> simp

/-- The offset a crossing position takes (R41): the one held, but N - 1 where a change of N in HOLD has overtaken it and
it still stands at N or above. -/
theorem offsetWithin_eq (n offset : Nat) (overtaken : Option Nat) :
    offsetWithin n offset overtaken = if overtaken = some offset ∧ n ≤ offset then n - 1 else offset := by
  unfold offsetWithin
  by_cases h : overtaken = some offset <;> simp only [h, true_and, false_and, if_true, if_false]
  split <;> omega

/-- All that a reading of EIX can do (R76): its level is noted; where the reading counts it is the previous reading of
the next one; and where it begins an index, the index is worked. -/
theorem readEix_cases (e : Bool) (s : State) :
    let noted := s.onPins (fun p => { p with eix := e })
    let kept := noted.onEpu (fun u => { u with eixPrev := noted.eixActive })
    (readEix e s = noted ∧ (s.advancing = false ∨ s.epu.state = .none)) ∨
    (readEix e s = kept ∧ s.advancing = true ∧ (noted.eixActive = false ∨ s.epu.eixPrev = true)) ∨
    (readEix e s = workIndex kept ∧ s.advancing = true ∧ noted.eixActive = true ∧ s.epu.eixPrev = false) := by
  simp only [readEix]
  split
  · rename_i h
    split
    · rename_i g
      exact .inr (.inr ⟨rfl, h.1, by simpa using g⟩)
    · rename_i g
      refine .inr (.inl ⟨rfl, h.1, ?_⟩)
      simp only [Bool.and_eq_true, Bool.not_eq_true'] at g
      by_contra c
      simp_all
  · rename_i h
    refine .inl ⟨rfl, ?_⟩
    by_contra c
    apply h
    simp_all [State.advancing, State.running, State.onPins]

end Sys2Proof.Machine
end

