-- ==== Sys2Proof/Laws/Track.lean ====
section
/-! SUPPORT. What the departure of a record from the track can do (Machine/Ops.lean, Machine/Crossing.lean): what is
forgotten and what is kept among the departed, where each cursor goes, and all that a retirement changes; and what a
register entry and the close of a window (Machine/Rlu.lean, Machine/Tku.lean) can do to the track and the line. -/

namespace Sys2Proof.Machine

@[simp] theorem Tku.forget_track (t : Tku) : t.forget.track = t.track := rfl
@[simp] theorem Tku.forget_cursors (t : Tku) : t.forget.cursors = t.cursors := rfl
@[simp] theorem Tku.forget_nextRepeat (t : Tku) : t.forget.nextRepeat = t.nextRepeat := rfl
@[simp] theorem Tku.forget_readCursor (t : Tku) : t.forget.readCursor = t.readCursor := rfl

/-- What is kept of the departed is what the scanner still reads (R26, R32). -/
theorem Tku.mem_forget_departed (t : Tku) (r : RepeatRecord) :
    r ∈ t.forget.departed ↔ r ∈ t.departed ∧ t.stillRead r = true := by simp [Tku.forget]

@[simp] theorem Tku.release_track (t : Tku) (n : Nat) :
    (t.release n).track = t.track.filter (fun r => r.number != n) := rfl
@[simp] theorem Tku.release_cursors (t : Tku) (n : Nat) :
    (t.release n).cursors = t.cursors.leave n (t.after n) := rfl
@[simp] theorem Tku.release_nextRepeat (t : Tku) (n : Nat) : (t.release n).nextRepeat = t.nextRepeat := rfl
@[simp] theorem Tku.release_readCursor (t : Tku) (n : Nat) : (t.release n).readCursor = t.readCursor := rfl

/-- A cursor that stood on the record that left moves on; every other cursor stays (R41). -/
@[simp] theorem Cursors.get_leave (c : Cursors) (n : Nat) (next : Option Nat) (p : Point) :
    (c.leave n next).get p = if c.get p = some n then next else c.get p := by
  match p with
  | .emboss | .shade | .knife .a | .knife .b => rfl

/-- A mark block with a window not yet closed outlives its record's place on the track (R32). -/
theorem Tku.release_keeps_open (t : Tku) (n : Nat) (r : RepeatRecord) (h : r ∈ t.blocks) (ho : r.blockOpen = true) :
    r ∈ (t.release n).blocks := by
  simp only [Tku.blocks, List.mem_append, release_track, List.mem_filter] at h ⊢
  by_cases e : r.number = n
  · refine .inl ((Tku.mem_forget_departed _ r).2 ⟨?_, by simp [Tku.stillRead, ho]⟩)
    simpa [e] using h
  · obtain h | h := h
    · exact .inl ((Tku.mem_forget_departed _ r).2 ⟨by simp [h], by simp [Tku.stillRead, ho]⟩)
    · exact .inr ⟨h, by simpa using e⟩

/-- All that a retirement can do (R43): the record leaves once it is past both knives; else nothing changes. -/
theorem retire_cases (n : Nat) (s : State) :
    (retire n s = s.onTku (fun t => t.release n) ∧ s.pastKnife .a n = true ∧ s.pastKnife .b n = true) ∨
    (retire n s = s ∧ (s.pastKnife .a n = false ∨ s.pastKnife .b n = false)) := by
  simp only [retire]
  cases s.pastKnife .a n <;> cases s.pastKnife .b n <;> simp

/-! ### Register entries and windows -/

@[simp] theorem addOwed_running (c : Fin 9) (n : Int) (number : Nat) (s : State) :
    (addOwed c n number s).running = s.running := by
  unfold addOwed
  dsimp only
  split
  · rfl
  · rw [raise_running]; rfl

@[simp] theorem countOutOfTolerance_running (k : Fin 8) (n : Nat) (rd : RegReading) (s : State) :
    (countOutOfTolerance k n rd s).running = s.running := by
  unfold countOutOfTolerance
  split
  · rfl
  · rfl
  · dsimp only
    split
    · rw [raise_running]; rfl
    · rfl
@[simp] theorem countOutOfTolerance_tku (k : Fin 8) (n : Nat) (rd : RegReading) (s : State) :
    (countOutOfTolerance k n rd s).tku = s.tku := by
  unfold countOutOfTolerance
  split
  · rfl
  · rfl
  · dsimp only
    split
    · rw [raise_tku]; rfl
    · rfl

@[simp] theorem countMissing_running (k : Fin 8) (n : Nat) (rd : RegReading) (s : State) :
    (countMissing k n rd s).running = s.running := by
  unfold countMissing
  split
  · rfl
  · split
    · rfl
    · exact raise_running ..
@[simp] theorem countMissing_tku (k : Fin 8) (n : Nat) (rd : RegReading) (s : State) :
    (countMissing k n rd s).tku = s.tku := by
  unfold countMissing
  split
  · rfl
  · split
    · rfl
    · exact raise_tku ..

@[simp] theorem stationLoop_running (k : Fin 8) (n : Nat) (rd : RegReading) (s : State) :
    (stationLoop k n rd s).running = s.running := by
  unfold stationLoop
  dsimp only
  cases rd <;> repeat' split
  all_goals first | rfl | exact addOwed_running ..
@[simp] theorem stationLoop_tku (k : Fin 8) (n : Nat) (rd : RegReading) (s : State) :
    (stationLoop k n rd s).tku = s.tku := by
  unfold stationLoop
  dsimp only
  cases rd <;> repeat' split
  all_goals first | rfl | exact addOwed_tku ..

/-- All that a register entry does to the track is to write itself into its record (R55, R56). -/
@[simp] theorem registerEntry_tku (k : Fin 8) (n : Nat) (coasted : Bool) (rd : RegReading) (s : State) :
    (registerEntry k n coasted rd s).tku = (writeRegEntry k n rd s).tku := by
  cases coasted <;> simp [registerEntry]

/-- A register entry leaves a running track running, whatever route its alarm runs. -/
@[simp] theorem registerEntry_running (k : Fin 8) (n : Nat) (coasted : Bool) (rd : RegReading) (s : State) :
    (registerEntry k n coasted rd s).running = s.running := by
  cases coasted <;> simp [registerEntry] <;> rfl

@[simp] theorem Tku.onWindow_nextRepeat (t : Tku) (n : Nat) (k : Fin 8) (f : Window → Window) :
    (t.onWindow n k f).nextRepeat = t.nextRepeat := rfl
@[simp] theorem Tku.onWindow_scanner (t : Tku) (n : Nat) (k : Fin 8) (f : Window → Window) :
    (t.onWindow n k f).scanner = t.scanner := rfl
@[simp] theorem Tku.onWindow_estimate (t : Tku) (n : Nat) (k : Fin 8) (f : Window → Window) :
    (t.onWindow n k f).estimate = t.estimate := rfl
@[simp] theorem Tku.onWindow_splices (t : Tku) (n : Nat) (k : Fin 8) (f : Window → Window) :
    (t.onWindow n k f).splices = t.splices := rfl
@[simp] theorem Tku.onWindow_cursors (t : Tku) (n : Nat) (k : Fin 8) (f : Window → Window) :
    (t.onWindow n k f).cursors = t.cursors := rfl

/-- All that the close of a window can do (R32): there is no such open window; or it is marked closed; or it had no
capture, and MARK-MISSING and the missing report follow as well. -/
theorem closeWindow_cases (n : Nat) (k : Fin 8) (s : State) :
    let shut := s.onTku (fun t => t.onWindow n k (fun w => { w with closed := true }))
    (s.tku.openWindow n k = none ∧ closeWindow n k s = s) ∨
    ∃ r w, s.tku.openWindow n k = some (r, w) ∧
      ((w.captured = true ∧ closeWindow n k s = shut) ∨
       (w.captured = false ∧
        closeWindow n k s = registerEntry k n r.coasted .missing (raise .markMissing (k.val + 1) n shut))) := by
  cases h : s.tku.openWindow n k with
  | none => exact .inl ⟨rfl, by simp [closeWindow, h]⟩
  | some x =>
    refine .inr ⟨x.1, x.2, rfl, ?_⟩
    cases c : x.2.captured <;> simp [closeWindow, h, c]

@[simp] theorem closeWindow_running (n : Nat) (k : Fin 8) (s : State) : (closeWindow n k s).running = s.running := by
  obtain ⟨-, h⟩ | ⟨r, w, -, ⟨-, h⟩ | ⟨-, h⟩⟩ := closeWindow_cases n k s <;> simp only [h]
  · rfl
  · rw [registerEntry_running, raise_running]; rfl

/-- A fold of closes leaves a running track running. -/
@[simp] theorem closeWindows_running (p : RepeatRecord → Window → Bool) (s : State) :
    (closeWindows p s).running = s.running := by
  unfold closeWindows
  generalize openWindows p s.tku.blocks = l
  induction l generalizing s with
  | nil => rfl
  | cons x l ih => rw [List.foldl_cons, ih, closeWindow_running]

end Sys2Proof.Machine
end

