-- ==== Sys2Proof/Tests/Slice0.lean ====
section
/-! SUPPORT. The model's own tests: the WellFormed smoke, one-step checks whose expected values are the spec's own
worked cases, and for every statement with hypotheses a witness that meets them. -/

namespace Sys2Proof.Tests

open Sys2Proof Sys2Proof.Machine

-- Each theorem is checked before the next one is read: many kernel evaluations waiting at once take a thread each.
set_option Elab.async false

/-! ### Small states -/

/-- The state after a command that answers next; the state before it otherwise. -/
def after (i : Instr) (s : State) : State :=
  match exec i s with
  | .next t => t
  | .fault _ | .refused _ => s

/-- The state after reset in a line state. -/
def inLine (l : LineState) : State := State.reset.onWtb (fun w => { w with line := l })

/-- A line state put into a state. -/
def line (l : LineState) (s : State) : State := s.onWtb (fun w => { w with line := l })

/-- WP and HW at a new-web advance. -/
def newWeb (wp : Pos) (s : State) : State := s.onWtb (fun w => { w with wp := wp, hw := wp, newWeb := true })

/-- The lane parameters of the worked job of chapter 7. -/
def laneJob : LaneControl := { LaneControl.reset with params := ⟨true, 0, 402000, 200000, 5, 8000, 3, 3000⟩ }

/-- The job of the worked sequence of chapter 2, with the parameters of chapters 3, 4, 7 and 8, in THREAD. -/
def job : State where
  wtb := { Wtb.reset with line := .thread, v := 200 }
  tku := { Tku.reset with
    params := ⟨21200, 20, 3, 400, 160, 80, 20, 3⟩
    path := ⟨#v[0, 0, 240000, 0, 0, 0, 0, 0], 1200000, 1260000, 1420000, 1440000, 610000⟩
    estimate := 339200 }
  rlu := { Rlu.reset with stations := #v[{ Station.reset with mode := .master },
    { Station.reset with mode := .monitor, params := ⟨8000, 200, 50, 8, 4, 128, 50, 16⟩ },
    { Station.reset with mode := .auto, params := ⟨4000, 200, 50, 8, 4, 128, 50, 16⟩ },
    Station.reset, Station.reset, Station.reset, Station.reset, Station.reset] }
  epu := { Epu.reset with
    params := ⟨true, 1, 300, true, 64, 4, 50, 50, 1000, 100, 500, false, 16⟩, state := .opened }
  smu := { Smu.reset with params := { Smu.reset.params with offset := 5000 } }
  rku := { Rku.reset with laneA := laneJob, laneB := laneJob }
  btu := { Btu.reset with params := ⟨0x4B, 0x54, 12, 16, 16, 16, 200, .nearest⟩ }
  lbp := { Lbp.reset with params := ⟨true, true, 3, 5, 500, 1⟩ }
  evu := Evu.reset
  svl := { Svl.reset with replied := true }
  pins := Pins.reset
  pending := []

/-- A record of the job with the station windows of the estimate 339,260, none captured. -/
def rec (n : Nat) (origin : Pos) : RepeatRecord where
  number := n
  origin := origin
  length := none
  coasted := false
  acquired := false
  splice := false
  regs := []
  emboss := none
  shade := none
  defects := ⟨false, false, false, false, false⟩
  markA := none
  markB := none
  at_ := ⟨origin + 1200000, origin + 1265000, origin + 1420000, origin + 1440000⟩
  windows := [⟨1, 8001, 200, false, false⟩, ⟨2, 4001, 200, false, false⟩]

/-- The job running at WP with these records, the next repeat number and the cursors on the oldest. -/
def running (wp : Pos) (track : List RepeatRecord) (next : Nat) : State :=
  let first := track.head?.map (·.number)
  (newWeb wp (line .run job)).onTku (fun t => { t with
    scanner := .tracking, track := track, nextRepeat := next, cursors := ⟨first, first, first, first⟩ })

/-- A mark half-seen from `p`. -/
def halfSeen (p : Pos) (s : State) : State := s.onTku (fun t => { t with scnPrev := true, halfSeen := some p })

/-- Record 57 of the worked job, its windows closed. -/
def rec57 : RepeatRecord := { rec 57 978770 with windows := [] }

/-- The code and level free form of the waiting notices: the event with its parameters. -/
def noticed (s : State) : List (Event × Nat × Nat) := s.evu.notices.map (fun n => (n.event, n.p1, n.p2))

/-- The sender busy with a frame, so that replies and notices wait. -/
def busy (s : State) : State := s.onSvl (fun v => { v with sending := some ⟨[], false⟩ })

/-- The replies waiting: the TYPE of the request, the status and the fields. -/
def replied (s : State) : List (Byte × Status × List Byte) :=
  s.svl.replies.map (fun r => (r.request, r.status, r.fields))

/-- An open roll with nothing counted. -/
def emptyRoll (n : Nat) (opening : Pos) : OpenRoll :=
  ⟨n, opening, opening, ⟨none, none, 0, 0, 0, 0, 0, 0, 0, ⟨0, 0, 0⟩, 0⟩, ⟨false, false, false, false, false⟩, 0⟩

/-- The lane in a state with a roll. -/
def laneIn (st : LaneState) : State :=
  (running 2000 [] 58).onLane .a (fun k => { k with state := st, roll := some (emptyRoll 7 0) })

/-- A spot of slot 2 for record 58, and its measurement. -/
def spot58 : SpotContext := ⟨2, 1, .next, some 58, true, 90, .link⟩

/-- The bus with this user's measurement of a slot between two samples. -/
def onBus (slot : Fin 6) (user : BusUser) : Measurement := ⟨slot, 2, 1, ⟨0, 0, 0⟩, false, user, none⟩

/-! ### The spec's worked cases, one step each -/

/-- The check value that CRC-16 catalogues give for 0x1021, initial 0xFFFF, no reflection, no inversion (R184). -/
theorem test_crc16_of_the_nine_digits :
    crc16 [0x31, 0x32, 0x33, 0x34, 0x35, 0x36, 0x37, 0x38, 0x39] = 0x29B1#16 := by
  decide +kernel

theorem test_powerOn_gives_reset : after .powerOn (busy job) = State.reset := by decide +kernel

/-- Step 1 of the worked sequence of chapter 1. -/
theorem test_jobOpen_step_1 :
    let t := after (.jobOpen 7) (busy State.reset)
    t.wtb.line = .thread ∧ replied t = [(0x01, .ok, [])] ∧ noticed t = [(.lineState, 1, 1)] := by decide +kernel

/-- Step 3: JOB START at v = 2 enters HOLD with resume armed. -/
theorem test_jobStart_step_3 :
    let t := after (.jobStart 7) (busy (job.onWtb (fun w => { w with v := 2 })))
    t.wtb.line = .hold ∧ t.wtb.resumeArmed = true ∧ t.rlu.stations[2].settle = 13 ∧
      noticed t = [(.lineState, 3, 1)] := by decide +kernel

/-- Check 3 fails where S3's window reaches into the master window. -/
theorem test_jobStart_check_3 :
    replied (after (.jobStart 7) (busy (job.onRlu (fun r => r.onStation 2 (fun k =>
      { k with params := { k.params with d := 600 } }))))) = [(0x02, .invalidJob, [3])] := by decide +kernel

/-- Step 5: v = 7 resumes. -/
theorem test_speedSample_step_5 :
    let t := after .speedSample (busy ((line .hold job).onWtb (fun w =>
      { w with resumeArmed := true, netCount := 8, s1 := 7, s2 := 7, s3 := 6 })))
    t.wtb.v = 7 ∧ t.wtb.line = .run ∧ noticed t = [(.lineState, 2, 4)] := by decide +kernel

/-- Step 6: v = 3 is below the crawl threshold. -/
theorem test_speedSample_step_6 :
    let t := after .speedSample (busy ((line .run job).onWtb (fun w =>
      { w with netCount := 3, s1 := 4, s2 := 4, s3 := 4 })))
    t.wtb.v = 3 ∧ t.wtb.line = .hold ∧ t.wtb.resumeArmed = true ∧ noticed t = [(.lineState, 3, 2)] := by
  decide +kernel

/-- Step 7: the count to 1,228,799 makes the depth 21,201. ENC A changes where the levels stand equal. -/
theorem test_encoderCount_step_7 :
    let t := after (.encoderCount .a) (busy ((line .hold job).onWtb (fun w =>
      { w with resumeArmed := true, wp := 1228800, hw := 1250000 })))
    t.wtb.wp = 1228799 ∧ t.wtb.resumeArmed = false ∧ t.wtb.excursion = true ∧
      noticed t = [(.reverse, 0, 1250000)] := by decide +kernel

/-- Step 12: a forward count above HW is new web. ENC B changes where the levels stand equal. -/
theorem test_encoderCount_step_12 :
    let t := after (.encoderCount .b) ((line .run job).onWtb (fun w => { w with wp := 1250000, hw := 1250000 }))
    t.wtb.wp = 1250001 ∧ t.wtb.hw = 1250001 ∧ t.wtb.newWeb = true := by decide +kernel

/-- Step 13: EST pressed in RUN. -/
theorem test_estActive_step_13 :
    let t := after (.estActive true) (busy (line .run job))
    t.wtb.line = .fault ∧ t.wtb.latched.estop = true ∧ noticed t = [(.stopCause, 1, 2), (.lineState, 4, 5)] := by
  decide +kernel

theorem test_illegalTransition_latches_encoder :
    (after .illegalTransition (busy State.reset)).wtb.latched = ⟨false, true, false, false, false⟩ := by
  decide +kernel

/-- Step 14: STOP ACK ESTOP with EST held. -/
theorem test_stopAck_step_14 :
    let s := (line .fault job).onWtb (fun w => { w with latched := ⟨true, false, false, false, false⟩ })
    replied (after (.stopAck 7 1) (busy { s with pins := { s.pins with est := true } })) =
      [(0x08, .stillActive, [1])] ∧
    replied (after (.stopAck 7 1) (busy s)) = [(0x08, .ok, [0])] := by decide +kernel

/-- Step 16, with a track to empty. -/
theorem test_recover_step_16 :
    let t := after (.recover 7) (busy (line .fault (running 1600410 [rec57] 58)))
    t.wtb.line = .thread ∧ t.tku.track = [] ∧ t.tku.readCursor = 58 ∧ noticed t = [(.lineState, 1, 1)] := by
  decide +kernel

theorem test_jobStop_flags_open_rolls :
    let s := (running 2000 [rec57] 58).onLane .a (fun k => { k with
      state := .winding, roll := some ⟨7, 0, 0, ⟨none, none, 0, 0, 0, 0, 0, 0, 0, ⟨0, 0, 0⟩, 0⟩,
        ⟨false, false, false, false, false⟩, 0⟩ })
    ((after (.jobStop 7) s).rku.laneA.roll.map (·.flags.trackGap)) = some true := by decide +kernel

theorem test_jobEnd_unbinds_routes :
    let t := after (.jobEnd 7) (job.onEvu (fun e => { e with routes := e.routes.set 0 (some ⟨.cutDone, .newBatch, 9⟩) }))
    t.wtb.line = .idle ∧ t.evu.routes[0] = none ∧ t.rku.laneA.state = .off := by decide +kernel

theorem test_jobHold_and_jobResume :
    (after (.jobHold 7) (line .run job)).wtb.line = .hold ∧
    (after (.jobResume 7) (line .hold job)).wtb.resumeArmed = true := by decide +kernel

/-- INPUT SET that inverts EST at a level not energised makes it active, which latches ESTOP (R21). -/
theorem test_inputSet_inverted_est_latches :
    (after (.inputSet 7 ⟨some true, some false, some false, some false, some false, some false, some false,
      some false, some false, some false, some false⟩) State.reset).wtb.latched.estop = true := by decide +kernel

theorem test_lineSet_bounds :
    (after (.lineSet 7 40 (some false)) State.reset).wtb.crawl = 40 ∧
    replied (after (.lineSet 7 41 (some false)) (busy State.reset)) = [(0x0A, .badValue, [])] := by decide +kernel

theorem test_repeatSet_seeds_the_estimate :
    (after (.repeatSet 7 ⟨21200, 20, 3, 400, 160, 80, 20, 3⟩) State.reset).tku.estimate = 339200 := by decide +kernel

theorem test_pathSet_refused_in_run :
    replied (after (.pathSet 7 { job.tku.path with du := 0 }) (busy (line .run job))) =
      [(0x11, .wrongState, [])] := by decide +kernel

/-- Step 1 of the worked sequence of chapter 2. -/
theorem test_splEdge_step_1 :
    let t := after (.splEdge true) (busy (running 400000 [rec57] 58))
    t.tku.splices = [1010000] ∧ noticed t = [(.spliceSeen, 0, 0)] := by decide +kernel

/-- Step 2: record 58 at 1,000,000 with targets 8,001 and 4,001; record 57's length 21,230; estimate 339,260. -/
theorem test_markTrailingEdge_step_2 :
    let t := after .markTrailingEdge
      (halfSeen 1000000 ((running 1000158 [rec57] 58).onTku (fun t => { t with splices := [1010000] })))
    t.tku.estimate = 339260 ∧ t.tku.splices = [1010000] ∧
    t.tku.track.map (fun r => (r.number, r.origin, r.length, r.windows.map (·.target))) =
      [(57, 978770, some ⟨21230, false⟩, []), (58, 1000000, none, [8001, 4001])] := by decide +kernel

/-- Step 3: S3's error is 18, and the correction of chapter 3 is +9 with the countdown at 13. -/
theorem test_markTrailingEdge_step_3 :
    let t := after .markTrailingEdge (halfSeen 1004019 ((running 1004097 [rec 58 1000000] 59).onTku
      (fun t => { t with estimate := 339260 })))
    t.tku.track.map (·.regs) = [[⟨2, .error 18 true⟩]] ∧ t.rlu.channels[2].owed = 9 ∧
      t.rlu.stations[2].settle = 13 := by decide +kernel

theorem test_markLeadingEdge_half_sees :
    (after .markLeadingEdge (running 1000000 [rec57] 58)).tku.halfSeen = some 1000000 := by decide +kernel

/-- Step 5: S2's window closes without a capture. -/
theorem test_windowClose_step_5 :
    let t := after (.windowClose 58 2) (busy (running 1008202 [rec 58 1000000] 59))
    t.tku.track.map (fun r => (r.regs, r.defects.register)) = [([⟨1, .missing⟩], true)] ∧
      noticed t = [(.markMissing, 2, 58)] := by decide +kernel

/-- Step 5 one count early: the window ends at 1,008,201 and stays open there. -/
theorem test_windowClose_waits_for_the_end :
    let s := running 1008201 [rec 58 1000000] 59
    after (.windowClose 58 2) s = s := by decide +kernel

/-- The window of repeat 58 ends at 1,000,370; the coast comes one count above it, at the expected origin. -/
theorem test_masterCoast_above_the_window :
    let s := running 1000371 [rec57] 58
    (after .masterCoast s).tku.track.map (fun r => (r.number, r.origin, r.coasted)) =
      [(57, 978770, false), (58, 999970, true)] ∧
    after .masterCoast (newWeb 1000370 s) = newWeb 1000370 s := by decide +kernel

/-- Step 8: record 58 is stamped EMBOSSED, 38. -/
theorem test_pointCrossing_emboss_step_8 :
    let t := after (.pointCrossing .emboss false) ((running 2200000 [rec 58 1000000, rec 59 1021215] 60).onEpu
      (fun e => { e with state := .engaged, npc := true, nipConfirmed := true, lastPhase := some ⟨38, 57⟩ }))
    t.tku.track.map (·.emboss) = [some (.embossed 38), none] ∧ t.tku.cursors.emboss = some 59 := by decide +kernel

/-- Step 9: record 58 crosses the shade point and its scan starts. -/
theorem test_pointCrossing_shade_step_9 :
    let t := after (.pointCrossing .shade false) (running 2265000 [rec 58 1000000, rec 59 1021215] 60)
    t.smu.scan = some ⟨58, 2, 2, 0, 0⟩ ∧ t.tku.track.map (·.shade) = [some [], none] ∧
      t.tku.cursors.shade = some 59 := by decide +kernel

/-- Step 10: record 58 is counted into roll 7 of lane A with one defect repeat, one REGISTER and one SPLICE. -/
theorem test_pointCrossing_knife_step_10 :
    let r := { rec 58 1000000 with
      splice := true, defects := ⟨true, false, false, false, true⟩
      shade := some [⟨0, .ok ⟨2169, 1850, 1402⟩⟩, ⟨3, .ok ⟨2158, 1846, 1399⟩⟩] }
    let t := after (.pointCrossing (.knife .a) false) (busy ((running 2420000 [r, rec 59 1021215] 60).onLane .a
      (fun k => { k with state := .indexing, roll := some (emptyRoll 7 2420000) })))
    t.rku.laneA.roll.map (·.counts) =
      some ⟨some 58, some 58, 1, 1, 1, 0, 0, 1, 0, ⟨2169, 1850, 1402⟩, 1⟩ ∧
    t.tku.track.map (·.markA) = [some 7, none] ∧ noticed t = [(.spliceAtKnife, 1, 58)] := by decide +kernel

/-- Step 11: record 58 crosses knife B, the last, and retires. -/
theorem test_pointCrossing_knife_step_11 :
    let s := (running 2440000 [rec 58 1000000, rec 59 1021215] 60).onTku (fun t =>
      { t with cursors := ⟨some 70, some 67, some 59, some 58⟩ })
    ((after (.pointCrossing (.knife .b) false) s).tku.track.map (·.number)) = [59] := by decide +kernel

/-- After step 11 TRACK SEEK NUMBER 58 is GONE with the cursor at 59. -/
theorem test_trackSeek_gone :
    replied (after (.trackSeek 7 (some (.number 58))) (busy (running 2440000 [rec 59 1021215] 60))) =
      [(0x12, .gone, [59, 0, 0, 0])] := by decide +kernel

theorem test_trackRead_moves_the_cursor :
    let t := after (.trackRead 7 4) (busy ((running 2440000 [rec 59 1021215, rec 60 1042420] 61).onTku
      (fun t => { t with readCursor := 59 })))
    t.tku.readCursor = 61 ∧ replied t = [(0x13, .ok, [2, 61, 0, 0, 0] ++
      [59, 0, 0, 0, 0x1F, 0x95, 0x0F, 0, 0, 0, 0, 0, 0, 0, 0, 0, 0, 0, 0, 0, 0, 0xFF, 0, 0, 0, 0] ++
      [60, 0, 0, 0, 0xF4, 0xE7, 0x0F, 0, 0, 0, 0, 0, 0, 0, 0, 0, 0, 0, 0, 0, 0, 0xFF, 0, 0, 0, 0])] := by
  decide +kernel

/-- Settle value of S3: ceil(16 * 240,000 / 339,260) + 1 = 13 (R53). -/
theorem test_stationMode_auto_loads_13 :
    let t := after (.stationMode 7 3 (some .auto)) ((running 0 [] 58).onRlu (fun r => r.onStation 2 (fun k =>
      { k with mode := .monitor })))
    t.rlu.stations[2].mode = .auto ∧ t.rlu.stations[2].settle = 13 := by decide +kernel

theorem test_stationSet_structural_in_run :
    replied (after (.stationSet 7 3 ⟨4001, 200, 50, 8, 4, 128, 50, 16⟩) (busy (line .run job))) =
      [(0x18, .wrongState, [])] := by decide +kernel

theorem test_trim_saturates :
    let t := after (.trim 7 9 4000) (busy (job.onRlu (fun r => r.onChannel 8 (fun c => { c with owed := 96 }))))
    t.rlu.channels[8].owed = 4095 ∧ replied t = [(0x1A, .ok, [0xFF, 0x0F])] ∧
      noticed t = [(.trimSaturated, 9, 0)] := by decide +kernel

theorem test_trimPulse_of_a_negative_trim :
    (after (.trimPulse 9) (job.onRlu (fun r => r.onChannel 8 (fun c => { c with owed := -30 })))).rlu.channels[8] =
      ⟨-29, 0xFFFFFFFF, false⟩ := by decide +kernel

/-! ### Emboss: the worked sequence of chapter 4 -/

/-- Records 200 and 201 of the worked sequence, the line running at WP. -/
def embossing (wp : Pos) (track : List RepeatRecord) (st : EmbossState) : State :=
  (running wp track 300).onEpu (fun e => { e with state := st })

/-- Index 1: phase -120 against record 200, correction -30. -/
theorem test_embossIndex_1 :
    let t := after (.embossIndex true) (embossing 4200180 [rec 200 3000000, rec 201 3021200] .syncing)
    t.epu.lastPhase = some ⟨-120, 200⟩ ∧ t.epu.engageCount = 0 ∧ t.epu.settle = 1 ∧
      t.rlu.channels[8].owed = -30 := by decide +kernel

/-- Index 8: phase -37 against record 207 is the third in a row; the countdown of 1 is spent. -/
theorem test_embossIndex_8 :
    let t := after (.embossIndex true) (busy ((embossing 4348663 [rec 206 3127200, rec 207 3148400] .syncing).onEpu
      (fun e => { e with engageCount := 2, settle := 1 })))
    t.epu.state = .engaged ∧ t.epu.npc = true ∧ t.epu.closeTimer = some 500 ∧ t.epu.settle = 0 ∧
      t.epu.lastIndex = some 4348663 ∧ t.rlu.channels[8].owed = 0 ∧ noticed t = [(.embossEngaged, 0, 207)] := by
  decide +kernel

theorem test_embossSet_configures_in_thread :
    (after (.embossSet 7 ⟨some false, 1, 300, some true, 64, 4, 50, 50, 1000, 100, 500, some false, 16⟩) job).epu.state =
      .none := by decide +kernel

theorem test_embossEngage_then_release :
    (after (.embossEngage 7) (line .run job)).epu.state = .syncing ∧
    (after (.embossRelease 7) (embossing 0 [] .syncing)).epu.state = .opened := by decide +kernel

/-- The loss limit is floor(3 * 339,200 / 32) = 31,800 counts above the last index. -/
theorem test_indexLost_limit :
    let s := (embossing 31800 [] .engaged).onEpu (fun e => { e with npc := true, lastIndex := some 0 })
    after .indexLost s = s ∧ noticed (after .indexLost (busy (newWeb 31801 s))) = [(.embossOut, 2, 0)] := by
  decide +kernel

theorem test_npfClosed_confirms :
    let t := after .npfClosed ((embossing 0 [] .engaged).onEpu (fun e => { e with closeTimer := some 500 }))
    t.epu.nipConfirmed = true ∧ t.epu.closeTimer = none := by decide +kernel

theorem test_npfOpen_of_a_confirmed_nip :
    let t := after .npfOpen (busy ((embossing 0 [] .engaged).onEpu (fun e => { e with npc := true, nipConfirmed := true })))
    t.epu.state = .opened ∧ t.epu.npc = false ∧ noticed t = [(.embossNip, 2, 0)] := by decide +kernel

theorem test_closeTimerExpiry_releases :
    noticed (after .closeTimerExpiry (busy ((embossing 0 [] .engaged).onEpu (fun e =>
      { e with npc := true, closeTimer := some 500 })))) = [(.embossNip, 1, 0)] := by decide +kernel

/-- R81: the expiry taken before NPF closed of the same interval. The unit is in RELEASING and waits for NPF open. -/
theorem test_closeTimerExpiry_with_the_nip_closed :
    let t := after (.closeTimerExpiry true) ((embossing 0 [] .engaged).onEpu (fun e =>
      { e with npc := true, closeTimer := some 500 }))
    t.epu.state = .releasing ∧ t.epu.releaseWatch = some 500 ∧ t.epu.npc = false ∧
    (after .npfOpen (after .npfClosed t)).epu.state = .opened := by decide +kernel

theorem test_releaseWatchExpiry_latches_nip_stuck :
    let s := (embossing 0 [] .releasing).onEpu (fun e => { e with releaseWatch := some 500 })
    let t := after .releaseWatchExpiry (s.onPins (fun p => { p with npf := true }))
    t.wtb.latched.nipStuck = true ∧ t.wtb.line = .fault := by decide +kernel

/-! ### Shade: the worked sequences of chapters 5 and 6 -/

/-- The factors of slot 0 in the worked sequence of chapter 5. -/
def slot0 : Factors := ⟨36045, 35812, 37210, 40, 36, 44⟩

/-- The exchange of a SAMPLE byte: its frame on HB and its answer. -/
def asked (sample : Byte) (answer : Option Answer) : Exchange := ⟨sample, linkFrame 0x01 [sample], answer⟩

/-- Record 58's scan with slot 0's measurement on the bus, three samples taken, and the fourth answered. -/
def measuring : State :=
  ((running 2265100 [{ rec 58 1000000 with shade := some [] }] 59)).onSmu (fun m => { m with
    active := m.active.set 0 slot0, guardB := ⟨1350, 1460, true, 0, false⟩, scan := some ⟨58, 2, 2, 0, 1⟩
    bus := some ⟨0, 2, 3, ⟨6035, 5185, 3836⟩, false, .scan 58 1, some (asked 0x80 (some (.good ⟨2013, 1731, 1281⟩)))⟩ })

/-- Slot 0 for record 58: the sums 8,048, 6,916 and 5,117 give (2,169, 1,850, 1,402), and the pointer moves on. -/
theorem test_frameSlotEnd_slot_0 :
    let t := after .frameSlotEnd measuring
    t.tku.track.map (·.shade) = [some [⟨0, .ok ⟨2169, 1850, 1402⟩⟩]] ∧ t.smu.pointer = 2 ∧ t.smu.bus = none ∧
      t.smu.scan = some ⟨58, 2, 2, 1, 1⟩ := by decide +kernel

/-- The clamps of R104: 30 under the black level gives 0 and 4,000 gives 4,095. -/
theorem test_calibrated_clamps :
    calibrated 30 40 36045 = 0 ∧ calibrated 4000 40 36045 = 4095 ∧ calibrated 2012 40 36045 = 2169 := by decide

/-- Each SAMPLE inverts its slot's sequence bit: the first names slot 3 with the bit as it stood after power-on. -/
theorem test_frameSlotStart_second_choice :
    let t := after .frameSlotStart ((running 2265200 [rec 58 1000000] 59).onSmu (fun m => { m with
      pointer := 2, scan := some ⟨58, 2, 2, 1, 1⟩, seqBits := m.seqBits.set 3 true }))
    t.smu.bus = some ⟨3, 2, 0, ⟨0, 0, 0⟩, false, .scan 58 2, some (asked 0x83 none)⟩ ∧ t.smu.seqBits[3] = false ∧
      t.smu.scan = some ⟨58, 2, 2, 1, 2⟩ := by decide +kernel

/-- R191: the frame of that SAMPLE on HB, byte by byte: LEN 2, TYPE 0x01, the slot with its bit, CHECK. -/
theorem test_frameSlotStart_frames_the_sample :
    (after .frameSlotStart ((running 2265200 [rec 58 1000000] 59).onSmu (fun m => { m with
      pointer := 2, scan := some ⟨58, 2, 2, 1, 1⟩, seqBits := m.seqBits.set 3 true }))).smu.bus.bind
        (fun b => b.exchange.map (·.frame)) =
      some ([0xC3, 2, 0, 0x01, 0x83] ++ le2 (crc16 [2, 0, 0x01, 0x83]).toNat) := by decide +kernel

/-- An answer by the table of R191: the SAMPLE echoed, three values, lamp OK. -/
theorem test_headAnswer_good :
    (after (.headAnswer (linkFrame 0x81 [0x80, 0xDA, 0x07, 0xBF, 0x06, 0xFD, 0x04, 0]))
      (measuring.onSmu (fun m => { m with bus := some ⟨0, 2, 0, ⟨0, 0, 0⟩, false, .scan 58 1,
        some (asked 0x80 none)⟩ }))).smu.bus.bind (·.exchange) =
      some (asked 0x80 (some (.good ⟨2010, 1727, 1277⟩))) := by decide +kernel

/-- Slot 4's gains: 36,141, 36,735 and 37,722; the run goes on with slot 5. -/
theorem test_frameSlotEnd_calibrates_slot_4 :
    let t := after .frameSlotEnd (job.onSmu (fun m => { m with
      active := m.active.set 4 ⟨32768, 32768, 32768, 40, 36, 44⟩
      calRun := some ⟨[4, 5], [4, 5], [], 3000⟩
      bus := some ⟨4, 4, 15, ⟨41400, 40680, 39750⟩, false, .cal, some (asked 4 (some (.good ⟨2760, 2712, 2650⟩)))⟩ }))
    t.smu.active[4] = ⟨36141, 36735, 37722, 40, 36, 44⟩ ∧ t.smu.calRun = some ⟨[5], [4, 5], [4], 3000⟩ := by
  decide +kernel

/-- PRK inactive at slot 5: CAL-DONE with {4} and {4, 5}. -/
theorem test_prkInactive_ends_the_run :
    noticed (after .prkInactive (busy (job.onSmu (fun m => { m with calRun := some ⟨[5], [4, 5], [4], 3000⟩ })))) =
      [(.calDone, 16, 48)] := by decide +kernel

theorem test_prkActive_abandons_the_scan :
    let t := after .prkActive measuring
    t.smu.scan = none ∧ t.smu.bus = none ∧ t.tku.track = measuring.tku.track := by decide +kernel

theorem test_calibrate_mask_4_5 :
    let t := after (.calibrate 7 0x30) (job.onPins (fun p => { p with prk := true }))
    t.smu.calRun = some ⟨[4, 5], [4, 5], [], 3000⟩ ∧
    replied (after (.calibrate 7 0x30) (busy job)) = [(0x31, .notParked, [])] := by decide +kernel

theorem test_calWrite_staged_while_measured :
    let t := after (.calWrite 7 0 ⟨8192, 8192, 65535, 0, 0, 1023⟩) (busy measuring)
    t.smu.active[0] = slot0 ∧ t.smu.staged[0] = some ⟨8192, 8192, 65535, 0, 0, 1023⟩ ∧
      replied t = [(0x2F, .ok, [1])] := by decide +kernel

theorem test_calRead_of_the_defaults :
    replied (after (.calRead 7 5) (busy State.reset)) = [(0x30, .ok,
      [0, 0x80, 0, 0x80, 0, 0x80, 0, 0, 0, 0, 0, 0, 0, 0, 0, 0, 0, 0, 0, 0, 0, 0, 0, 0, 0])] := by decide +kernel

theorem test_shadeSet_repeated_slot :
    replied (after (.shadeSet 7 ⟨[0, 3, 0], 2, 2, 0, some false, some false, 3000⟩) (busy job)) =
      [(0x28, .badValue, [])] ∧
    (after (.shadeSet 7 ⟨[5], 2, 2, 0, some false, some false, 3000⟩) job).smu.params.scanList = [5] := by
  decide +kernel

theorem test_slotEnable_clears_the_fault_count :
    let t := after (.slotEnable 7 0x3F) (job.onSmu (fun m => { m with
      enables := m.enables.set 2 false, faults := (m.faults.set 2 5).set 3 6 }))
    t.smu.enables[2] = true ∧ t.smu.faults[2] = 0 ∧ t.smu.faults[3] = 6 := by decide +kernel

theorem test_guardSet_b :
    (after (.guardSet 7 (some .b) ⟨1350, 1460, some true, 0, some false⟩) job).smu.guardB =
      ⟨1350, 1460, true, 0, false⟩ := by decide +kernel

/-- A SPOT whose record is off the track is taken and MISSED at once (R109). -/
theorem test_spot_missed :
    let t := after (.spot 7 1 2 (some (.number 58)) 90) (busy (running 2440000 [rec 59 1021215] 60))
    replied t = [(0x2B, .ok, [])] ∧ t.smu.results.map (·.status) = [.missed] ∧ noticed t = [(.spotDone, 90, 58)] := by
  decide +kernel

theorem test_spotTrigger_drops_with_no_template :
    let t := after (.spotTrigger 7) (busy job)
    t.smu.drops = 1 ∧ replied t = [(0x2C, .ok, [0])] := by decide +kernel

theorem test_spotStop_and_spotRead :
    replied (after (.spotStop 7) (busy job)) = [(0x2D, .ok, [0])] ∧
    replied (after (.spotRead 7 5) (busy job)) = [(0x2E, .badValue, [])] := by decide +kernel

/-! ### Lanes, batches and labels: the worked sequences of chapters 7 to 9 -/

/-- Roll 7 at step 8 of chapter 7. -/
def roll7 : OpenRoll :=
  ⟨7, 2420000, 2801700, ⟨some 58, some 76, 19, 1, 1, 0, 0, 1, 0, ⟨41217, 35150, 26638⟩, 19⟩,
    ⟨true, false, false, false, false⟩, 0⟩

/-- The batch table before step 1 of chapter 8, the label port before its arbitration run, and roll 7 armed. -/
def armed : State :=
  { (running 2821305 [rec 77 1402905, rec 78 1424110] 79).onLane .a (fun k => { k with
      state := .armed, roll := some roll7, cut := some ⟨77, 2822905, 2821305, false⟩ }) with
    btu := { job.btu with
      takes := 42, sequence := 18
      batches := [
        ⟨[0x4B, 0x54, 0x30, 0x31, 0x36], 16, ⟨2160, 1851, 1395⟩, 198, 79601300, 5, 41, true, true⟩,
        ⟨[0x4B, 0x54, 0x30, 0x31, 0x37], 17, ⟨2180, 1840, 1410⟩, 31, 12470155, 6, 42, false, true⟩] }
    lbp := { job.lbp with exchange := 40 }
    rku := { (running 2821305 [rec 77 1402905, rec 78 1424110] 79).rku with
      nextRoll := 9
      laneA := { laneJob with state := .armed, roll := some roll7, cut := some ⟨77, 2822905, 2821305, false⟩ } } }

/-- Step 8: roll 7 closes at 402,905 counts with its shade mean, joins KT016 at S = 11 and goes to the printer.
ROLL-DONE stands before CUT-DONE in the notice queue by its level. -/
theorem test_firePosition_step_8 :
    let t := after (.firePosition .a true) (busy armed)
    t.rku.history = [⟨7, .a, roll7.counts, 402905, roll7.flags, some ⟨2169, 1850, 1402⟩,
      some [0x4B, 0x54, 0x30, 0x31, 0x36], some 11, .good, .printing⟩] ∧
    t.rku.laneA.state = .indexing ∧ t.rku.laneA.roll = some (emptyRoll 9 2822905) ∧
    t.btu.batches.map (·.totalLength) = [80004205, 12470155] ∧ t.btu.batches.map (·.rolls) = [199, 31] ∧
    t.btu.takes = 43 ∧ noticed t = [(.rollDone, 1, 7), (.cutDone, 1, 7)] := by decide +kernel

/-- The label of roll 7: exchange 41, lane A, KT016, 1,007 cm, 19 repeats, one defect, SPLICE, S 11, template 3. -/
theorem test_firePosition_prints_roll_7 :
    (after (.firePosition .a true) armed).lbp.printing = some (linkFrame 0x01
      [41, 7, 0, 1, 0x4B, 0x54, 0x30, 0x31, 0x36, 0xEF, 0x03, 19, 0, 1, 0, 1, 11, 0, 3]) := by decide +kernel

/-- Step 7: record 76's crossing arms the lane at 2,822,905 less the lead of 1,600. -/
theorem test_pointCrossing_arms_step_7 :
    let r := { rec 76 1381700 with markB := some 8 }
    let t := after (.pointCrossing (.knife .a) false) ((running 2801700 [r, rec 77 1402905] 78).onLane .a (fun k =>
      { k with state := .winding, roll := some (emptyRoll 7 2420000) }))
    t.rku.laneA.cut = some ⟨77, 2822905, 2821305, false⟩ ∧ t.rku.laneA.state = .armed := by decide +kernel

/-- Step 4: the TDA edge ends INDEXING. -/
theorem test_turretDone_step_4 :
    let s := job.onLane .a (fun k => { k with state := .indexing, turret := some 3000, roll := some (emptyRoll 7 0) })
    (after (.turretDone .a true) s).rku.laneA.state = .winding ∧
    (after (.turretTimeout .a) s).wtb.latched.winder = true := by decide +kernel

theorem test_laneSet_busy_with_a_roll :
    replied (after (.laneSet 7 (some .a) ⟨some false, 0, 402000, 200000, 5, 8000, 3, 3000⟩)
      (busy (job.onLane .a (fun k => { k with roll := some (emptyRoll 7 0) })))) = [(0x38, .busy, [])] := by
  decide +kernel

theorem test_cut_forces_the_open_roll :
    let t := after (.cut 7 (some .a)) ((line .run job).onLane .a (fun k =>
      { k with state := .winding, roll := some (emptyRoll 7 0) }))
    t.rku.laneA.force = true ∧ t.rku.laneA.roll.map (·.flags.forced) = some true := by decide +kernel

theorem test_rollSeek_and_rollRead_of_an_empty_history :
    replied (after (.rollSeek 7 (some .oldest)) (busy job)) = [(0x3A, .ok, [1, 0, 0])] ∧
    replied (after (.rollRead 7 4) (busy job)) = [(0x3B, .ok, [0, 0, 0])] := by decide +kernel

theorem test_batchSet_full_while_batches_are_open :
    replied (after (.batchSet 7 ⟨0x4B, 0x54, 13, 16, 16, 16, 200, some .nearest⟩) (busy armed)) =
      [(0x40, .full, [1])] := by decide +kernel

theorem test_batchList_entry :
    replied (after (.batchList 7) (busy (armed.onBtu (fun b => { b with batches := b.batches.take 1 })))) =
      [(0x41, .ok, [1, 0x4B, 0x54, 0x30, 0x31, 0x36, 16, 0, 0x70, 0x08, 0x3B, 0x07, 0x73, 0x05, 198, 0,
        0x94, 0x9E, 0xBE, 0x04, 0, 0, 0, 0, 5, 0, 41, 0, 0, 0, 3, 18, 0, 0, 42, 0, 0, 0, 0])] := by decide +kernel

theorem test_batchClose_and_batchBreak :
    noticed (after (.batchClose 7 [0x4B, 0x54, 0x30, 0x31, 0x37]) (busy armed)) = [(.batchClosed, 1, 17)] ∧
    replied (after (.batchBreak 7) (busy armed)) = [(0x43, .ok, [0])] := by decide +kernel

/-- A job of the label list, as the arbitration run builds it. -/
def jobOf (roll : Nat) (l : Lane) (template : Nat) : LabelJob :=
  ⟨roll, l, [0x4B, 0x54, 0x30, 0x31, 0x36], 1007, 19, 1, true, some 11, template, true⟩

/-- Roll 7 in flight as exchange 41 with roll 8 waiting. -/
def printing7 : State :=
  { job with lbp := { job.lbp with
      exchange := 41, lastGranted := .a, inFlight := some ⟨jobOf 7 .a 3, 1⟩, timer := some 500
      listB := [jobOf 8 .b 5] } }

/-- At 180 ms: DONE 41 ends roll 7's job and the grant goes to roll 8 as exchange 42. -/
theorem test_printerDone_41 :
    let t := after (.printerDone (linkFrame 0x81 [41, 0])) (busy printing7)
    t.lbp.inFlight = some ⟨jobOf 8 .b 5, 1⟩ ∧ t.lbp.exchange = 42 ∧ t.lbp.lastGranted = .b ∧ t.lbp.listB = [] ∧
      noticed t = [(.labelDone, 1, 7)] := by decide +kernel

/-- At 230 ms: a fault with a retry left sends attempt 2 under the next number. -/
theorem test_printerFault_retries :
    let t := after (.printerFault (linkFrame 0x82 [41, 2])) printing7
    t.lbp.inFlight = some ⟨jobOf 7 .a 3, 2⟩ ∧ t.lbp.exchange = 42 ∧ t.lbp.lastFailure = 2 := by decide +kernel

/-- At 1,390 ms: the timer runs out with no retry left. -/
theorem test_labelTimeout_fails :
    let t := after .labelTimeout (busy { printing7 with lbp := { printing7.lbp with
      inFlight := some ⟨jobOf 9 .a 3, 2⟩ } })
    t.lbp.inFlight = some ⟨jobOf 8 .b 5, 1⟩ ∧ noticed t = [(.labelFailed, 1, 9)] := by decide +kernel

theorem test_printSent_starts_the_timer :
    (after .printSent { printing7 with lbp := { printing7.lbp with timer := none, printing := some [] } }).lbp.timer =
      some 500 := by decide +kernel

theorem test_labelSet_multiple_of_50 :
    replied (after (.labelSet 7 ⟨some true, some true, 3, 5, 501, 1⟩) (busy job)) = [(0x48, .badValue, [])] ∧
    (after (.labelSet 7 ⟨some true, some true, 3, 5, 550, 1⟩) job).lbp.params.timeout = 550 := by decide +kernel

/-- At 420 ms a discard of the job in flight is BUSY; the waiting job of roll 8 is taken out. -/
theorem test_labelDiscard :
    replied (after (.labelDiscard 7 7) (busy printing7)) = [(0x4A, .busy, [])] ∧
    replied (after (.labelDiscard 7 8) (busy printing7)) = [(0x4A, .ok, [1])] := by decide +kernel

/-- A roll of the history for the reads and the reprint. -/
def roll9 : RollRecord :=
  ⟨9, .a, ⟨some 77, some 95, 19, 1, 1, 0, 0, 1, 0, ⟨41217, 35150, 26638⟩, 19⟩, 402905,
    ⟨true, false, false, false, false⟩, some ⟨2169, 1850, 1402⟩, some [0x4B, 0x54, 0x30, 0x31, 0x36], some 11, .good,
    .failed⟩

/-- At 1,520 ms: the reprint of roll 9 is granted at once. -/
theorem test_labelReprint_granted :
    let t := after (.labelReprint 7 9) { job with
      rku := { job.rku with history := [roll9] }, lbp := { job.lbp with exchange := 46 } }
    t.lbp.inFlight = some ⟨jobOf 9 .a 3, 1⟩ ∧ t.lbp.exchange = 47 ∧ t.rku.history.map (·.label) = [.printing] := by
  decide +kernel

/-! ### Events, routes and the link: chapters 10 and 11 -/

/-- Step 1 of the worked sequence of chapter 10: slot 0's CUT takes REGISTER-ALARM (3, 300). -/
theorem test_raise_runs_the_lowest_slot :
    let s := ((line .run job).onLane .a (fun k => { k with state := .winding, roll := some (emptyRoll 11 0) })).onEvu
      (fun e => { e with routes := #v[some ⟨.registerAlarm, .cut (.lane .a), 1⟩,
        some ⟨.registerAlarm, .spot (some ⟨1, 2, 90⟩), 2⟩, none, none] })
    let t := raise .registerAlarm 3 300 (busy s)
    t.evu.routes[0] = none ∧ t.evu.routes[1] = s.evu.routes[1] ∧ t.rku.laneA.force = true ∧
      noticed t = [(.routeEnd, 0, 11)] := by decide +kernel

theorem test_eventLevel_and_noticeFloor :
    replied (after (.eventLevel 7 15 0) (busy State.reset)) = [(0x50, .ok, [6])] ∧
    (after (.noticeFloor 7 3) State.reset).evu.floor = 3 := by decide +kernel

theorem test_noticeClear_of_one_code :
    let n : Event → Notice := fun e => ⟨e, 2, 0, 0, 0⟩
    let t := after (.noticeClear 7 19) (busy (job.onEvu (fun e => { e with
      notices := [n .spotDone, n .cutDone, n .spotDone] })))
    noticed t = [(.cutDone, 0, 0)] ∧ replied t = [(0x52, .ok, [2])] := by decide +kernel

theorem test_routeBind_fire_unbind :
    let s := after (.routeBind 7 2 11 (some .newBatch) 1) (busy job)
    s.evu.routes[2] = some ⟨.registerAlarm, .newBatch, 1⟩ ∧
    replied (after (.routeFire 8 2) s) = [(0x53, .ok, []), (0x55, .ok, [0, 0])] ∧
    replied (after (.routeUnbind 8 2) s) = [(0x53, .ok, []), (0x54, .ok, [1])] := by decide +kernel

theorem test_identify_codes :
    (after (.identify 7) (busy State.reset)).svl.replies.map (fun r => r.fields.take 6) =
      [[0x71, 0x0A, 0xF8, 0x1B, 0x41, 6]] := by decide +kernel

theorem test_status_opens_with_the_line :
    (after (.status 7) (busy (line .run job))).svl.replies.map (fun r => (r.status, r.fields.take 1)) =
      [(.ok, [2])] := by decide +kernel

/-- RESET ends in the state after power-on, with its own reply out, the first frame the part sends (R190). -/
theorem test_reset_waits_for_its_reply :
    after .frameSent (after (.reset 7) (line .run job)) =
      State.reset.onSvl (fun v => { v with replied := true }) := by decide +kernel

/-- A CUT A frame, byte by byte: LEN 3, TAG 13, TYPE 0x39, lane code 1. -/
def cutFrame : List Byte := [0xC3, 3, 0, 13, 0x39, 1] ++ le2 (crc16 [3, 0, 13, 0x39, 1]).toNat

theorem test_frameReceived_queues_the_frame :
    (after (.frameReceived ([0x55] ++ cutFrame)) State.reset).svl.input = [⟨13, 0x39, [1]⟩] := by decide +kernel

/-- The corrupted CUT frame of chapter 11's burst: discarded, the count at 4. -/
theorem test_frameReceived_discards_a_bad_check :
    let t := after (.frameReceived [0xC3, 3, 0, 14, 0x39, 1, 0, 0])
      (State.reset.onSvl (fun v => { v with discarded := 3 }))
    t.svl.input = [] ∧ t.svl.discarded = 4 := by decide +kernel

theorem test_interByteTimeout_hunts :
    (after .interByteTimeout (after (.frameReceived [0xC3, 3]) State.reset)).svl.receiver = none := by decide +kernel

theorem test_requestTake_takes_the_head :
    let t := after .requestTake (busy (State.reset.onSvl (fun v => { v with input := [⟨13, 0x39, [1]⟩, ⟨15, 0x61, []⟩] })))
    replied t = [(0x39, .wrongState, [])] ∧ t.svl.input = [⟨15, 0x61, []⟩] := by decide +kernel

/-- Two notices waiting behind a frame that goes out, a reply sent since power-on or none. -/
def noticesWait (sent : Bool) : State :=
  (busy (job.onEvu (fun e => { e with
    floor := 3, dropped := 2, notices := [⟨.registerAlarm, 5, 0x01020304, 2, 304⟩, ⟨.cutDeferred, 3, 0, 1, 12⟩] }))).onSvl
    (fun v => { v with replied := sent })

/-- R190: no notice is the first frame the part sends. -/
theorem test_frameSent_waits_for_the_first_reply :
    let t := after .frameSent (noticesWait false)
    t.svl.sending = none ∧ t.evu = (noticesWait false).evu := by decide +kernel

/-- Step 6 of chapter 10: the output frees, and the notice above the floor goes out with the dropped count. -/
theorem test_frameSent_sends_the_head_notice :
    let t := after .frameSent (noticesWait true)
    t.svl.sending = some ⟨supervisorFrame 0 0xE0 [11, 5, 4, 3, 2, 1, 2, 48, 1, 0, 0, 2], false⟩ ∧
      t.evu.dropped = 0 ∧ noticed t = [(.cutDeferred, 1, 12)] := by decide +kernel

/-- Bodies laid out by R191, and the requests they spell. -/
theorem test_requests_decode :
    decodeRequest 7 0x39 [2] = .request (.cut 7 (some .b)) ∧
    decodeRequest 7 0x19 [3, 2] = .request (.stationMode 7 3 (some .auto)) ∧
    decodeRequest 7 0x19 [3, 4] = .request (.stationMode 7 3 none) ∧
    decodeRequest 7 0x1A [9, 0xE2, 0xFF] = .request (.trim 7 9 (-30)) ∧
    decodeRequest 7 0x08 [0] = .request (.stopAck 7 0) ∧
    decodeRequest 7 0x10 [0xD0, 0x52, 20, 3, 0x90, 1, 160, 0, 80, 0, 20, 0, 3] =
      .request (.repeatSet 7 ⟨21200, 20, 3, 400, 160, 80, 20, 3⟩) ∧
    decodeRequest 7 0x42 [0x4B, 0x54, 0x30, 0x31, 0x36] =
      .request (.batchClose 7 [0x4B, 0x54, 0x30, 0x31, 0x36]) := by decide +kernel

/-- One step runs the command at the front of the queue with the rest; an empty queue idles. -/
theorem test_step_takes_the_front :
    step { State.reset with pending := [.jobOpen 7, .status 8] } =
      exec (.jobOpen 7) { State.reset with pending := [.status 8] } ∧
    step State.reset = .next State.reset := ⟨rfl, rfl⟩

/-- The table gives no bits: no word spells a command, and the queue stands. -/
theorem test_no_word_spells_a_command :
    decodeTableWord 8 0x60 = none ∧ State.reset.withFetchWord 8 0x60 = State.reset := ⟨rfl, rfl⟩

/-! ### WellFormed: for each check a term that it alone refuses -/

/-- Fields REPEAT SET can carry. -/
def wRepeat : RepeatParams := ⟨65535, 255, 255, 65535, 65535, 65535, 65535, 255⟩

theorem test_wellFormed_wRepeat :
    (Instr.repeatSet 0 wRepeat).wellFormed = true ∧
    [Instr.repeatSet 0 { wRepeat with n := 65536 }, Instr.repeatSet 0 { wRepeat with g := 256 },
      Instr.repeatSet 0 { wRepeat with f := 256 }, Instr.repeatSet 0 { wRepeat with wMaster := 65536 },
      Instr.repeatSet 0 { wRepeat with masterWidth := 65536 },
      Instr.repeatSet 0 { wRepeat with stationWidth := 65536 },
      Instr.repeatSet 0 { wRepeat with widthTol := 65536 }, Instr.repeatSet 0 { wRepeat with c := 256 }].all (fun i => !i.wellFormed) = true := by
  decide +kernel

/-- Fields PATH SET can carry. -/
def wPath : PathTable := ⟨Vector.replicate 8 4294967295, 4294967295, 4294967295, 4294967295, 4294967295, 4294967295⟩

theorem test_wellFormed_wPath :
    (Instr.pathSet 0 wPath).wellFormed = true ∧
    [Instr.pathSet 0 { wPath with d := wPath.d.set 7 4294967296 },
      Instr.pathSet 0 { wPath with de := 4294967296 }, Instr.pathSet 0 { wPath with ds := 4294967296 },
      Instr.pathSet 0 { wPath with dka := 4294967296 }, Instr.pathSet 0 { wPath with dkb := 4294967296 },
      Instr.pathSet 0 { wPath with du := 4294967296 }].all (fun i => !i.wellFormed) = true := by
  decide +kernel

/-- Fields STATION SET can carry. -/
def wStation : StationParams := ⟨65535, 65535, 65535, 255, 65535, 65535, 65535, 255⟩

theorem test_wellFormed_wStation :
    (Instr.stationSet 0 255 wStation).wellFormed = true ∧
    [Instr.stationSet 0 255 { wStation with d := 65536 }, Instr.stationSet 0 255 { wStation with w := 65536 },
      Instr.stationSet 0 255 { wStation with tol := 65536 },
      Instr.stationSet 0 255 { wStation with alarmCount := 256 },
      Instr.stationSet 0 255 { wStation with deadband := 65536 },
      Instr.stationSet 0 255 { wStation with gain := 65536 },
      Instr.stationSet 0 255 { wStation with maxStep := 65536 },
      Instr.stationSet 0 255 { wStation with rate := 256 }].all (fun i => !i.wellFormed) = true := by
  decide +kernel

/-- Fields EMBOSS SET can carry. -/
def wEmboss : EmbossFields := ⟨none, 255, 65535, none, 65535, 65535, 65535, 65535, 65535, 65535, 65535, none, 255⟩

theorem test_wellFormed_wEmboss :
    (Instr.embossSet 0 wEmboss).wellFormed = true ∧
    [Instr.embossSet 0 { wEmboss with ratio := 256 }, Instr.embossSet 0 { wEmboss with offset := 65536 },
      Instr.embossSet 0 { wEmboss with gain := 65536 }, Instr.embossSet 0 { wEmboss with deadband := 65536 },
      Instr.embossSet 0 { wEmboss with maxStep := 65536 },
      Instr.embossSet 0 { wEmboss with engageWindow := 65536 },
      Instr.embossSet 0 { wEmboss with faultLimit := 65536 }, Instr.embossSet 0 { wEmboss with tol := 65536 },
      Instr.embossSet 0 { wEmboss with nipTimeout := 65536 }, Instr.embossSet 0 { wEmboss with rate := 256 }].all (fun i => !i.wellFormed) = true := by
  decide +kernel

/-- Fields SHADE SET can carry. -/
def wShade : ShadeFields := ⟨[255, 255, 255, 255, 255, 255], 255, 255, 65535, none, none, 65535⟩

theorem test_wellFormed_wShade :
    (Instr.shadeSet 0 wShade).wellFormed = true ∧
    [Instr.shadeSet 0 { wShade with scanList := [0, 1, 2, 3, 4, 5, 0] },
      Instr.shadeSet 0 { wShade with scanList := [256] }, Instr.shadeSet 0 { wShade with nscan := 256 },
      Instr.shadeSet 0 { wShade with kreg := 256 }, Instr.shadeSet 0 { wShade with offset := 65536 },
      Instr.shadeSet 0 { wShade with whiteTarget := 65536 }].all (fun i => !i.wellFormed) = true := by
  decide +kernel

/-- Fields GUARD SET can carry. -/
def wGuard : GuardFields := ⟨65535, 65535, none, 255, none⟩

theorem test_wellFormed_wGuard :
    (Instr.guardSet 0 none wGuard).wellFormed = true ∧
    [Instr.guardSet 0 none { wGuard with low := 65536 }, Instr.guardSet 0 none { wGuard with high := 65536 },
      Instr.guardSet 0 none { wGuard with slot := 256 }].all (fun i => !i.wellFormed) = true := by
  decide +kernel

/-- Fields CAL WRITE can carry. -/
def wFactors : Factors := ⟨65535, 65535, 65535, 65535, 65535, 65535⟩

theorem test_wellFormed_wFactors :
    (Instr.calWrite 0 255 wFactors).wellFormed = true ∧
    [Instr.calWrite 0 255 { wFactors with gainR := 65536 },
      Instr.calWrite 0 255 { wFactors with gainG := 65536 },
      Instr.calWrite 0 255 { wFactors with gainB := 65536 },
      Instr.calWrite 0 255 { wFactors with blackR := 65536 },
      Instr.calWrite 0 255 { wFactors with blackG := 65536 },
      Instr.calWrite 0 255 { wFactors with blackB := 65536 }].all (fun i => !i.wellFormed) = true := by
  decide +kernel

/-- Fields LANE SET can carry. -/
def wLane : LaneFields := ⟨none, 65535, 4294967295, 4294967295, 65535, 65535, 255, 65535⟩

theorem test_wellFormed_wLane :
    (Instr.laneSet 0 none wLane).wellFormed = true ∧
    [Instr.laneSet 0 none { wLane with cutOffset := 65536 },
      Instr.laneSet 0 none { wLane with target := 4294967296 },
      Instr.laneSet 0 none { wLane with minLength := 4294967296 },
      Instr.laneSet 0 none { wLane with defectLimit := 65536 },
      Instr.laneSet 0 none { wLane with knifeLead := 65536 },
      Instr.laneSet 0 none { wLane with maxDeferrals := 256 },
      Instr.laneSet 0 none { wLane with turretTimeout := 65536 }].all (fun i => !i.wellFormed) = true := by
  decide +kernel

/-- Fields BATCH SET can carry. -/
def wBatch : BatchFields := ⟨0, 0, 65535, 255, 255, 255, 65535, none⟩

theorem test_wellFormed_wBatch :
    (Instr.batchSet 0 wBatch).wellFormed = true ∧
    [Instr.batchSet 0 { wBatch with tol := 65536 }, Instr.batchSet 0 { wBatch with wR := 256 },
      Instr.batchSet 0 { wBatch with wG := 256 }, Instr.batchSet 0 { wBatch with wB := 256 },
      Instr.batchSet 0 { wBatch with rollsPerBatch := 65536 }].all (fun i => !i.wellFormed) = true := by
  decide +kernel

/-- Fields LABEL SET can carry. -/
def wLabel : LabelFields := ⟨none, none, 255, 255, 65535, 255⟩

theorem test_wellFormed_wLabel :
    (Instr.labelSet 0 wLabel).wellFormed = true ∧
    [Instr.labelSet 0 { wLabel with templateA := 256 }, Instr.labelSet 0 { wLabel with templateB := 256 },
      Instr.labelSet 0 { wLabel with timeout := 65536 }, Instr.labelSet 0 { wLabel with retries := 256 }].all (fun i => !i.wellFormed) = true := by
  decide +kernel

/-- The numbers and lists that requests carry by themselves. -/
theorem test_wellFormed_requests :
    [Instr.stopAck 0 256, .lineSet 0 256 none, .trackSeek 0 (some (.number 4294967296)), .trackRead 0 256,
      .stationSet 0 256 wStation, .stationMode 0 256 none, .trim 0 256 0, .trim 0 1 (-32769), .trim 0 1 32768,
      .spot 0 256 0 none 0, .spot 0 0 256 none 0, .spot 0 0 0 (some (.number 4294967296)) 0, .spot 0 0 0 none 256,
      .spotRead 0 256, .calWrite 0 256 wFactors, .calRead 0 256, .rollSeek 0 (some (.number 65536)), .rollRead 0 256,
      .batchClose 0 [0, 0, 0, 0], .batchClose 0 [0, 0, 0, 0, 0, 0], .labelReprint 0 65536, .labelDiscard 0 65536,
      .eventLevel 0 256 0, .eventLevel 0 0 256, .noticeFloor 0 256, .noticeClear 0 256].all
        (fun i => !i.wellFormed) = true := by decide +kernel

theorem test_wellFormed_routes :
    [Instr.routeBind 0 256 0 none 0, .routeBind 0 0 256 none 0, .routeBind 0 0 0 none 256,
      .routeBind 0 0 0 (some (.spot (some ⟨256, 0, 0⟩))) 0, .routeBind 0 0 0 (some (.spot (some ⟨0, 256, 0⟩))) 0,
      .routeBind 0 0 0 (some (.spot (some ⟨0, 0, 256⟩))) 0, .routeUnbind 0 256, .routeFire 0 256].all
        (fun i => !i.wellFormed) = true := by decide +kernel

theorem test_wellFormed_line_side :
    [Instr.windowClose 0 1, .windowClose 4294967296 1, .windowClose 1 0, .windowClose 1 9, .trimPulse 0,
      .trimPulse 10].all (fun i => !i.wellFormed) = true ∧
    [Instr.windowClose 4294967295 8, .trimPulse 9, .powerOn, .requestTake].all (·.wellFormed) = true := by
  decide +kernel

/-! ### Witnesses: states and operands that meet the hypotheses of each statement, clause by clause

Each theorem bears the statement's name. A clause with a range is met at the ends of the range. -/

theorem wit_StepRunsFrontCommand :
    ({ State.reset with pending := [.status 1, .identify 2] } : State).pending = .status 1 :: [.identify 2] ∧
    State.reset.pending = [] := ⟨rfl, rfl⟩

theorem wit_PowerOnAndReset :
    (State.reset.onSvl (fun v => { v with sending := some ⟨[0], true⟩ })).svl.sending = some ⟨[0], true⟩ := rfl

/-- A reply waiting in the path. -/
def aReply (k : ReplyKind) : Reply := ⟨k, 9, 0x61, .ok, [], false⟩

/-- A notice of a level. -/
def aNotice (level : Nat) : Notice := ⟨.cutDone, level, 0, 1, 7⟩

theorem wit_OutputSenderOrder :
    (busy State.reset).svl.sending = some ⟨[], false⟩ ∧
    State.reset.svl.sending = none ∧ State.reset.svl.replies = [] ∧
    ((busy State.reset).onSvl (fun v => { v with replies := [aReply .ordinary] })).svl.replies = [aReply .ordinary] ∧
    (let s := (busy job).onEvu (fun e => { e with notices := [aNotice 4], floor := 3 });
      s.svl.replies = [] ∧ s.evu.notices = [aNotice 4] ∧ s.svl.replied = true ∧ s.evu.floor < (aNotice 4).level) ∧
    (let s := (busy job).onEvu (fun e => { e with notices := [aNotice 4], floor := 4 });
      s.svl.replies = [] ∧ s.svl.replied = true ∧ ∀ n ∈ s.evu.notices.head?, n.level ≤ s.evu.floor) ∧
    State.reset.svl.replied = false ∧ State.reset.evu.levels[Event.stopCause.index] ≠ 0 := by
  refine ⟨rfl, rfl, rfl, rfl, by decide, ⟨rfl, rfl, ?_⟩, rfl, by decide⟩
  intro n h
  cases h
  decide

/-- An idle sender with this reply or this notice waiting. -/
theorem wit_OutputSenderOrder_idle :
    (let s := job.onSvl (fun v => { v with replies := [aReply .queueFull, aReply .spotStop] });
      s.svl.sending = none ∧ s.svl.replies = aReply .queueFull :: [aReply .spotStop]) ∧
    (let s := job.onEvu (fun e => { e with notices := [aNotice 4], floor := 3 });
      s.svl.sending = none ∧ s.svl.replies = [] ∧ s.evu.notices = aNotice 4 :: [] ∧ s.svl.replied = true ∧
      s.evu.floor < (aNotice 4).level) ∧
    (let s := job.onEvu (fun e => { e with notices := [aNotice 4], floor := 4 });
      s.svl.sending = none ∧ s.svl.replies = [] ∧ s.evu.notices.all (fun n => n.level ≤ s.evu.floor) = true) ∧
    (let s := State.reset.onEvu (fun e => { e with notices := [aNotice 4] });
      s.svl.sending = none ∧ s.svl.replies = [] ∧ s.svl.replied = false) := by decide +kernel

/-- Four requests wait. -/
def fullInput (replies : List Reply) : State :=
  State.reset.onSvl (fun v => { v with input := List.replicate 4 ⟨1, 0x61, []⟩, replies := replies })

theorem wit_FramesAreReceived :
    (List.replicate 500 (0 : Byte)).length ≤ 500 ∧ State.reset.svl.receiver = none ∧
    (State.reset.onSvl (fun v => { v with input := List.replicate 3 ⟨1, 0x61, []⟩ })).svl.input.length < 4 ∧
    (fullInput []).svl.receiver = none ∧ 4 ≤ (fullInput []).svl.input.length ∧
    (∀ r ∈ (fullInput [aReply .ordinary]).svl.replies, r.kind ≠ .queueFull) ∧
    (∃ r ∈ (fullInput [aReply .queueFull]).svl.replies, r.kind = .queueFull) ∧
    startByte ∉ [0x55#8, 0xC2, 0xC4] ∧ (1#8).toNat + 256 * (0#8).toNat < 2 ∧
    502 < (0xF7#8).toNat + 256 * (0x01#8).toNat ∧
    [0#8, 0] ≠ le2 (crc16 (le2 (0 + 2) ++ 7 :: 0x61 :: [])).toNat ∧
    (State.reset.onSvl (fun v => { v with receiver := some [3] })).svl.receiver = some [3] := by decide +kernel

/-- A state with these requests waiting and these replies. -/
def waiting (input : List RequestFrame) (replies : List Reply) : State :=
  State.reset.onSvl (fun v => { v with input := input, replies := replies })

theorem wit_RequestIsTaken :
    (waiting [] [aReply .queueFull]).svl.input = [] ∧
    (waiting [⟨7, 0x39, [2]⟩, ⟨8, 0x61, []⟩] []).svl.input = ⟨7, 0x39, [2]⟩ :: [⟨8, 0x61, []⟩] ∧
    (∀ r ∈ (waiting [⟨7, 0x39, [2]⟩] [aReply .queueFull, aReply .spotStop]).svl.replies, r.kind ≠ .ordinary) ∧
    decodeRequest 7 0x39 [2] = .request (.cut 7 (some .b)) ∧
    bodyLength 0x63 = none ∧ bodyLength 0x0B = none ∧ bodyLength 0x00 = none ∧
    bodyLength 0x39 = some 1 ∧ ([] : List Byte).length ≠ 1 ∧ ([1, 2] : List Byte).length ≠ 1 ∧
    (∃ r ∈ (waiting [⟨7, 0x39, [2]⟩] [aReply .ordinary]).svl.replies, r.kind = .ordinary) := by decide +kernel

theorem wit_RequestDecodesItsEncoding :
    (Instr.repeatSet 0xFF wRepeat).wellFormed = true ∧ (encodeRequest (.repeatSet 0xFF wRepeat)).isSome = true ∧
    (Instr.trim 0 0 (-32768)).wellFormed = true ∧ encodeRequest (.trim 0 0 (-32768)) = some (0x1A, [0, 0, 0x80]) ∧
    (Instr.pathSet 0 wPath).wellFormed = true ∧ (encodeRequest (.pathSet 0 wPath)).isSome = true := by decide +kernel

/-- Notices of these levels queued. -/
def queued (levels : List Nat) : Evu := { Evu.reset with notices := levels.map aNotice }

theorem wit_NoticeTakesItsPlace :
    (queued [7, 4, 4, 1]).notices.Pairwise (fun a b => b.level ≤ a.level) ∧
    (queued (List.replicate 31 2)).notices.length < 32 ∧
    (queued (List.replicate 31 5 ++ [2])).notices.Pairwise (fun a b => b.level ≤ a.level) ∧
    32 ≤ (queued (List.replicate 31 5 ++ [2])).notices.length ∧
    (queued (List.replicate 31 5 ++ [2])).notices.getLast? = some (aNotice 2) ∧
    (aNotice 2).level ≤ (aNotice 2).level ∧ (aNotice 2).level < (aNotice 3).level := by decide +kernel

/-- The job in RUN with lane A winding, and slots 1 and 3 bound to CUT-DONE. -/
def routed (action : RouteAction) (count : Nat) : State :=
  ((line .run job).onLane .a (fun k => { k with state := .winding, roll := some (emptyRoll 7 0) })).onEvu
    (fun e => { e with routes := #v[none, some ⟨.cutDone, action, count⟩, none, some ⟨.cutDone, .newBatch, 1⟩] })

/-- The lane column: a lane's code, a slot at the ends of each lane's range, and any parameter of another code. -/
theorem wit_RoutedOccurrence_lanes :
    Event.labelQueueFull.lanesFor 1 = [.a] ∧ Event.labelQueueFull.lanesFor 2 = [.b] ∧
    Event.headFailed.lanesFor 0 = [.a] ∧ Event.headFailed.lanesFor 2 = [.a] ∧ Event.headFailed.lanesFor 3 = [.b] ∧
    Event.headFailed.lanesFor 5 = [.b] ∧ Event.registerAlarm.lanesFor 1 = [.a, .b] := by decide +kernel

theorem wit_RoutedOccurrence :
    (∀ i : Fin 4, State.reset.evu.routes[i] = none) ∧
    (State.reset.onEvu (fun e => { e with levels := e.levels.set 21 0 })).evu.levels[Event.cutDone.index] = 0 ∧
    State.reset.evu.levels[Event.cutDone.index] ≠ 0 ∧
    (routed .newBatch 1).evu.routes[(1 : Fin 4)] = some ⟨.cutDone, .newBatch, 1⟩ ∧
    (routed .newBatch 1).evu.routes[(0 : Fin 4)] = none ∧
    (runAction 1 (.cut (.lane .b)) (Event.cutDone.lanesFor 2) (routed (.cut (.lane .b)) 1)).done = false ∧
    (runAction 1 .newBatch (Event.cutDone.lanesFor 1) (routed .newBatch 1)).done = true ∧
    (runAction 1 (.cut .event) (Event.cutDone.lanesFor 1) (routed (.cut .event) 2)).done = true ∧
    (runAction 1 (.cut .event) (Event.cutDone.lanesFor 1) (routed (.cut .event) 2)).held = false ∧
    (let a := runAction 1 .holdLine (Event.cutDone.lanesFor 1) (routed .holdLine 1)
     a.done = true ∧ a.held = true ∧ 1 ≤ 1 ∧ ¬ 2 ≤ 1) := by decide +kernel

/-- The last count of a bound HOLD LINE: its ROUTE-END of slot 1 and CUT-DONE, then the LINE-STATE of the HOLD; the
occurrence itself goes no further. -/
theorem wit_RoutedOccurrence_holds :
    let t := raise .cutDone 1 7 (busy (routed .holdLine 1))
    t.wtb.line = .hold ∧ t.evu.routes[1] = none ∧ noticed t = [(.routeEnd, 1, 22), (.lineState, 3, 6)] := by
  decide +kernel

/-- Pending spot contexts. -/
def spots (n : Nat) : State :=
  (line .run job).onSmu (fun m => { m with contexts := List.replicate n ⟨1, 2, .next, none, false, 90, .link⟩ })

theorem wit_RouteActionsAtOwners :
    (line .run job).wtb.line = .run ∧ (line .hold job).wtb.line = .hold ∧ job.wtb.line ≠ .run ∧
    (embossing 0 [] .syncing).epu.state = .syncing ∧ (embossing 0 [] .engaged).epu.state = .engaged ∧
    (embossing 0 [] .engaged).nipClosed = false ∧
    ((embossing 0 [] .engaged).onPins (fun p => { p with npf := true })).nipClosed = true ∧
    (embossing 0 [] .releasing).epu.state = .releasing ∧ job.epu.state = .opened ∧
    (⟨5, 4, 255⟩ : SpotTemplate).slot < 6 ∧ (spots 3).smu.contexts.length < 4 ∧ (spots 3).smu.heldStops = [] ∧
    (spots 3).wtb.line ≠ .idle ∧ (spots 3).wtb.line ≠ .fault ∧ 4 ≤ (spots 4).smu.contexts.length ∧
    (routed .newBatch 1).running = true ∧ ((routed .newBatch 1).lane .a).state = .winding ∧
    (armed.lane .a).state = .armed ∧ armed.running = true ∧
    (runAction 0 (.cut (.lane .b)) [] (routed .newBatch 1)).done = false ∧
    (spots 3).smu.contexts.getLast? = some ⟨1, 2, .next, none, false, 90, .link⟩ ∧
    (let s := (spots 0).onSmu (fun m => { m with standing := some ⟨1, 2, .immediate, none, true, 90, .link⟩ });
      s.smu.contexts = [] ∧ s.smu.standing.isSome = true ∧ (spots 0).smu.standing = none) ∧
    Lane.a ∈ Event.cutDone.lanesFor 1 ∧ Lane.b ∉ Event.cutDone.lanesFor 1 := by decide +kernel

theorem wit_RouteRequestsAreTaken :
    Event.reverse ≠ .lineState ∧ Event.reverse ≠ .stopCause ∧ Event.labelQueueFull ≠ .routeEnd ∧
    (RouteAction.spot (some ⟨5, 4, 255⟩)).inRange = true ∧ (RouteAction.spot (some ⟨6, 4, 255⟩)).inRange = false ∧
    (RouteAction.spot (some ⟨5, 5, 255⟩)).inRange = false ∧
    (routed .newBatch 1).evu.routes[(1 : Fin 4)] = some ⟨.cutDone, .newBatch, 1⟩ ∧
    (runAction 1 .newBatch [.a, .b] (routed .newBatch 1)).done = true ∧
    (runAction 1 (.cut (.lane .b)) [.a, .b] (routed (.cut (.lane .b)) 255)).done = false ∧
    (runAction 1 .holdLine [.a, .b] (routed .holdLine 1)).held = true ∧
    (routed .newBatch 1).evu.routes[(0 : Fin 4)] = none := by decide +kernel

theorem wit_NoticeRequestsAreTaken :
    31 < 32 ∧ Event.lineState.code = 1 ∧ Event.routeEnd.code = 31 ∧ 7 ≤ 7 ∧ 7 < 8 ∧
    (queued [7, 4]).notices ≠ [] := by decide +kernel

/-! #### The shade mean -/

/-- One value of lane A counted; the count of repeats at its limit and one below. -/
theorem wit_ShadeMeanRoundsHalfUp :
    (let o := (emptyRoll 7 0);
      o.counts.samples = ([] : List Rgb).length ∧ o.counts.sums = ⟨0, 0, 0⟩ ∧ o.counts.repeats < 65535 ∧
      ((((laneIn .winding).lane .a).roll)) = some o) ∧
    (let r := { rec 58 1000000 with shade := some [⟨2, .ok ⟨4095, 0, 7⟩⟩, ⟨3, .ok ⟨1, 1, 1⟩⟩, ⟨1, .invalid⟩] };
      ((countRecord .a r (laneIn .winding)).lane .a).roll.map (fun o => (o.counts.samples, o.counts.sums)) =
        some (1, ⟨4095, 0, 7⟩)) ∧
    0 < roll7.counts.samples ∧ roll7.counts.mean = some ⟨2169, 1850, 1402⟩ ∧ (65534 : Nat) < 65535 := by
  decide +kernel

/-! #### The Web Timebase -/

/-- The job in a line state with WP and HW. -/
def at_ (l : LineState) (wp hw : Pos) : State := (line l job).onWtb (fun w => { w with wp := wp, hw := hw })

/-- With levels equal a change of B is forward and a change of A reverse; REVERSED swaps the two. -/
theorem wit_WebPositionFollowsCounts_directions :
    State.reset.pins.encA ≠ (!State.reset.pins.encB) ∧ State.reset.wtb.polarity.reversed = false ∧
    (!State.reset.pins.encA) ≠ State.reset.pins.encB := by decide +kernel

/-- One count above the depth N, with the REVERSED setting and the encoder levels equal or apart. -/
def deep (l : LineState) (swapped apart : Bool) : State :=
  ((at_ l 1228800 1250000).onPins (fun p => { p with encB := apart })).onWtb (fun w =>
    { w with polarity := { w.polarity with reversed := swapped } })

/-- The depth N against N + 1, WP at HW and one below, and the wrap of 32 bits. -/
theorem wit_WebPositionFollowsCounts :
    job.wtb.line = .thread ∧ State.reset.wtb.line = .idle ∧
    (let s := at_ .fault 0xFFFFFFFF 0xFFFFFFFF;
      s.wtb.line ≠ .idle ∧ s.wtb.line ≠ .thread ∧ 0 < (s.wtb.wp + 1 - s.wtb.hw).toInt) ∧
    (let s := at_ .run 99 100;
      s.wtb.line ≠ .idle ∧ s.wtb.line ≠ .thread ∧ (s.wtb.wp + 1 - s.wtb.hw).toInt ≤ 0) ∧
    (let s := at_ .hold 1228801 1250000;
      s.wtb.line ≠ .idle ∧ s.wtb.line ≠ .thread ∧ (s.wtb.hw - (s.wtb.wp - 1)).toInt ≤ s.tku.params.n) ∧
    (∀ l ∈ [LineState.run, .hold], ∀ swapped ∈ [true, false], ∀ apart ∈ [true, false],
      let s := deep l swapped apart;
      s.wtb.excursion = false ∧ (s.tku.params.n : Int) < (s.wtb.hw - (s.wtb.wp - 1)).toInt ∧
      s.evu.routeFor .reverse = none ∧ s.wtb.line = l) ∧
    (let s := (deep .run false false).pins; ¬ (((!s.encA) = s.encB) ↔ false = false)) ∧
    (let s := (deep .run true true).pins; ¬ (((!s.encA) = s.encB) ↔ true = false)) ∧
    (let s := (deep .run false true).pins; ¬ (s.encA ≠ (!s.encB) ↔ false = false)) ∧
    (let s := (deep .run true false).pins; ¬ (s.encA ≠ (!s.encB) ↔ true = false)) := by decide +kernel

/-- The line in a state with resume set and a net count. -/
def sampling (l : LineState) (armed : Bool) (net : Int) : State :=
  (line l job).onWtb (fun w => { w with resumeArmed := armed, netCount := net })

/-- Sums of 0, -1 and beyond 255 * 4; v at 3 and 4 against the crawl threshold 4, and at 5 and 6 against 6. -/
theorem wit_SpeedSampleSetsSpeed :
    (∀ net ∈ [(0 : Int), 15, 16, 23, 24, 1024], let s := sampling .run false net;
      0 ≤ s.wtb.netCount + s.wtb.s1 + s.wtb.s2 + s.wtb.s3) ∧
    (let s := sampling .run false (-1); s.wtb.netCount + s.wtb.s1 + s.wtb.s2 + s.wtb.s3 < 0) ∧
    (sampling .run false 15).wtb.line = .run ∧ (sampling .run false 15).wtb.autoHold = true ∧
    (15 : Int) / 4 < 4 ∧ (4 : Int) ≤ 16 / 4 ∧ (sampling .hold true 24).wtb.line = .hold ∧
    (sampling .hold true 24).wtb.resumeArmed = true ∧ (4 : Int) + 2 ≤ 24 / 4 ∧ (23 : Int) / 4 < 4 + 2 ∧
    (after .speedSample (sampling .run false 15)).wtb.line = .hold ∧
    (after .speedSample (sampling .run false 16)).wtb.line = .run ∧
    (after .speedSample (sampling .hold true 23)).wtb.line = .hold ∧
    (after .speedSample (sampling .hold true 24)).wtb.line = .run ∧
    (sampling .hold true 24).epu.reengage = false ∧ (sampling .hold true 24).smu.calRun = none ∧
    (∀ auto ∈ [true, false], let s := (sampling .hold true 24).onEpu (fun e => { e with
        reengage := true, params := { e.params with autoReengage := auto } });
      s.epu.state = .opened ∧ s.epu.releaseWatch = none ∧ s.epu.reengage = true ∧
      (after .speedSample s).epu.state = if auto then .syncing else .opened) := by decide +kernel

/-- The line with a cause latched. -/
def latched (l : LineState) (c : StopCause) : State :=
  (line l job).onWtb (fun w => { w with latched := w.latched.put c true })

theorem wit_StopCausesLatchAndClear :
    (∀ l ∈ [LineState.idle, .fault, .thread, .run, .hold],
      (line l job).wtb.line = l ∧ (line l job).wtb.latched.get .estop = false ∧
      (line l job).wtb.latched.get .encoder = false) ∧
    (latched .run .estop).wtb.latched.get .estop = true ∧ (latched .run .encoder).wtb.latched.get .encoder = true ∧
    true ≠ job.wtb.polarity.est ∧ false = job.wtb.polarity.est ∧ 5 ≤ 5 ∧ 5 < 6 ∧
    (line .run job).smu.spotInProgress = none ∧ (line .run job).smu.calRun = none ∧
    (embossing 0 [] .engaged).epu.state = .engaged := by decide +kernel

/-- R16: STOP-CAUSE with the line state at the latching, then LINE-STATE of FAULT. -/
theorem wit_StopCausesLatchAndClear_order :
    let t := after .illegalTransition (busy (line .run job))
    t.wtb.line = .fault ∧ noticed t = [(.stopCause, 2, 2), (.lineState, 4, 5)] := by decide +kernel

/-- INPUT SET with every field named. -/
def inputs (est scn : Bool) : InputFields :=
  ⟨some est, some false, some false, some false, some false, some scn, some false, some false, some false, some false,
    some false⟩

/-- The settings that `inputs` names. -/
def settings (est scn : Bool) : Polarity :=
  ⟨est, false, false, false, false, scn, false, false, false, false, false⟩

theorem wit_LineSettingsAreWritten :
    2 ≤ 2 ∧ 40 ≤ 40 ∧ 1 < 2 ∧ 40 < 41 ∧
    (inputs false true).resolve = some (settings false true) ∧ settings false true ≠ State.reset.wtb.polarity ∧
    State.reset.wtb.line = .idle ∧ job.wtb.line = .thread ∧ State.reset.pins.est = (settings false true).est ∧
    (inputs true false).resolve = some (settings true false) ∧ settings true false ≠ State.reset.wtb.polarity ∧
    State.reset.pins.est ≠ (settings true false).est ∧ State.reset.wtb.latched.estop = false ∧
    (latched .idle .estop).wtb.latched.estop = true ∧ (line .run job).wtb.line ≠ .idle ∧
    (line .run job).wtb.line ≠ .thread ∧ ({ inputs true true with reversed := none } : InputFields).resolve = none ∧
    (inputs false false).resolve = some State.reset.wtb.polarity := by decide +kernel

/-! #### Jobs -/

theorem wit_JobOpenOpensJob :
    State.reset.wtb.line = .idle ∧ (∀ c, State.reset.wtb.latched.get c = false) ∧
    (latched .idle .winder).wtb.line = .idle ∧ (latched .idle .winder).wtb.latched.get .winder = true ∧
    job.wtb.line ≠ .idle := by
  refine ⟨rfl, fun c => ?_, rfl, rfl, by decide⟩
  cases c <;> rfl

/-- The worked job passes its nine checks, at and below the crawl threshold; with no MASTER it fails check 2. -/
theorem wit_JobStartStartsTrack :
    job.wtb.line = .thread ∧ (∀ c ∈ [1, 2, 3, 4, 5, 6, 7, 8, 9], checkHolds job.tku.params job c = true) ∧
    (job.onWtb (fun w => { w with v := 4 })).wtb.crawl ≤ 4 ∧ 3 < job.wtb.crawl ∧
    (let s := job.onRlu (fun r => r.onStation 0 (fun k => { k with mode := .off }));
      s.wtb.line = .thread ∧ checkHolds s.tku.params s 2 = false ∧ checkHolds s.tku.params s 1 = true) ∧
    State.reset.wtb.line ≠ .thread := by decide +kernel

theorem wit_JobOpenOpensJob_hold :
    (line .run job).wtb.line = .run ∧ (line .run job).epu.state = .opened ∧ (line .hold job).wtb.line = .hold ∧
    job.wtb.line ≠ .run ∧ job.wtb.line ≠ .hold ∧ (line .run job).wtb.line ≠ .hold := by decide +kernel

theorem wit_StopAndRecoverEmptyTrack :
    (running 2000 [rec57] 58).wtb.line = .run ∧ (line .hold job).wtb.line = .hold ∧
    ((line .fault job).wtb.line = .fault ∧ ∀ c, (line .fault job).wtb.latched.get c = false) ∧
    (embossing 0 [] .engaged).epu.state = .engaged ∧ (embossing 0 [] .syncing).epu.state = .syncing ∧
    (line .fault (embossing 0 [] .releasing)).epu.state = .releasing ∧ job.wtb.line ≠ .run ∧ job.wtb.line ≠ .hold ∧
    job.wtb.line ≠ .fault ∧ (latched .fault .nipStuck).wtb.line = .fault ∧
    (latched .fault .nipStuck).wtb.latched.get .nipStuck = true := by
  refine ⟨rfl, rfl, ⟨rfl, fun c => ?_⟩, rfl, rfl, rfl, by decide, by decide, by decide, rfl, rfl⟩
  cases c <;> rfl

theorem wit_StopAndRecoverEmptyTrack_output :
    (∀ c ∈ (spots 4).smu.contexts, c.target = .immediate ∨ (c.target = .next ∧ c.bound = none)) ∧
    (spots 4).smu.spotInProgress = none ∧ (spots 4).svl.sending = none ∧ (spots 4).svl.replies = [] ∧
    (busy (spots 4)).svl.sending = some ⟨[], false⟩ := by decide +kernel

/-- Pending contexts of each target, and the measurement of a spot for record 58 or at once. -/
def spotsAtStop (keep : Bool) (bus : Option Measurement) : State :=
  (running 2440000 [rec 58 1000000] 59).onSmu (fun m => { m with
    params := { m.params with keep := keep }, bus := bus
    contexts := [⟨1, 2, .number 58, none, false, 91, .link⟩, ⟨2, 2, .next, some 58, true, 92, .link⟩] })

/-- The contexts bound to records, all of the queue in KEEP mode; the spot in progress for a record, and one at once. -/
theorem wit_StopAndRecoverEmptyTrack_spots :
    (∀ keep ∈ [true, false], ∀ bus ∈ [none, some (onBus 2 (.spot spot58)),
        some (onBus 2 (.spot ⟨2, 1, .immediate, none, true, 90, .link⟩))],
      let s := spotsAtStop keep bus;
      s.wtb.line = .run ∧ s.evu.routeFor .spotDone = none ∧ s.evu.routeFor .spotOverrun = none ∧
      s.smu.heldStops = [] ∧ s.smu.contexts ≠ []) ∧
    (spotsAtStop true (some (onBus 2 (.spot spot58)))).smu.spotInProgress = some spot58 := by decide +kernel

/-- R118: the spot in progress ABANDONED first (log 44), then the contexts of records MISSED in queue order. -/
theorem wit_StopAndRecoverEmptyTrack_spots_end :
    (let t := after (.jobStop 7) (busy (spotsAtStop true (some (onBus 2 (.spot spot58)))));
      t.smu.results.map (fun r => (r.tag, r.status)) = [(90, .abandoned), (91, .missed), (92, .missed)] ∧
      t.smu.contexts = [] ∧ t.smu.standing.map (·.tag) = some 92 ∧ t.smu.bus = none ∧
      noticed t = [(.lineState, 1, 1), (.spotDone, 90, 58), (.spotDone, 91, 58), (.spotDone, 92, 58)]) ∧
    (let t := after (.jobStop 7) (spots 2); t.smu.contexts = (spots 2).smu.contexts ∧ t.smu.results = []) := by
  decide +kernel

/-- JOB END finds roll 7 open on lane A with its last reference at 2,801,700, and a new roll 8 on lane B. -/
def endingWithRolls : State :=
  { job with rku := { job.rku with
      laneA := { laneJob with state := .winding, roll := some roll7 }
      laneB := { laneJob with state := .indexing, roll := some (emptyRoll 8 2440000) } } }

theorem wit_JobEndClosesJob :
    job.wtb.line = .thread ∧ State.reset.wtb.line ≠ .thread ∧ (∀ l ∈ [Lane.a, .b], (job.lane l).roll = none) ∧
    job.smu.spotInProgress = none ∧ job.svl.sending = none ∧ job.svl.replies = [] ∧
    (endingWithRolls.lane .a).roll = some roll7 ∧ (endingWithRolls.lane .b).roll = some (emptyRoll 8 2440000) := by
  decide +kernel

/-- R149: the open rolls enter the history PARTIAL, lane A's first, each with its length to its last reference. -/
theorem wit_JobEndClosesJob_rolls :
    (after (.jobEnd 7) endingWithRolls).rku.history.map (fun r => (r.number, r.disposition, r.length, r.mean)) =
      [(7, .partialRoll, 381700, some ⟨2169, 1850, 1402⟩), (8, .partialRoll, 0, none)] := by decide +kernel

/-! #### The Track Unit -/

/-- REPEAT SET at the ends of its ranges, and its change classes. -/
theorem wit_RepeatAndPathAreSet :
    (⟨2000, 1, 0, 40, 8, 8, 2, 1⟩ : RepeatParams).inRange = true ∧
    (⟨64000, 102, 6, 8000, 2000, 2000, 500, 8⟩ : RepeatParams).inRange = true ∧
    (⟨1999, 1, 0, 40, 8, 8, 2, 1⟩ : RepeatParams).inRange = false ∧
    (let f : RepeatParams := { job.tku.params with f := 6, c := 8 };
      f.inRange = true ∧ f = { job.tku.params with f := f.f, c := f.c }) ∧
    (let f : RepeatParams := { job.tku.params with g := 102 };
      f.inRange = true ∧ f.g ≠ job.tku.params.g ∧ job.wtb.line = .thread ∧
      f ≠ { job.tku.params with f := f.f, c := f.c } ∧ f ≠ { job.tku.params with n := f.n, f := f.f, c := f.c } ∧
      (line .run job).wtb.line = .run ∧ (line .fault job).wtb.line = .fault ∧ (line .hold job).wtb.line = .hold) ∧
    (let f : RepeatParams := { job.tku.params with stationWidth := 90 };
      f.inRange = true ∧ f.n = job.tku.params.n ∧ f.g = job.tku.params.g) ∧
    (let f : RepeatParams := { job.tku.params with n := 21201 };
      f.inRange = true ∧ f = { job.tku.params with n := f.n, f := f.f, c := f.c } ∧ f.n ≠ job.tku.params.n ∧
      ∀ c ∈ [3, 5, 6, 8, 9], checkHolds f (line .hold job) c = true) ∧
    (let f : RepeatParams := { job.tku.params with n := 64000 };
      f.inRange = true ∧ f.n ≠ job.tku.params.n ∧ checkHolds f (line .hold job) 5 = false ∧
      ∀ c ∈ [3, 5, 6, 8, 9], c < 5 → checkHolds f (line .hold job) c = true) ∧
    job.tku.path.inRange = true ∧ ({ job.tku.path with de := 0 } : PathTable).inRange = false ∧
    ({ job.tku.path with du := 8000000 } : PathTable).inRange = true ∧
    ({ job.tku.path with du := 8000000 } : PathTable) ≠ (line .run job).tku.path := by decide +kernel

/-- In HOLD, with lane A's cut offset at 21,150 and lane B's at 21,149, N falls to 21,150. -/
def narrowing : State :=
  ((line .hold job).onLane .a (fun k => { k with params := { k.params with cutOffset := 21150 } })).onLane .b
    (fun k => { k with params := { k.params with cutOffset := 21149 } })

/-- R41, R95, R127: only the offset that the change of N in HOLD overtook gives N - 1 in its place, and only till N
has passed it again. -/
theorem wit_RepeatAndPathAreSet_hold :
    let t := after (.repeatSet 7 { job.tku.params with n := 21150 }) narrowing
    t.tku.overtaken = ⟨none, some 21150, none⟩ ∧ t.crossingPosition 0 (.knife .a) = 1420000 + 21149 ∧
    t.crossingPosition 0 (.knife .b) = 1440000 + 21149 ∧
    (after (.repeatSet 7 { job.tku.params with n := 21151 }) t).crossingPosition 0 (.knife .a) = 1420000 + 21150 := by
  decide +kernel

/-- R127: an offset above N - 1 that IDLE or THREAD left there stands as it is. -/
theorem wit_RepeatAndPathAreSet_thread :
    let t := after (.repeatSet 7 { job.tku.params with n := 21150 }) (line .thread narrowing)
    t.tku.overtaken = ⟨none, none, none⟩ ∧ t.crossingPosition 0 (.knife .a) = 1420000 + 21150 := by decide +kernel

/-- Records 59 and 60 on the track, 61 next: the ends of the table of R48, and a read that takes both. -/
theorem wit_TrackIsSoughtAndRead :
    (let s := running 2440000 [rec 59 1021215, rec 60 1042420] 61;
      job.tku.track = [] ∧ s.tku.track.head? = some (rec 59 1021215) ∧
      s.tku.track.getLast? = some (rec 60 1042420) ∧ 61 = s.tku.nextRepeat ∧ (∃ r ∈ s.tku.track, r.number = 60) ∧
      58 < s.tku.nextRepeat ∧ (∀ r ∈ s.tku.track, r.number ≠ 58) ∧ s.tku.nextRepeat < 62 ∧
      (∀ r ∈ s.tku.track, r.number ≠ 62)) ∧
    (let s := (running 2440000 [rec 59 1021215, rec 60 1042420] 61).onTku (fun t => { t with readCursor := 60 });
      s.tku.readCursor ≠ s.tku.nextRepeat ∧ s.tku.track = [rec 59 1021215] ++ rec 60 1042420 :: [] ∧
      (rec 60 1042420).number = s.tku.readCursor ∧ (∀ x ∈ [rec 59 1021215], x.number ≠ s.tku.readCursor) ∧
      ((rec 60 1042420 :: []).take 4).getLast? = some (rec 60 1042420) ∧ (rec 60 1042420).number < 4294967295) ∧
    job.tku.readCursor = job.tku.nextRepeat ∧
    (let s := (running 2440000 [rec 4294967295 1021215] 60).onTku (fun t => { t with readCursor := 4294967295 });
      s.tku.track = [] ++ rec 4294967295 1021215 :: [] ∧ (rec 4294967295 0).number = s.tku.readCursor ∧
      s.tku.readCursor ≠ s.tku.nextRepeat ∧ ¬ (rec 4294967295 0).number < 4294967295) ∧
    (let s := running 2440000 [rec 59 1021215] 60;
      s.tku.readCursor ≠ s.tku.nextRepeat ∧ ∀ r ∈ s.tku.track, r.number ≠ s.tku.readCursor) ∧
    (∀ c, roll9.code = some c → c.length = 5) ∧
    (armed.btu.batches.all (fun b => b.code.length = 5)) = true := by
  refine ⟨by decide +kernel, by decide +kernel, by decide +kernel, by decide +kernel, by decide +kernel, fun c h => ?_,
    by decide +kernel⟩
  cases h
  rfl

/-- R48, R191: a seek of no target and one of number 0 are BAD-VALUE with the cursor where it stands. -/
theorem wit_TrackIsSoughtAndRead_nothing :
    ∀ target ∈ [none, some (SeekTarget.number 0)],
      replied (after (.trackSeek 7 target) (busy ((running 2440000 [rec 59 1021215] 60).onTku (fun t =>
        { t with readCursor := 59 })))) = [(0x12, .badValue, [59, 0, 0, 0])] := by decide +kernel

/-- S2's window of record 58 runs from 1,007,801 to 1,008,201: marks at its ends, at its target, and outside it. -/
theorem wit_MarksMeetWindows_marks :
    (let s := running 1000000 [rec57] 58;
      s.wtb.newWeb = true ∧ s.running = true ∧ s.tku.scanner ≠ .off ∧ s.tku.scnPrev = false ∧ job.wtb.newWeb = false) ∧
    (let s := halfSeen 1012500 (running 1012540 [rec 58 1000000] 59);
      s.tku.scnPrev = true ∧ s.tku.halfSeen = some 1012500 ∧ 1012500 ≠ s.wtb.wp ∧ s.tku.scanner = .tracking ∧
      (∀ r ∈ s.tku.track, ∀ w ∈ r.windows, w.half < (1012500 - posPlus r.origin w.target).toInt.natAbs) ∧
      s.tku.expected = some 1021200 ∧ s.tku.params.wMaster < ((1012500 : Pos) - 1021200).toInt.natAbs) ∧
    (∀ n ∈ [1007801, 1008001, 1008201], let p : Pos := BitVec.ofNat 32 n;
      let s := halfSeen p (running (p + 100) [rec 58 1000000] 59);
      let w : Window := ⟨1, 8001, 200, false, false⟩
      s.tku.halfSeen = some p ∧ p ≠ s.wtb.wp ∧ s.tku.expected = some 1021200 ∧
      s.tku.params.wMaster < (p - 1021200).toInt.natAbs ∧
      s.tku.params.widthTol < ((s.wtb.wp - p).toInt - s.tku.params.masterWidth).natAbs ∧
      ((s.wtb.wp - p).toInt - s.tku.params.stationWidth).natAbs ≤ s.tku.params.widthTol ∧
      rec 58 1000000 ∈ s.tku.track ∧ w ∈ (rec 58 1000000).windows ∧ w.closed = false ∧ w.captured = false ∧
      (p - posPlus (rec 58 1000000).origin w.target).toInt.natAbs ≤ w.half ∧
      ∀ x ∈ s.tku.track, ∀ v ∈ x.windows, (x ≠ rec 58 1000000 ∨ v ≠ w) →
        v.half < (p - posPlus x.origin v.target).toInt.natAbs) := by decide +kernel

/-- A mark half-seen from WP itself, and none: its trailing edge leaves no reading behind. -/
theorem wit_MarksMeetWindows_one_advance :
    (let s := halfSeen 1000000 (running 1000000 [rec57] 58);
      s.wtb.newWeb = true ∧ s.running = true ∧ s.tku.scanner ≠ .off ∧ s.tku.scnPrev = true ∧
      s.tku.halfSeen = some s.wtb.wp) ∧
    (let s := (running 1000000 [rec57] 58).onTku (fun t => { t with scnPrev := true });
      s.wtb.newWeb = true ∧ s.running = true ∧ s.tku.scanner ≠ .off ∧ s.tku.scnPrev = true ∧ s.tku.halfSeen = none) ∧
    (running 1000000 [rec57] 58).tku.scnPrev = false := by decide +kernel

/-- R22: a mark that begins and ends at one advance gives no reading, not even a stray. -/
theorem wit_MarksMeetWindows_no_reading :
    let s := running 1000000 [rec57] 58
    let t := after .markTrailingEdge (after .markLeadingEdge s)
    t = { s with pins := { s.pins with scn := s.wtb.polarity.scn } } := by decide +kernel

/-- Record 58 has left the track with S2's window open. -/
def departed58 (wp : Pos) : State :=
  (running wp [rec 59 1021215] 60).onTku (fun t => { t with departed := [rec 58 1000000] })

theorem wit_MarksMeetWindows_departed :
    (let s := halfSeen 1008019 (departed58 1008119);
      rec 58 1000000 ∈ s.tku.departed ++ s.tku.track ∧ (∀ q ∈ s.tku.track, q.number ≠ 58) ∧
      s.tku.expected = some 1042415 ∧ s.tku.params.wMaster < ((1008019 : Pos) - 1042415).toInt.natAbs ∧
      ∀ x ∈ s.tku.departed ++ s.tku.track, ∀ v ∈ x.windows,
        (x ≠ rec 58 1000000 ∨ v ≠ ⟨1, 8001, 200, false, false⟩) →
        v.half < ((1008019 : Pos) - posPlus x.origin v.target).toInt.natAbs) ∧
    (departed58 1008202).tku.openWindow 58 1 = some (rec 58 1000000, ⟨1, 8001, 200, false, false⟩) ∧
    (∀ x ∈ (departed58 1008202).tku.track, x.number ≠ 58) := by decide +kernel

/-- R32, R34: the window of a record that has left closes with MARK-MISSING and its missing report; the entry is
discarded. -/
theorem wit_MarksMeetWindows_departed_closes :
    let s := departed58 1008202
    let t := after (.windowClose 58 2) (busy s)
    noticed t = [(.markMissing, 2, 58)] ∧ t.rlu.stations[1].missRun = 1 ∧ t.tku.track = s.tku.track ∧
      t.tku.departed.map (fun r => (r.number, r.windows.map (·.closed))) = [(58, [true, false])] := by decide +kernel

theorem wit_MarksMeetWindows_close :
    (let s := running 1008202 [rec 58 1000000] 59;
      s.tku.openWindow 58 1 = some (rec 58 1000000, ⟨1, 8001, 200, false, false⟩) ∧
      0 < (s.wtb.wp - posPlus 1000000 (8001 + 200)).toInt ∧ s.wtb.newWeb = true ∧ s.running = true ∧
      s.tku.halfSeen = none) ∧
    (let r : RepeatRecord := { rec 58 1000000 with windows := [⟨1, 8001, 200, true, false⟩] };
      (running 1008202 [r] 59).tku.openWindow 58 1 = some (r, ⟨1, 8001, 200, true, false⟩)) ∧
    ((running 1008201 [rec 58 1000000] 59).wtb.wp - posPlus 1000000 (8001 + 200)).toInt ≤ 0 ∧
    ((1008201 : Pos) - posPlus 1000000 8001).toInt.natAbs ≤ 200 := by decide +kernel

/-- Every event at one level, so that notices wait in the order in which they were raised. -/
def byAge (s : State) : State := s.onEvu (fun e => { e with levels := e.levels.map (fun _ => 3) })

/-- Record 57 with a window of S2 that reaches into the master window of repeat 58. -/
def reaching : RepeatRecord := { rec57 with windows := [⟨1, 21400, 200, false, false⟩] }

/-- A mark of neither shape whose window and master window are over; a station-shaped one with no window to take it; a
master-shaped one outside the master window; station-shaped ones that two records, and two windows of one record at
equal distance, hold; and a window that is not there. -/
theorem wit_MarksMeetWindows_settled :
    (let s := halfSeen 1000100 (running 1000400 [reaching] 58);
      s.wtb.newWeb = true ∧ s.running = true ∧ s.tku.scanner = .tracking ∧ s.tku.scnPrev = true ∧
      ((1000100 : Pos) - posPlus reaching.origin 21400).toInt.natAbs ≤ 200 ∧
      0 < (s.wtb.wp - posPlus reaching.origin (21400 + 200)).toInt ∧ s.tku.expected = some 999970 ∧
      ((1000100 : Pos) - 999970).toInt.natAbs ≤ s.tku.params.wMaster ∧
      (s.tku.params.wMaster : Int) < (s.wtb.wp - 999970).toInt ∧
      s.tku.params.widthTol < ((s.wtb.wp - 1000100).toInt - s.tku.params.masterWidth).natAbs ∧
      s.tku.params.widthTol < ((s.wtb.wp - 1000100).toInt - s.tku.params.stationWidth).natAbs) ∧
    (let r := { rec 58 1000000 with windows := [⟨1, 8001, 200, true, false⟩] };
      let s := halfSeen 1008000 (running 1008080 [r] 59);
      ((s.wtb.wp - 1008000).toInt - s.tku.params.stationWidth).natAbs ≤ s.tku.params.widthTol ∧
      s.tku.params.widthTol < ((s.wtb.wp - 1008000).toInt - s.tku.params.masterWidth).natAbs ∧
      s.tku.expected = some 1021200 ∧ s.tku.params.wMaster < ((1008000 : Pos) - 1021200).toInt.natAbs) ∧
    (let s := halfSeen 1012500 (running 1012660 [rec 58 1000000] 59);
      ((s.wtb.wp - 1012500).toInt - s.tku.params.masterWidth).natAbs ≤ s.tku.params.widthTol ∧
      s.tku.expected = some 1021200 ∧ s.tku.params.wMaster < ((1012500 : Pos) - 1021200).toInt.natAbs) ∧
    (let s := halfSeen 1000000 (running 1000080 [rec57] 58);
      s.tku.expected = some 999970 ∧ (s.wtb.wp - 999970).toInt ≤ s.tku.params.wMaster) ∧
    ((1008001 : Pos) - posPlus 1000000 8001).toInt.natAbs ≤ 200 ∧
    ((1008001 : Pos) - posPlus 1004000 4001).toInt.natAbs ≤ 200 ∧
    ((1008051 : Pos) - posPlus 1000000 8001).toInt.natAbs = 50 ∧
    ((1008051 : Pos) - posPlus 1000000 8101).toInt.natAbs = 50 ∧
    (running 1008202 [rec 58 1000000] 59).tku.openWindow 58 3 = none := by decide +kernel

/-- R31, R27, R32: the oldest record takes the mark, at equal distance the lower station; what one mark held back comes
in the order of log 47. -/
theorem wit_MarksMeetWindows_settled_in_order :
    (let t := after .markTrailingEdge (halfSeen 1008001 (running 1008081 [rec 58 1000000, rec 59 1004000] 60));
      t.tku.track.map (·.regs) = [[⟨1, .error 0 true⟩], []]) ∧
    (let r := { rec 58 1000000 with windows := [⟨1, 8001, 200, false, false⟩, ⟨2, 8101, 200, false, false⟩] };
      let t := after .markTrailingEdge (halfSeen 1008051 (running 1008131 [r] 59));
      t.tku.track.map (·.regs) = [[⟨1, .error 50 true⟩]]) ∧
    (let t := after .markTrailingEdge (byAge (busy (halfSeen 1000100 (running 1000400 [reaching] 58))));
      noticed t = [(.markMissing, 2, 57), (.masterCoast, 1, 58)] ∧ t.tku.stray = 1 ∧
      t.tku.track.map (fun r => (r.number, r.origin)) = [(57, 978770), (58, 999970)]) := by decide +kernel

/-- Marks of width 140 and 180 at the window's ends; record 57's length within Lim 414 and beyond it. -/
theorem wit_MasterMarkCreatesRecord :
    (∀ n ∈ [999570, 1000370], ∀ w ∈ [140, 180], let p : Pos := BitVec.ofNat 32 n;
      let s := halfSeen p (running (BitVec.ofNat 32 (n + w)) [rec57] 58);
      s.wtb.newWeb = true ∧ s.running = true ∧ s.tku.scnPrev = true ∧ s.tku.halfSeen = some p ∧ p ≠ s.wtb.wp ∧
      ((s.wtb.wp - p).toInt - s.tku.params.masterWidth).natAbs ≤ s.tku.params.widthTol ∧
      s.tku.scanner = .tracking ∧ s.tku.expected = some 999970 ∧
      ((p : Pos) - 999970).toInt.natAbs ≤ s.tku.params.wMaster ∧ s.tku.track.length < 512 ∧
      (∀ r ∈ s.tku.track, r.number < s.tku.nextRepeat) ∧ s.tku.track.getLast? = some rec57 ∧
      rec57.coasted = false ∧
      ((p - rec57.origin).toInt - s.tku.params.n).natAbs ≤ s.tku.params.n * s.tku.params.g / 1024) ∧
    (let s := (halfSeen 1000000 (running 1000160 [] 58)).onTku (fun t => { t with scanner := .acquire });
      s.tku.scanner = .acquire ∧ s.tku.track.length < 512) ∧
    (let s := (halfSeen 1000470 (running 1000630 [rec57] 58)).onTku (fun t => { t with estimate := 345824 });
      s.tku.expected = some 1000384 ∧ ((1000470 : Pos) - 1000384).toInt.natAbs ≤ s.tku.params.wMaster ∧
      s.tku.params.n * s.tku.params.g / 1024 < (((1000470 : Pos) - rec57.origin).toInt - s.tku.params.n).natAbs) ∧
    estimatorRun 339200 21230 3 = 339260 ∧ estimatorRun 339260 21215 3 = 339283 ∧ 339200 ≤ 16 * 21230 := by
  decide +kernel

/-- Record 57, the newest, has left an empty track. -/
def newestLeft (wp : Pos) : State := (running wp [] 58).onTku (fun t => { t with departed := [rec57] })

theorem wit_MasterMarkCreatesRecord_departed :
    (let s := halfSeen 1000000 (newestLeft 1000160);
      s.tku.expected = some 999970 ∧ ((1000000 : Pos) - 999970).toInt.natAbs ≤ s.tku.params.wMaster ∧
      (s.tku.departed ++ s.tku.track).getLast? = some rec57 ∧ rec57.coasted = false ∧ rec57 ∉ s.tku.track ∧
      (∀ r ∈ s.tku.departed ++ s.tku.track, r.number < s.tku.nextRepeat) ∧
      (((1000000 : Pos) - rec57.origin).toInt - s.tku.params.n).natAbs ≤ s.tku.params.n * s.tku.params.g / 1024) ∧
    (let s := newestLeft 1000371;
      s.tku.expected = some 999970 ∧ (s.tku.params.wMaster : Int) < (s.wtb.wp - 999970).toInt ∧
      s.tku.halfSeen = none ∧ s.tku.scanner = .tracking) := by decide +kernel

/-- R26, R27: once the newest record has left, a master mark in its window is record 58 and runs the estimator, and a
window passed without one coasts it. -/
theorem wit_MasterMarkCreatesRecord_departed_tracks :
    (let t := after .markTrailingEdge (halfSeen 1000000 (newestLeft 1000160));
      t.tku.track.map (fun r => (r.number, r.origin, r.acquired)) = [(58, 1000000, false)] ∧ t.tku.estimate = 339260 ∧
      t.tku.departed = [] ∧ t.tku.stray = 0) ∧
    (let t := after .masterCoast (newestLeft 1000371);
      t.tku.track.map (fun r => (r.number, r.origin, r.coasted)) = [(58, 999970, true)] ∧ t.tku.coastCount = 1) := by
  decide +kernel

/-- The 512 records a track can hold. -/
def fullTrack (wp : Pos) : State := running wp (List.replicate 512 rec57) 58

theorem wit_MasterMarkCreatesRecord_full :
    (let s := halfSeen 1000000 (fullTrack 1000160);
      512 ≤ s.tku.track.length ∧ s.wtb.latched.trackOverflow = false ∧ s.tku.expected = some 999970 ∧
      ((1000000 : Pos) - 999970).toInt.natAbs ≤ s.tku.params.wMaster) := by decide +kernel

theorem wit_MissedMasterIsCoasted_full :
    (let s := fullTrack 1000371;
      512 ≤ s.tku.track.length ∧ s.wtb.latched.trackOverflow = false ∧ s.tku.expected = some 999970 ∧
      (s.tku.params.wMaster : Int) < (s.wtb.wp - 999970).toInt ∧ s.tku.halfSeen = none) := by decide +kernel

/-- R29 at the 513th record. -/
theorem wit_MasterMarkCreatesRecord_overflows :
    (let t := after .markTrailingEdge (halfSeen 1000000 (fullTrack 1000160));
      t.wtb.latched.trackOverflow = true ∧ t.wtb.line = .fault ∧ t.tku.track.length = 512) ∧
    (let t := after .masterCoast (fullTrack 1000371);
      t.wtb.latched.trackOverflow = true ∧ t.wtb.line = .fault ∧ t.tku.nextRepeat = 58) := by decide +kernel

/-- One count above the window of repeat 58; with two coasts counted the third is the coast limit. -/
theorem wit_MissedMasterIsCoasted :
    (let s := running 1000371 [rec57] 58;
      s.wtb.newWeb = true ∧ s.running = true ∧ s.tku.scanner = .tracking ∧ s.tku.expected = some 999970 ∧
      (s.tku.params.wMaster : Int) < (s.wtb.wp - 999970).toInt ∧ s.tku.halfSeen = none ∧ s.tku.track.length < 512 ∧
      1 + 1 < s.tku.params.c ∧ s.tku.params.c ≤ 2 + 1) := by decide +kernel

/-- R28: the third coast of a limit of 3 raises MASTER-COAST, then MASTER-LOST with 0 and the repeat number. -/
theorem wit_MissedMasterIsCoasted_lost :
    let t := after .masterCoast (byAge (busy ((running 1000371 [rec57] 58).onTku (fun t => { t with coastCount := 2 }))))
    noticed t = [(.masterCoast, 3, 58), (.masterLost, 0, 58)] ∧ t.tku.scanner = .acquire ∧ t.tku.coastCount = 0 := by
  decide +kernel

theorem wit_SplicesJoinAndSettle :
    (running 400000 [rec57] 58).wtb.line = .run ∧ true ≠ job.wtb.polarity.spl ∧ false = job.wtb.polarity.spl ∧
    ((running 400000 [] 58).onTku (fun t => { t with splices := [1, 2, 3] })).tku.splices.length < 4 ∧
    4 ≤ ((running 400000 [] 58).onTku (fun t => { t with splices := [1, 2, 3, 4] })).tku.splices.length ∧
    job.wtb.line ≠ .run ∧ job.wtb.line ≠ .hold ∧
    (let s := (running 1021373 [rec 58 1000000, rec 59 1021215] 60).onTku (fun t => { t with splices := [1010000] });
      rec 58 1000000 ∈ s.tku.track ∧
      1010000 ∈ s.tku.splices ∧ ((1010000 : Pos) - 1021215).toInt < 0 ∧
      0 ≤ ((1010000 : Pos) - (rec 58 1000000).origin).toInt) := by decide +kernel

/-- Pending splices below record 57, in its span, and at the origin of record 58; a track with a record left in ACQUIRE. -/
def spliced (s : State) : State := s.onTku (fun t => { t with splices := [978769, 990000, 999970] })

theorem wit_SplicesJoinAndSettle_creation :
    (let s := spliced (running 1000371 [rec57] 58);
      (s.tku.departed ++ s.tku.track).getLast? = some rec57 ∧ rec57 ∈ s.tku.track ∧ s.tku.expected = some 999970 ∧
      (s.tku.params.wMaster : Int) < (s.wtb.wp - 999970).toInt ∧ s.tku.halfSeen = none ∧
      s.tku.coastCount + 1 < s.tku.params.c ∧ s.tku.track.length < 512) ∧
    (let s := spliced ((halfSeen 1000000 (running 1000160 [rec57] 58)).onTku (fun t => { t with scanner := .acquire }));
      (s.tku.departed ++ s.tku.track).getLast? = some rec57 ∧ s.tku.scanner = .acquire ∧
      ((s.wtb.wp - 1000000).toInt - s.tku.params.masterWidth).natAbs ≤ s.tku.params.widthTol) ∧
    (newestLeft 1000371).tku.departed ++ (newestLeft 1000371).tku.track ≠ [] ∧
    (running 1000160 [] 58).tku.departed ++ (running 1000160 [] 58).tku.track = [] := by decide +kernel

/-- R45 at a coast and at a mark in ACQUIRE: one splice lost, one marks record 57, and the one at or above the new origin
waits. -/
theorem wit_SplicesJoinAndSettle_creation_settles :
    (let t := after .masterCoast (byAge (busy (spliced (running 1000371 [rec57] 58))));
      noticed t = [(.spliceSeen, 2, 0), (.masterCoast, 1, 58)] ∧ t.tku.splices = [999970] ∧
      t.tku.track.map (·.splice) = [true, false]) ∧
    (let t := after .markTrailingEdge (busy (spliced ((halfSeen 1000000 (running 1000160 [rec57] 58)).onTku
        (fun t => { t with scanner := .acquire }))));
      noticed t = [(.spliceSeen, 2, 0)] ∧ t.tku.splices = [] ∧ t.tku.track.map (·.splice) = [true, false]) := by
  decide +kernel

/-- R45: below the closing record a splice is lost, at its origin it marks it, and at the next origin it waits. -/
theorem wit_SplicesJoinAndSettle_lost :
    let s := (running 1021373 [rec 58 1000000, rec 59 1021215] 60).onTku (fun t =>
      { t with splices := [999999, 1000000, 1021215] })
    let t := closeSplices (rec 58 1000000) 1021215 (busy s)
    noticed t = [(.spliceSeen, 2, 0)] ∧ t.tku.splices = [1021215] ∧ t.tku.track.map (·.splice) = [true, false] := by
  decide +kernel

theorem wit_CrossingsRunDryAndRetire :
    (let s := running 2440000 [rec 58 1000000, rec 59 1021215] 60;
      s.wtb.newWeb = true ∧ s.running = true ∧ (∀ p ∈ [Point.emboss, .shade, .knife .a, .knife .b],
        s.pointEnabled p = true) ∧ s.tku.track.Pairwise (fun a b => a.number < b.number)) ∧
    job.wtb.newWeb = false ∧ State.reset.pointEnabled .emboss = false ∧
    (let s := (running 2440000 [rec 58 1000000, rec 59 1021215] 60).onTku
        (fun t => { t with cursors := ⟨some 70, some 67, some 59, some 58⟩ });
      s.tku.cursors.get (.knife .a) = some 59 ∧ 58 < 59) ∧
    (State.reset.lane .b).params.enabled = false ∧
    (let s := running 2420000 [rec 58 1000000, rec 59 1021215] 60;
      (s.lane .b).params.enabled = true ∧ s.tku.cursors.get (.knife .b) = some 58 ∧ 58 ≤ 58) := by decide +kernel

/-- Record 58 at knife A, which is indexing, with this work of the measurement unit. -/
def atKnife (contexts : List SpotContext) (scan : Option Scan) (bus : Option Measurement) : State :=
  ((running 2420000 [rec 58 1000000, rec 59 1021215] 60).onLane .a (fun k =>
    { k with state := .indexing, roll := some (emptyRoll 7 2420000) })).onSmu (fun m =>
      { m with contexts := contexts, scan := scan, bus := bus })

theorem wit_CrossingsRunDryAndRetire_headWork :
    (let s := atKnife [⟨2, 1, .next, none, false, 90, .link⟩, ⟨2, 1, .number 59, none, false, 90, .link⟩]
        (some ⟨59, 2, 2, 0, 0⟩) (some (onBus 0 (.scan 59 1)));
      (∀ c ∈ s.smu.contexts, ¬ (c.target = .number 58 ∨ (c.target = .next ∧ c.bound = some 58))) ∧
      s.smu.spotInProgress = none ∧ s.smu.scan.map (·.record) = some 59 ∧ s.smu.overrun = none) ∧
    (let s := atKnife [spot58] none none;
      s.smu.contexts = [] ++ spot58 :: [] ∧ spot58.target = .next ∧ spot58.bound = some 58 ∧ s.smu.scan = none) ∧
    (let s := atKnife [] none (some (onBus 2 (.spot spot58)));
      s.smu.spotInProgress = some spot58 ∧ s.smu.contexts = [] ∧ s.smu.scan = none ∧ s.smu.overrun = none) ∧
    (∀ b ∈ [none, some (onBus 0 (.scan 58 1))], let s := atKnife [] (some ⟨58, 2, 2, 0, 1⟩) b;
      s.smu.contexts = [] ∧ s.smu.spotInProgress = none ∧ s.smu.scan = some ⟨58, 2, 2, 0, 1⟩ ∧ s.smu.overrun = none ∧
      s.smu.params.scanList[s.smu.pointer - 1]? = some 0) := by decide +kernel

/-- R117, R120: the set staged behind a measurement cut short at the knife becomes active, and a held SPOT STOP
replies. -/
theorem wit_CrossingsRunDryAndRetire_staged :
    (∀ b ∈ [onBus 2 (.spot spot58), onBus 2 (.scan 58 1)],
      let s := (atKnife [] (if b.user = .scan 58 1 then some ⟨58, 2, 2, 0, 1⟩ else none) (some b)).onSmu (fun m =>
        { m with staged := m.staged.set 2 (some slot0), heldStops := if b.user = .scan 58 1 then [] else [⟨12, 1⟩] });
      let t := after (.pointCrossing (.knife .a) false) (busy s);
      t.smu.active[2] = slot0 ∧ t.smu.staged[2] = none ∧ t.smu.bus = none ∧ t.smu.heldStops = [] ∧
      replied t = if b.user = .scan 58 1 then [] else [(0x2D, .ok, [1])]) := by decide +kernel

/-- Record 58 leaves the track at knife A, with a cursor of the shade point on it or not. -/
def leaving (shade : Option Nat) (track : List RepeatRecord) : State :=
  (running 2440000 track 60).onTku (fun t => { t with cursors := ⟨some 59, shade, some 58, some 59⟩ })

theorem wit_CrossingsRunDryAndRetire_leaves :
    (let s := leaving (some 58) [rec 58 1000000, rec 59 1021215];
      s.tku.cursors.get (.knife .b) = some 59 ∧ 58 < 59 ∧ s.tku.cursors.get .shade = some 58 ∧
      (∃ r ∈ s.tku.track, r.number = 58) ∧ (∀ r ∈ s.tku.track, 58 ≤ r.number) ∧
      s.tku.track.Pairwise (fun a b => a.number < b.number) ∧
      (∀ r ∈ (crossOne (.knife .a) 58 false s).tku.track, r.number ≠ 58) ∧
      (∃ w ∈ (rec 58 1000000).windows, w.closed = false)) ∧
    (let s := leaving (some 59) [rec 58 1000000];
      s.tku.cursors.get .shade ≠ some 58 ∧ ∀ r ∈ s.tku.track, 58 ≤ r.number) := by decide +kernel

/-- One crossing due and none after it, at a knife that lets the record go, at one that does not, and at the other
points; and two due, one after the other. -/
theorem wit_CrossingsRunDryAndRetire_one :
    (let s := leaving (some 58) [rec 58 1000000, rec 59 1021215];
      s.wtb.newWeb = true ∧ s.running = true ∧ s.pointEnabled (.knife .a) = true ∧
      s.crossingDue (.knife .a) = some 58 ∧ (crossOne (.knife .a) 58 false s).crossingDue (.knife .a) = none ∧
      (moveCursor (.knife .a) 58 (handOff (.knife .a) 58 false s)).pastKnife .b 58 = true ∧
      s.crossingDue .shade = some 58) ∧
    (let s := running 2420000 [rec 58 1000000, rec 59 1021215] 60;
      s.crossingDue (.knife .a) = some 58 ∧ (crossOne (.knife .a) 58 false s).crossingDue (.knife .a) = none ∧
      (moveCursor (.knife .a) 58 (handOff (.knife .a) 58 false s)).pastKnife .b 58 = false) ∧
    (∀ p ∈ [Point.emboss, .shade, .knife .a, .knife .b],
      let s := running 2461215 [rec 58 1000000, rec 59 1021215] 60;
      s.crossingDue p = some 58 ∧ s.tku.track.Pairwise (fun a b => a.number < b.number) ∧
      (crossOne p 58 false s).running = true ∧ (crossOne p 58 false s).crossingDue p = some 59) := by decide +kernel

/-- R41, R26, R32: the shade cursor moves on with the record that leaves, and its open windows and the expected origin
stand. -/
theorem wit_CrossingsRunDryAndRetire_leaves_behind :
    (let s := leaving (some 58) [rec 58 1000000, rec 59 1021215];
      let t := after (.pointCrossing (.knife .a) false) s;
      t.tku.track.map (·.number) = [59] ∧ t.tku.cursors.shade = some 59 ∧ t.crossingDue .shade = some 59 ∧
      t.tku.departed.map (·.number) = [58] ∧ (t.tku.openWindow 58 1).isSome = true) ∧
    (let s := leaving (some 58) [{ rec 58 1000000 with windows := [] }];
      let t := after (.pointCrossing (.knife .a) false) s;
      t.tku.track = [] ∧ t.tku.cursors.shade = none ∧ t.tku.expected = some 1021200 ∧
      s.tku.expected = some 1021200) := by decide +kernel

/-- R100, R115: the pending spot ends MISSED, the one in progress ABANDONED, and the scan cut short of its second
slot is reported. -/
theorem wit_CrossingsRunDryAndRetire_ends_head_work :
    (after (.pointCrossing (.knife .a) false) (atKnife [spot58] none none)).smu.results.map (·.status) = [.missed] ∧
    (after (.pointCrossing (.knife .a) false) (atKnife [] none (some (onBus 2 (.spot spot58))))).smu.results.map
      (·.status) = [.abandoned] ∧
    noticed (after (.pointCrossing (.knife .a) false) (busy (atKnife [] (some ⟨58, 2, 2, 0, 1⟩) none))) =
      [(.scanOverrun, 0, 58)] := by decide +kernel

/-- Record 59 reaches the shade point with record 58's scan in flight. -/
def shadeOverrun (bus : Option Measurement) (completed visited : Nat) : State :=
  (running 2286215 [{ rec 58 1000000 with shade := some [] }, rec 59 1021215] 60).onSmu (fun m =>
    { m with scan := some ⟨58, 2, 2, completed, visited⟩, bus := bus })

theorem wit_EmbossAndShadePoints_overrun :
    (let s := shadeOverrun (some (onBus 0 (.scan 58 1))) 0 1;
      s.parked = false ∧ s.smu.scan = some ⟨58, 2, 2, 0, 1⟩ ∧ s.smu.bus = some (onBus 0 (.scan 58 1)) ∧
      (onBus 0 (.scan 58 1)).user = .scan 58 1) ∧
    (∀ done ∈ [1, 2], let s := shadeOverrun none done 1;
      s.smu.bus = none ∧ s.smu.scan = some ⟨58, 2, 2, done, 1⟩ ∧ s.smu.params.scanList[s.smu.pointer - 1]? = some 0) ∧
    (0 + 1 : Nat) < 2 ∧ 2 ≤ 2 ∧ (shadeOverrun none 1 6).smu.params.scanList.length ≤ 6 := by decide +kernel

/-- R99: with its measurement running the overrun scan waits for it; else it ends here, reported for slot 0. -/
theorem wit_EmbossAndShadePoints_overruns :
    (let t := after (.pointCrossing .shade false) ((shadeOverrun (some (onBus 0 (.scan 58 1))) 0 1).onTku (fun t =>
        { t with cursors := { t.cursors with shade := some 59 } }));
      t.smu.overrun = some ⟨58, 2, 2, 0, 1⟩ ∧ t.smu.scan = some ⟨59, 2, 2, 0, 0⟩) ∧
    (let t := after (.pointCrossing .shade false) (busy ((shadeOverrun none 1 1).onTku (fun t =>
        { t with cursors := { t.cursors with shade := some 59 } })));
      t.smu.overrun = none ∧ t.smu.scan = some ⟨59, 2, 2, 0, 0⟩ ∧ noticed t = [(.scanOverrun, 0, 58)]) := by
  decide +kernel

theorem wit_EmbossAndShadePoints :
    (let s := running 2200000 [rec 58 1000000, rec 59 1021215] 60;
      s.wtb.newWeb = true ∧ s.running = true ∧ s.epu.params.configured = true ∧ s.crossingDue .emboss = some 58 ∧
      s.epu.state ≠ .engaged ∧ s.parked = false ∧ s.smu.scan = none) ∧
    (let s := (embossing 2200000 [rec 58 1000000] .engaged).onEpu (fun e =>
        { e with nipConfirmed := true, lastPhase := some ⟨101, 57⟩ });
      s.crossingDue .emboss = some 58 ∧ s.epu.state = .engaged ∧ s.epu.nipConfirmed = true ∧
      s.epu.lastPhase = some ⟨101, 57⟩ ∧ s.epu.params.tol < (101 : Int).natAbs) ∧
    (job.onPins (fun p => { p with prk := true })).parked = true := by decide +kernel

/-! #### Stations, trims and the emboss unit -/

theorem wit_StationsAreSet :
    (⟨1, 40, 1, 1, 0, 0, 1, 1⟩ : StationParams).inRange = true ∧
    (⟨63999, 4000, 4000, 32, 1000, 256, 2000, 64⟩ : StationParams).inRange = true ∧
    (⟨0, 40, 1, 1, 0, 0, 1, 1⟩ : StationParams).inRange = false ∧
    (let s := line .run job;
      4000 = s.rlu.stations[(2 : Fin 8)].params.d ∧ 200 = s.rlu.stations[(2 : Fin 8)].params.w ∧
      4001 ≠ s.rlu.stations[(2 : Fin 8)].params.d ∧ s.wtb.line ≠ .idle ∧ s.wtb.line ≠ .thread ∧
      s.rlu.stations[(2 : Fin 8)].mode = .auto ∧ s.rlu.stations[(1 : Fin 8)].mode = .monitor ∧
      s.rlu.stations[(0 : Fin 8)].mode = .master ∧ s.rlu.stations[(7 : Fin 8)].mode = .off) ∧
    job.wtb.line = .thread ∧ State.reset.wtb.line = .idle ∧ (0 : Int) < 339260 ∧ settleValue 240000 339260 = 13 := by
  decide +kernel

/-- A channel that owes this much. -/
def owing (l : LineState) (c : Fin 9) (n : Int) : State :=
  (line l job).onRlu (fun r => r.onChannel c (fun k => { k with owed := n }))

/-- The limit met and passed by one either way; channel 3 owned in AUTO, channel 9 owned while SYNCING. -/
theorem wit_TrimsAddAndPulse :
    (let s := owing .run 3 4000;
      -4095 ≤ s.rlu.channels[(3 : Fin 9)].owed + 95 ∧ s.rlu.channels[(3 : Fin 9)].owed + 95 ≤ 4095 ∧
      4095 < s.rlu.channels[(3 : Fin 9)].owed + 96 ∧ 0 < s.rlu.channels[(3 : Fin 9)].owed) ∧
    (let s := owing .thread 3 (-4000);
      -4095 ≤ s.rlu.channels[(3 : Fin 9)].owed + (-95) ∧ s.rlu.channels[(3 : Fin 9)].owed + (-96) < -4095 ∧
      s.rlu.channels[(3 : Fin 9)].owed < 0) ∧
    (∀ l ∈ [LineState.thread, .run, .hold], (line l job).wtb.line ≠ .idle ∧ (line l job).wtb.line ≠ .fault) ∧
    (∀ k : Fin 8, k.val = (1 : Fin 9).val → job.rlu.stations[k].mode ≠ .auto) ∧
    (∃ k : Fin 8, k.val = (2 : Fin 9).val ∧ job.rlu.stations[k].mode = .auto) ∧
    (∀ k : Fin 8, k.val = (8 : Fin 9).val → job.rlu.stations[k].mode ≠ .auto) ∧
    job.epu.state ≠ .syncing ∧ job.epu.state ≠ .engaged ∧ (embossing 0 [] .syncing).epu.state = .syncing ∧
    (-4096 : Int) < -4095 ∧ (4095 : Int) < 4096 ∧ job.rlu.channels[(3 : Fin 9)].owed = 0 := by decide +kernel

/-- S3 of the worked job with its loop state. -/
def station3 (l : LineState) (settle outRun missRun : Nat) (armed : Bool) : State :=
  (running 1004097 [rec 58 1000000] 59 |> line l).onRlu (fun r => r.onStation 2 (fun k =>
    { k with settle := settle, outRun := outRun, missRun := missRun, alarmArmed := armed }))

/-- Errors at the deadband 4 and one above it, the alarm count 8 met and missed by one, the fourth MISSING. -/
theorem wit_RegisterEntriesDriveTheLoop :
    (let s := station3 .run 0 0 0 true;
      s.wtb.line = .run ∧ s.rlu.stations[(2 : Fin 8)].mode = .auto ∧ s.rlu.stations[(2 : Fin 8)].settle = 0 ∧
      (4 : Int).natAbs ≤ s.rlu.stations[(2 : Fin 8)].params.deadband ∧
      s.rlu.stations[(2 : Fin 8)].params.deadband < (5 : Int).natAbs ∧
      (3 : Int).natAbs = min (((5 : Int).natAbs * s.rlu.stations[(2 : Fin 8)].params.gain + 128) / 256)
        s.rlu.stations[(2 : Fin 8)].params.maxStep ∧
      (-50 : Int).natAbs = min (((-200 : Int).natAbs * s.rlu.stations[(2 : Fin 8)].params.gain + 128) / 256)
        s.rlu.stations[(2 : Fin 8)].params.maxStep ∧
      -4095 ≤ s.rlu.channels[channelOfStation 2].owed + -50 ∧ s.rlu.channels[channelOfStation 2].owed + 3 ≤ 4095) ∧
    (line .hold job).wtb.line ≠ .run ∧ (station3 .run 1 0 0 true).rlu.stations[(2 : Fin 8)].settle = 1 ∧
    (station3 .run 0 0 2 true).rlu.stations[(2 : Fin 8)].missRun + 1 < 4 ∧
    4 ≤ (station3 .run 0 0 3 true).rlu.stations[(2 : Fin 8)].missRun + 1 ∧
    (let st := (station3 .run 0 7 0 true).rlu.stations[(2 : Fin 8)];
      st.alarmArmed = true ∧ st.params.alarmCount ≤ min 255 (st.outRun + 1)) ∧
    (let st := (station3 .run 0 6 0 true).rlu.stations[(2 : Fin 8)];
      min 255 (st.outRun + 1) < st.params.alarmCount) ∧
    (station3 .run 0 8 0 false).rlu.stations[(2 : Fin 8)].alarmArmed = false ∧
    (let s := (station3 .run 0 0 0 true).onRlu (fun r => r.onStation 2 (fun k =>
        { k with params := { k.params with gain := 1 } }));
      s.rlu.stations[(2 : Fin 8)].settle = 0 ∧ s.rlu.stations[(2 : Fin 8)].params.deadband < (127 : Int).natAbs ∧
      min (((127 : Int).natAbs * s.rlu.stations[(2 : Fin 8)].params.gain + 128) / 256)
        s.rlu.stations[(2 : Fin 8)].params.maxStep = 0) := by decide +kernel

/-- R62, R65, R58: a correction of 0 reloads nothing; one beyond the limit saturates and reloads; a MARK-LOST that a
route takes drops the station all the same. -/
theorem wit_RegisterEntriesDriveTheLoop_ends :
    (let s := (station3 .run 0 0 0 true).onRlu (fun r => r.onStation 2 (fun k =>
        { k with params := { k.params with gain := 1 } }));
      let t := registerEntry 2 58 false (.error 127 true) s;
      t.rlu.channels[2].owed = 0 ∧ t.rlu.stations[2].settle = 0) ∧
    (let s := (station3 .run 0 0 0 true).onRlu (fun r => r.onChannel 2 (fun c => { c with owed := 4090 }));
      let t := registerEntry 2 58 false (.error 40 true) (busy s);
      t.rlu.channels[2].owed = 4095 ∧ t.rlu.stations[2].settle = 13 ∧ noticed t = [(.trimSaturated, 3, 58)]) ∧
    (let s := (station3 .run 0 0 3 true).onEvu (fun e =>
        { e with routes := #v[some ⟨.markLost, .newBatch, 2⟩, none, none, none] });
      let t := registerEntry 2 58 false .missing (busy s);
      t.rlu.stations[2].mode = .monitor ∧ t.rlu.stations[2].missRun = 0 ∧ t.btu.breakPending = true ∧
      noticed t = []) := by decide +kernel

/-- R58, R60 to R62: an entry out of tolerance ends the missing run and corrects as one in tolerance does, and where its
alarm's route takes the line to HOLD the loop waits. -/
theorem wit_RegisterEntriesDriveTheLoop_out_of_tolerance :
    (let t := registerEntry 2 58 false (.error 120 false) (station3 .run 0 0 3 true);
      t.rlu.stations[2].outRun = 1 ∧ t.rlu.stations[2].missRun = 0 ∧ t.rlu.stations[2].settle = 13 ∧
      t.rlu.channels[2].owed = 50) ∧
    (let t := registerEntry 2 58 false (.error (-120) false) (busy (station3 .run 1 7 3 true));
      t.rlu.stations[2].outRun = 8 ∧ t.rlu.stations[2].alarmArmed = false ∧ t.rlu.stations[2].missRun = 0 ∧
      t.rlu.stations[2].settle = 0 ∧ t.rlu.channels[2].owed = 0 ∧ noticed t = [(.registerAlarm, 3, 58)]) ∧
    (let s := (station3 .run 0 7 0 true).onEvu (fun e =>
        { e with routes := #v[some ⟨.registerAlarm, .holdLine, 2⟩, none, none, none] });
      let t := registerEntry 2 58 false (.error 120 false) (busy s);
      t.wtb.line = .hold ∧ t.rlu.stations[2].settle = 0 ∧ t.rlu.channels[2].owed = 0) := by decide +kernel

/-- The emboss fields of the worked job, with another configured setting and gain. -/
def embossFields (configured : Bool) (gain : Nat) : EmbossFields :=
  ⟨some configured, 1, 300, some true, gain, 4, 50, 50, 1000, 100, 500, some false, 16⟩

theorem wit_EmbossRequestsAreTaken :
    (let s := line .run job;
      s.wtb.line = .run ∧ s.epu.state = .opened ∧ s.epu.releaseWatch = none) ∧
    job.wtb.line ≠ .run ∧ (embossing 0 [] .engaged).epu.state ≠ .opened ∧
    ((embossing 0 [] .opened).onEpu (fun e => { e with releaseWatch := some 500 })).epu.releaseWatch.isSome = true ∧
    ((embossFields true 256).resolve 21200).isSome = true ∧ ((embossFields true 257).resolve 21200) = none ∧
    ((embossFields false 64).resolve 21200).map (·.configured) = some false ∧ job.epu.params.configured = true ∧
    job.wtb.line = .thread ∧ State.reset.epu.state = .none ∧
    (embossing 0 [] .releasing).epu.state = .releasing ∧ (embossing 0 [] .syncing).epu.state = .syncing ∧
    (embossing 0 [] .engaged).nipClosed = false ∧
    ((embossing 0 [] .engaged).onPins (fun p => { p with npf := true })).nipClosed = true := by decide +kernel

/-- The unit at an index whose phase against record 200 is `ph`. -/
def indexAt (st : EmbossState) (ph : Nat) (count : Nat) : State :=
  (embossing (4200300 + BitVec.ofNat 32 ph) [rec 200 3000000, rec 201 3021200] st).onEpu
    (fun e => { e with engageCount := count })

theorem wit_EmbossIndexIsWorked_phase :
    (let s := indexAt .syncing 0 0;
      (10600 : Int) = s.tku.estimate / 32 ∧ (∀ r ∈ s.tku.track, (s.wtb.wp - (r.origin +
        BitVec.ofNat 32 (s.tku.path.de + s.epu.params.offset))).toInt.natAbs < 1073741824)) ∧
    (indexAt .syncing 10600 0).phaseAt (indexAt .syncing 10600 0).wtb.wp = some ⟨-10600, 201⟩ ∧
    (indexAt .syncing 10599 0).phaseAt (indexAt .syncing 10599 0).wtb.wp = some ⟨10599, 200⟩ ∧
    (indexAt .syncing 31801 0).phaseAt (indexAt .syncing 31801 0).wtb.wp = none ∧
    (indexAt .syncing 31800 0).phaseAt (indexAt .syncing 31800 0).wtb.wp = some ⟨10600, 201⟩ := by decide +kernel

/-- The deadband 4 and the engage window 50 met and passed by one, the third index in a row, the fault limit 1,000. -/
theorem wit_EmbossIndexIsWorked :
    (let s := indexAt .syncing 4 0;
      s.wtb.newWeb = true ∧ s.running = true ∧ s.epu.state ≠ .none ∧ true ≠ s.wtb.polarity.eix ∧
      false = s.wtb.polarity.eix ∧ s.epu.eixPrev = false ∧ s.phaseAt s.wtb.wp = some ⟨4, 200⟩ ∧
      (4 : Int).natAbs ≤ s.epu.params.deadband ∧ s.epu.settle = 0 ∧ (4 : Int).natAbs ≤ s.epu.params.engageWindow ∧
      s.epu.engageCount + 1 < 3) ∧
    job.wtb.newWeb = false ∧ State.reset.epu.state = .none ∧
    (indexAt .opened 4 0).epu.state = .opened ∧ (indexAt .releasing 4 0).epu.state = .releasing ∧
    3 ≤ (indexAt .syncing 4 2).epu.engageCount + 1 ∧ (indexAt .syncing 4 2).evu.routeFor .embossEngaged = none ∧
    (let s := (indexAt .syncing 51 0).onEpu (fun e => { e with params := { e.params with deadband := 51 } });
      s.phaseAt s.wtb.wp = some ⟨51, 200⟩ ∧ (51 : Int).natAbs ≤ s.epu.params.deadband ∧
      s.epu.params.engageWindow < (51 : Int).natAbs) ∧
    (let s := (indexAt .engaged 1000 0).onEpu (fun e => { e with params := { e.params with deadband := 1000 } });
      s.phaseAt s.wtb.wp = some ⟨1000, 200⟩ ∧
      (1000 : Int).natAbs ≤ min s.epu.params.faultLimit (s.tku.params.n / 2) ∧
      (1000 : Int).natAbs ≤ s.epu.params.deadband ∧ s.epu.state = .engaged) ∧
    (let s := (indexAt .engaged 1001 0).onPins (fun p => { p with npf := true });
      s.nipClosed = true ∧ s.phaseAt s.wtb.wp = some ⟨1001, 200⟩ ∧
      min s.epu.params.faultLimit (s.tku.params.n / 2) < (1001 : Int).natAbs) ∧
    (indexAt .engaged 31801 0).phaseAt (indexAt .engaged 31801 0).wtb.wp = none ∧
    (let s := indexAt .engaged 1001 0;
      s.nipClosed = false ∧ s.phaseAt s.wtb.wp = some ⟨1001, 200⟩ ∧
      min s.epu.params.faultLimit (s.tku.params.n / 2) < (1001 : Int).natAbs) ∧
    (indexAt .engaged 31801 0).nipClosed = false ∧
    (let s := indexAt .syncing 120 0;
      s.wtb.line = .run ∧ s.epu.settle = 0 ∧ s.epu.params.deadband < (-120 : Int).natAbs ∧
      (-30 : Int).natAbs = min (((-120 : Int).natAbs * s.epu.params.gain + 128) / 256) s.epu.params.maxStep ∧
      -4095 ≤ s.rlu.channels[embossChannel].owed + -30 ∧ s.rlu.channels[embossChannel].owed + -30 ≤ 4095) ∧
    0 < ((indexAt .syncing 120 0).onEpu (fun e => { e with settle := 1 })).epu.settle := by decide +kernel

/-- R78, R80: the loop corrects beyond the engage window, at the third index in a row and in ENGAGED; a settle countdown
ends in its place; and where EMBOSS-ENGAGED's route releases the nip it owes nothing. -/
theorem wit_EmbossIndexIsWorked_loop :
    (let t := after (.embossIndex true) (indexAt .syncing 51 1);
      t.epu.engageCount = 0 ∧ t.epu.settle = 1 ∧ t.rlu.channels[embossChannel].owed = 13) ∧
    (let t := after (.embossIndex true) ((indexAt .syncing 51 1).onEpu (fun e => { e with settle := 1 }));
      t.epu.settle = 0 ∧ t.rlu.channels[embossChannel].owed = 0) ∧
    (let t := after (.embossIndex true) (indexAt .syncing 10 2);
      t.epu.state = .engaged ∧ t.epu.settle = 1 ∧ t.rlu.channels[embossChannel].owed = 3) ∧
    (let t := after (.embossIndex true) (indexAt .engaged 1000 0);
      t.epu.state = .engaged ∧ t.epu.settle = 1 ∧ t.rlu.channels[embossChannel].owed = 50) ∧
    (let t := after (.embossIndex true) ((indexAt .syncing 10 2).onEvu (fun e =>
        { e with routes := #v[some ⟨.embossEngaged, .releaseEmboss, 2⟩, none, none, none] }));
      t.epu.state ≠ .engaged ∧ t.rlu.channels[embossChannel].owed = 0) := by decide +kernel

/-- R82: an index that finds the fault limit passed leaves no correction, though the nip shows open already and the
unit engages again at once. -/
theorem wit_EmbossIndexIsWorked_beyond_the_limit :
    let s := (indexAt .engaged 1001 0).onEpu (fun e => { e with npc := true, nipConfirmed := true, params :=
      { e.params with autoReengage := true } })
    let t := after (.embossIndex true) (busy s)
    t.epu.state = .syncing ∧ t.epu.npc = false ∧ t.rlu = s.rlu ∧ noticed t = [(.embossOut, 1, 200)] := by
  decide +kernel

/-- R82: an index at the advance of the loss is worked first, and the loss is then not there. -/
theorem test_indexLost_works_the_index_first :
    let s := (indexAt .engaged 4 0).onEpu (fun e => { e with npc := true, lastIndex := some 0 })
    let t := after (.indexLost true) (busy s)
    t.epu.state = .engaged ∧ t.epu.lastIndex = some s.wtb.wp ∧ noticed t = [] ∧
    noticed (after (.indexLost false) (busy s)) = [(.embossOut, 2, 0)] := by decide +kernel

/-- The nip with its confirmation, its timers and its feedback. -/
def nip (st : EmbossState) (confirmed closed : Bool) (close watch : Option Nat) : State :=
  ((embossing 31801 [] st).onEpu (fun e =>
    { e with nipConfirmed := confirmed, closeTimer := close, releaseWatch := watch, lastIndex := some 0 })).onPins
      (fun p => { p with npf := closed })

theorem wit_NipIsWatched :
    (nip .engaged false false none none).epu.state = .engaged ∧
    (nip .engaged false false none none).epu.nipConfirmed = false ∧
    (nip .engaged true true none none).epu.nipConfirmed = true ∧
    (nip .releasing false true none (some 500)).epu.state = .releasing ∧
    (nip .opened false true none none).epu.state ≠ .releasing ∧ (nip .opened false true none none).epu.state ≠ .engaged ∧
    (nip .engaged false true (some 500) none).epu.closeTimer.isSome = true ∧
    (nip .engaged false true (some 500) none).nipClosed = true ∧
    (nip .engaged false false (some 500) none).nipClosed = false ∧
    (nip .engaged true true none none).epu.closeTimer = none ∧
    true ≠ job.wtb.polarity.npf ∧ false = job.wtb.polarity.npf ∧
    (let s := nip .releasing false true none (some 500);
      s.epu.releaseWatch.isSome = true ∧ s.nipClosed = true ∧ s.epu.state ≠ .engaged ∧
      s.wtb.latched.nipStuck = false ∧ s.wtb.line = .run) ∧
    (let s := nip .releasing false false none (some 500);
      s.epu.releaseWatch.isSome = true ∧ s.nipClosed = false ∧ s.epu.state = .releasing) ∧
    (nip .opened false false none (some 500)).epu.state ≠ .releasing ∧
    (nip .opened false false none none).epu.releaseWatch = none ∧
    (let s := nip .engaged true true none none;
      s.epu.lastIndex = some 0 ∧ s.wtb.newWeb = true ∧ s.running = true ∧ s.nipClosed = true ∧
      3 * s.epu.params.ratio * s.tku.estimate / 32 < (s.wtb.wp - 0).toInt ∧
      (((31800 : Pos) - 0).toInt) ≤ 3 * s.epu.params.ratio * s.tku.estimate / 32) := by decide +kernel

/-! #### The Shade Measurement Unit -/

theorem wit_ShadeSettingsAreWritten :
    ((⟨[0, 3, 1, 4, 2, 5], 6, 4, 21199, some true, some true, 4000⟩ : ShadeFields).resolve 21200 0).map (·.scanList) =
      some job.smu.params.scanList ∧
    ((⟨[5], 1, 0, 0, some false, some false, 1000⟩ : ShadeFields).resolve 21200 0).map (·.scanList) = some [5] ∧
    [5] ≠ job.smu.params.scanList ∧ (line .run job).wtb.line ≠ .idle ∧ (line .run job).wtb.line ≠ .thread ∧
    (⟨[0], 1, 0, 21200, some false, some false, 1000⟩ : ShadeFields).resolve 21200 0 = none ∧
    (⟨4095, 4095, some false, 5, some true⟩ : GuardFields).resolve = some ⟨4095, 4095, false, 5, true⟩ ∧
    (⟨1, 0, some true, 0, some true⟩ : GuardFields).resolve = none := by decide +kernel

/-- A due spot behind one that is not. -/
def dueSpot (enabled : Bool) : State :=
  (line .run job).onSmu (fun m => { m with
    enables := m.enables.set 1 enabled
    contexts := [⟨2, 0, .next, none, false, 1, .link⟩, ⟨1, 4, .immediate, none, true, 2, .link⟩] })

theorem wit_HeadBusExchanges :
    (let s := job.onSmu (fun m => { m with calRun := some ⟨[4, 5], [4, 5], [], 3000⟩ });
      s.smu.bus = none ∧ s.smu.calRun = some ⟨[4, 5], [4, 5], [], 3000⟩) ∧
    (∀ e ∈ [true, false], let s := dueSpot e;
      s.smu.bus = none ∧ s.smu.calRun = none ∧ s.parked = false ∧ s.wtb.line ≠ .idle ∧ s.wtb.line ≠ .fault ∧
      s.smu.contexts = [⟨2, 0, .next, none, false, 1, .link⟩] ++ ⟨1, 4, .immediate, none, true, 2, .link⟩ :: [] ∧
      s.smu.enables[(1 : Fin 6)] = e ∧ s.smu.scan = none ∧ s.evu.routeFor .spotDone = none ∧
      s.evu.routeFor .spotOverrun = none) ∧
    (let s := measuring.onSmu (fun m => { m with bus := none, scan := some ⟨58, 2, 2, 1, 5⟩, pointer := 6 });
      s.smu.bus = none ∧ s.smu.contexts = [] ∧ 1 < 2 ∧ 5 < s.smu.params.scanList.length ∧
      s.smu.params.scanList[s.smu.pointer - 1]? = some 5 ∧ s.smu.enables[(5 : Fin 6)] = true ∧
      s.smu.params.scanList.length ≤ 6) ∧
    measuring.smu.bus.bind (·.exchange) = some (asked 0x80 (some (.good ⟨2013, 1731, 1281⟩))) ∧
    parseLink [] = none ∧ parseLink (linkFrame 0x81 [0]) ≠ none ∧
    parseLink [0xC3, 2, 0, 0x81, 0, 0, 0] = none ∧ (4095 : Nat) < 4096 ∧ (0x81 : Byte) ≠ 0x80 := by decide +kernel

/-- Log 54: whole frames of another TYPE and of a short and a long BODY are bad answers. -/
theorem wit_HeadBusExchanges_off_layout :
    (∀ x ∈ [((0x82 : Byte), [0x80#8, 0xDA#8, 0x07#8, 0xBF#8, 0x06#8, 0xFD#8, 0x04#8, 0#8]), (0x81, [0x80, 0]),
        (0x81, [0x80, 0xDA, 0x07, 0xBF, 0x06, 0xFD, 0x04, 0, 0])],
      parseLink (linkFrame x.1 x.2) = some (x.1, x.2) ∧ (x.1 ≠ 0x81#8 ∨ x.2.length ≠ 8) ∧
      (after (.headAnswer (linkFrame x.1 x.2)) (measuring.onSmu (fun m => { m with
        bus := some ⟨0, 2, 0, ⟨0, 0, 0⟩, false, .scan 58 1, some (asked 0x80 none)⟩ }))).smu.bus.bind (·.exchange) =
          some (asked 0x80 (some .bad))) := by decide +kernel

/-- A scan at position 5 of its list with these slots disabled. -/
def scanning (disabled : List (Fin 6)) (visited : Nat) : State :=
  measuring.onSmu (fun m => { m with
    bus := none, scan := some ⟨58, 2, 2, 1, visited⟩, pointer := 5
    enables := disabled.foldl (fun e (i : Fin 6) => e.set i false) m.enables })

theorem wit_HeadBusExchanges_disabled :
    (let s := scanning [2, 5] 3;
      s.smu.scan = some ⟨58, 2, 2, 1, 3⟩ ∧ 1 ≤ s.smu.pointer ∧ s.smu.pointer ≤ s.smu.params.scanList.length ∧
      3 + 2 < s.smu.params.scanList.length ∧ s.smu.params.scanList[(5 - 1 + 2) % 6]? = some 0 ∧
      s.smu.enables[(0 : Fin 6)] = true ∧
      (∀ i < 2, ∀ x ∈ s.smu.params.scanList[(5 - 1 + i) % 6]?, s.smu.enables[x] = false)) ∧
    (let s := scanning [2, 5] 4;
      ∀ i < 2, ∀ x ∈ s.smu.params.scanList[(5 - 1 + i) % 6]?, 4 + i < s.smu.params.scanList.length ∧
        s.smu.enables[x] = false) := by decide +kernel

/-- R97: the disabled slots 2 and 5 are passed over and counted, and the list goes on at its first position; a scan
with nothing else left ends. -/
theorem wit_HeadBusExchanges_passes_over :
    (let t := after .frameSlotStart (scanning [2, 5] 3);
      t.smu.bus.map (fun b => (b.slot, b.user)) = some (0, .scan 58 1) ∧ t.smu.scan = some ⟨58, 2, 2, 1, 6⟩) ∧
    (let s := scanning [2, 5] 4; after .frameSlotStart s = s.onSmu (fun m => { m with scan := none })) := by
  decide +kernel

/-- A scan's measurement of slot 0 with k = 0, the fault count at `faults`, and this answer. -/
def lastSample (faults completed visited : Nat) (a : Option Answer) : State :=
  measuring.onSmu (fun m => { m with
    faults := m.faults.set 0 faults, scan := some ⟨58, 2, 0, completed, visited⟩
    bus := some ⟨0, 0, 0, ⟨0, 0, 0⟩, false, .scan 58 6, some (asked 0x80 a)⟩ })

theorem wit_MeasurementsGiveEntries :
    (∀ a ∈ [none, some Answer.bad, some (.good ⟨2013, 1731, 1281⟩)], let s := lastSample 7 1 2 a;
      s.smu.bus = some ⟨0, 0, 0, ⟨0, 0, 0⟩, false, .scan 58 6, some (asked 0x80 a)⟩ ∧ 2 ^ 0 ≤ 0 + 1 ∧
      s.smu.scan = some ⟨58, 2, 0, 1, 2⟩ ∧ s.smu.overrun = none ∧ s.smu.staged[(0 : Fin 6)] = none ∧
      (s.smu.staged.set 0 (some slot0))[(0 : Fin 6)] = some slot0 ∧
      8 ≤ s.smu.faults[(0 : Fin 6)] + 1 ∧ 2 ≤ 1 + 1) ∧
    (lastSample 6 0 2 none).smu.faults[(0 : Fin 6)] + 1 < 8 ∧ 0 + 1 < 2 ∧ 2 < measuring.smu.params.scanList.length ∧
    (let v := factorValues slot0 ⟨8048, 6916, 5117⟩ 2;
      measuring.smu.outside 0 false v = false ∧ measuring.smu.outside 0 false ⟨2169, 1850, 1461⟩ = true ∧
      measuring.smu.outside 0 false ⟨2169, 1850, 1460⟩ = false) ∧
    0 + 1 < 2 ^ 1 ∧ job.smu.bus = none ∧ 4095 * 2 ^ 4 ≤ 4095 * 2 ^ 4 := by decide +kernel

/-- R120: the staged set becomes active at the end of the measurement it stood behind, whose values the old set forms.
-/
theorem wit_MeasurementsGiveEntries_staged :
    let s := measuring.onSmu (fun m => { m with staged := m.staged.set 0 (some ⟨8192, 8192, 8192, 0, 0, 0⟩) })
    let t := after .frameSlotEnd s
    t.tku.track = (after .frameSlotEnd measuring).tku.track ∧ t.smu.active[0] = ⟨8192, 8192, 8192, 0, 0, 0⟩ ∧
      t.smu.staged[0] = none ∧ measuring.smu.active[0] = slot0 := by decide +kernel

/-- R92, R103: samples of 4,095 and of 0, 1 and 2 for k = 0 and k = 4, and one bad sample among them. -/
theorem wit_AveragesRoundHalfUp :
    (0 ≤ 4 ∧ 4 ≤ 4) ∧ ([⟨4095, 4095, 0⟩] : List Rgb).length = 2 ^ 0 ∧
    (List.replicate 16 (⟨4095, 0, 1⟩ : Rgb)).length = 2 ^ 4 ∧
    (∀ v ∈ List.replicate 16 (⟨4095, 0, 1⟩ : Rgb), v.r ≤ 4095 ∧ v.g ≤ 4095 ∧ v.b ≤ 4095) ∧
    (∀ a ∈ [none, some Answer.bad], (asked 0 a).answer = a) ∧
    averageOf (List.replicate 16 4095).sum 4 = 4095 ∧ averageOf 24 4 = 2 ∧ averageOf 23 4 = 1 ∧ averageOf 7 0 = 7 := by
  decide +kernel

/-- Record 58's last sample, with the scan that record 59's crossing has overrun. -/
def overrunning (completed visited : Nat) : State :=
  measuring.onSmu (fun m => { m with
    scan := some ⟨59, 2, 2, 0, 0⟩, overrun := some ⟨58, 2, 2, completed, visited⟩ })

theorem wit_MeasurementsGiveEntries_overrun :
    (∀ done ∈ [0, 1], let s := overrunning done 1;
      s.smu.bus.map (·.user) = some (.scan 58 1) ∧ s.smu.overrun = some ⟨58, 2, 2, done, 1⟩ ∧ 2 ^ 2 ≤ 3 + 1 ∧
      s.smu.staged[(0 : Fin 6)] = none ∧ factorValues s.smu.active[(0 : Fin 6)] ⟨8048, 6916, 5117⟩ 2 = ⟨2169, 1850, 1402⟩ ∧
      s.smu.outside 0 false ⟨2169, 1850, 1402⟩ = false ∧ s.smu.params.scanList[2 - 1]? = some 3) ∧
    (0 + 1 : Nat) < 2 ∧ ¬ 1 + 1 < 2 := by decide +kernel

/-- R99: the overrun measurement completes into its record, and the slot that would have been chosen is named. -/
theorem wit_MeasurementsGiveEntries_overrun_ends :
    let t := after .frameSlotEnd (busy (overrunning 0 1))
    t.tku.track.map (·.shade) = [some [⟨0, .ok ⟨2169, 1850, 1402⟩⟩]] ∧ t.smu.overrun = none ∧
      t.smu.scan = some ⟨59, 2, 2, 0, 0⟩ ∧ noticed t = [(.scanOverrun, 3, 58)] := by decide +kernel

/-- R94, R106: an EXCURSION of slot 0 raises SHADE-GUARD and its eighth INVALID in a row HEAD-FAILED, each with the record,
for a scan that goes on, an overrun one and none. -/
theorem wit_MeasurementsGiveEntries_events :
    (∀ s ∈ [measuring, measuring.onSmu (fun m => { m with scan := none })],
      let t := after .frameSlotEnd (busy (s.onSmu (fun m => { m with guardB := ⟨1350, 1401, true, 0, false⟩ })))
      noticed t = [(.shadeGuard, 0, 58)] ∧ t.tku.track.map (·.shade) = [some [⟨0, .excursion ⟨2169, 1850, 1402⟩⟩]] ∧
        t.smu.pointer = 2) ∧
    (let t := after .frameSlotEnd (byAge (busy ((overrunning 0 1).onSmu (fun m => { m with
        faults := m.faults.set 0 7, bus := m.bus.map (fun b => { b with bad := true }) }))));
      noticed t = [(.headFailed, 0, 58), (.scanOverrun, 3, 58)] ∧ t.tku.track.map (·.shade) = [some [⟨0, .invalid⟩]] ∧
        t.smu.enables[0] = false ∧ t.smu.faults[0] = 0) := by decide +kernel

/-- The last sample of a spot of slot 0 for record 58, with SPOT STOPs held behind it. -/
def spotting (answer : Option Answer) (faults : Nat) (held : List HeldStop) : State :=
  measuring.onSmu (fun m => { m with
    scan := none, heldStops := held, faults := m.faults.set 0 faults
    bus := some ⟨0, 2, 3, ⟨6035, 5185, 3836⟩, false, .spot ⟨0, 2, .number 58, none, true, 90, .link⟩,
      some (asked 0x80 answer)⟩ })

theorem wit_SpotsJoinAndEnd_completion :
    (∀ f ∈ [6, 7], let s := spotting (some (.good ⟨2013, 1731, 1281⟩)) f [];
      s.smu.bus.map (·.user) = some (.spot ⟨0, 2, .number 58, none, true, 90, .link⟩) ∧ s.smu.heldStops = [] ∧
      2 ^ 2 ≤ 3 + 1 ∧ s.smu.faults[(0 : Fin 6)] = f ∧
      s.smu.outside 0 true ⟨2169, 1850, 1402⟩ = false) ∧
    ((spotting none 0 []).onSmu (fun m => { m with guardB := ⟨1350, 1401, true, 0, true⟩ })).smu.outside 0 true
      ⟨2169, 1850, 1402⟩ = true ∧
    (6 + 1 : Nat) < 8 ∧ 8 ≤ 7 + 1 ∧ (spotting none 0 [⟨12, 1⟩]).smu.heldStops ≠ [] := by decide +kernel

/-- R114, R94: a spot's value joins its record and its result; the eighth INVALID in a row fails the head. -/
theorem wit_SpotsJoinAndEnd_completes :
    (let t := after .frameSlotEnd (busy (spotting (some (.good ⟨2013, 1731, 1281⟩)) 6 []));
      t.smu.results = [⟨90, .link, 0, some 58, .ok, some ⟨2169, 1850, 1402⟩, some false⟩] ∧
      t.tku.track.map (·.shade) = [some [⟨0, .ok ⟨2169, 1850, 1402⟩⟩]] ∧ noticed t = [(.spotDone, 90, 58)]) ∧
    (let t := after .frameSlotEnd (busy (spotting none 7 []));
      t.smu.results.map (·.status) = [.invalid] ∧ t.smu.enables[0] = false ∧
      noticed t = [(.headFailed, 0, 58), (.spotDone, 90, 58)]) := by decide +kernel

/-- R117: a held SPOT STOP ends the spot ABANDONED at the end of the frame slot, and its reply follows. -/
theorem wit_SpotsJoinAndEnd_releases :
    let t := after .frameSlotEnd (busy (spotting none 0 [⟨12, 1⟩]))
    t.smu.results.map (·.status) = [.abandoned] ∧ t.smu.heldStops = [] ∧ replied t = [(0x2D, .ok, [1])] ∧
      t.svl.replies.map (·.tag) = [12] := by decide +kernel

/-- R120: the set staged behind a spot becomes active after its end, completed or ABANDONED. -/
theorem wit_SpotsJoinAndEnd_staged :
    ∀ held ∈ [[], [⟨12, 1⟩]],
      let s := (spotting (some (.good ⟨2013, 1731, 1281⟩)) 0 held).onSmu (fun m =>
        { m with staged := m.staged.set 0 (some ⟨8192, 8192, 8192, 0, 0, 0⟩) })
      let t := after .frameSlotEnd s
      t.smu.active[0] = ⟨8192, 8192, 8192, 0, 0, 0⟩ ∧ t.smu.staged[0] = none ∧
        t.smu.results.map (·.values) = [if held = [] then some ⟨2169, 1850, 1402⟩ else none] := by decide +kernel

/-- A held SPOT STOP. -/
def heldStop : State :=
  (line .run job).onSmu (fun m => { m with
    heldStops := [⟨12, 1⟩]
    bus := some ⟨1, 2, 0, ⟨0, 0, 0⟩, false, .spot ⟨1, 2, .next, some 58, true, 90, .link⟩, none⟩ })

/-- The result buffer of this length. -/
def results (n : Nat) (overwrite : Bool) : State :=
  (line .run job).onSmu (fun m => { m with
    params := { m.params with overwrite := overwrite }
    results := List.replicate n ⟨90, .link, 1, some 58, .ok, none, none⟩ })

theorem wit_SpotsJoinAndEnd :
    State.reset.wtb.line = .idle ∧ (line .fault job).wtb.line = .fault ∧ heldStop.smu.heldStops ≠ [] ∧
    heldStop.wtb.line ≠ .idle ∧ heldStop.wtb.line ≠ .fault ∧ 4 ≤ (spots 4).smu.contexts.length ∧
    (spots 3).smu.contexts.length < 4 ∧ (spots 3).smu.heldStops = [] ∧ (spots 0).smu.contexts = [] ∧
    (spots 0).smu.standing = none ∧
    (spots 3).smu.contexts.getLast? = some ⟨1, 2, .next, none, false, 90, .link⟩ ∧
    (let s := running 2440000 [rec 59 1021215] 60;
      s.tku.passedShade 58 = true ∧ s.tku.passedShade 60 = false ∧ s.smu.heldStops = []) ∧
    (results 3 false).smu.results.length < 4 ∧ 4 ≤ (results 4 true).smu.results.length ∧
    (results 4 true).smu.params.overwrite = true ∧ (results 4 false).smu.params.overwrite = false ∧
    job.smu.spotInProgress = none ∧ heldStop.smu.spotInProgress.isSome = true := by decide +kernel

theorem wit_CalibrationRunsAndParking_table :
    job.smu.staged[(5 : Fin 6)] = none ∧
    (job.smu.staged.set 5 (some slot0))[(5 : Fin 6)] = some slot0 ∧ 5 < 6 ∧
    (⟨8192, 8192, 8192, 0, 0, 0⟩ : Factors).inRange = true ∧
    (⟨65535, 65535, 65535, 1023, 1023, 1023⟩ : Factors).inRange = true ∧
    (⟨8191, 8192, 8192, 0, 0, 0⟩ : Factors).inRange = false ∧ job.smu.bus = none ∧
    measuring.smu.bus.map (·.slot) = some 0 ∧ (0 : Fin 6) ≠ 1 := by decide +kernel

/-- Slot 4's part of the run at its sixteenth sample, with the slots to do. -/
def calibrating (todo : List (Fin 6)) (bad : Bool) : State :=
  job.onSmu (fun m => { m with
    active := m.active.set 4 ⟨32768, 32768, 32768, 40, 36, 44⟩
    calRun := some ⟨todo, [4, 5], [], 3000⟩
    bus := some ⟨4, 4, 15, ⟨41400, 40680, 39750⟩, bad, .cal, some (asked 4 (some (.good ⟨2760, 2712, 2650⟩)))⟩ })

theorem wit_CalibrationRunsAndParking :
    (List.finRange 6).filter (fun i => (0xC0 : Byte).getLsbD i.val) = [] ∧
    (List.finRange 6).filter (fun i => (0x20 : Byte).getLsbD i.val) = [5] ∧
    job.wtb.line ≠ .run ∧ job.wtb.line ≠ .fault ∧ (line .run job).wtb.line = .run ∧ job.parked = false ∧
    (job.onPins (fun p => { p with prk := true })).parked = true ∧ job.smu.calRun = none ∧
    (calibrating [4, 5] false).smu.calRun.isSome = true ∧
    (44160 + 8) / 16 ≤ 2760 ∧ 2759 < (44160 + 8) / 16 ∧
    (∀ bad ∈ [true, false], ∀ todo ∈ [[4, 5], [(4 : Fin 6)]], let s := calibrating todo bad;
      s.smu.bus = some ⟨4, 4, 15, ⟨41400, 40680, 39750⟩, bad, .cal, some (asked 4 (some (.good ⟨2760, 2712, 2650⟩)))⟩ ∧
      s.smu.calRun = some ⟨todo, [4, 5], [], 3000⟩ ∧
      calibrationGain 3000 (41400 + 2760) s.smu.active[(4 : Fin 6)].blackR = some 36141 ∧
      calibrationGain 3000 (40680 + 2712) s.smu.active[(4 : Fin 6)].blackG = some 36735 ∧
      calibrationGain 3000 (39750 + 2650) s.smu.active[(4 : Fin 6)].blackB = some 37722) ∧
    (job.onSmu (fun m => { m with calRun := some ⟨[5], [4, 5], [4], 3000⟩ })).smu.bus = none ∧
    measuring.smu.bus.map (·.user) = some (.scan 58 1) ∧ (calibrating [4] false).smu.bus.map (·.user) = some .cal ∧
    heldStop.smu.bus.map (·.user) = some (.spot ⟨1, 2, .next, some 58, true, 90, .link⟩) := by decide +kernel

/-- R123: a red average of 2,760 at a black level of 2,760 fails slot 4, whose factors stay. -/
theorem wit_CalibrationRunsAndParking_fails :
    let s : List (Fin 6) → State := fun todo => (calibrating todo false).onSmu (fun m =>
      { m with active := m.active.set 4 ⟨32768, 32768, 32768, 2760, 36, 44⟩ })
    calibrationGain 3000 (41400 + 2760) (s [4]).smu.active[(4 : Fin 6)].blackR = none ∧
    (let t := after .frameSlotEnd (s [4, 5]);
      t.smu.active[4] = ⟨32768, 32768, 32768, 2760, 36, 44⟩ ∧ t.smu.calRun = some ⟨[5], [4, 5], [], 3000⟩ ∧
      t.smu.bus = none) ∧
    (let t := after .frameSlotEnd (busy (s [4]));
      t.smu.active[4] = ⟨32768, 32768, 32768, 2760, 36, 44⟩ ∧ t.smu.calRun = none ∧
      noticed t = [(.calDone, 0, 48)]) := by decide +kernel

/-- R120, R124: a set staged behind a slot of the run stands in place of the gains just written; so does one whose
measurement a run that ends early gives up. -/
theorem wit_CalibrationRunsAndParking_staged :
    let s := (calibrating [4] false).onSmu (fun m => { m with staged := m.staged.set 4 (some slot0) })
    (let t := after .frameSlotEnd (busy s);
      t.smu.active[4] = slot0 ∧ t.smu.staged[4] = none ∧ noticed t = [(.calDone, 16, 48)]) ∧
    (let t := after .prkInactive (busy s);
      t.smu.active[4] = slot0 ∧ t.smu.staged[4] = none ∧ t.smu.bus = none ∧ noticed t = [(.calDone, 0, 48)]) := by
  decide +kernel

/-! #### Lanes, rolls, batches and labels -/

/-- The lane fields of the worked job. -/
def laneFields (enabled : Bool) (offset target : Nat) : LaneFields :=
  ⟨some enabled, offset, target, 200000, 5, 8000, 3, 3000⟩

/-- R151, R191: the open roll's number or none takes a presence byte; the three values of an open roll are 0 with none
(log 11). -/
theorem wit_RequestIsTaken_status_of_a_lane :
    statusLane ((laneIn .winding).lane .a) = 2 :: 1 :: 7 :: List.replicate 19 0 ∧
    statusLane LaneControl.reset = List.replicate 22 0 := by decide +kernel

theorem wit_LanesAreSetAndCut :
    ((laneFields true 0 42399).resolve 21200 0).map (·.target) = some 42399 ∧ (line .hold job).running = true ∧
    42399 ≠ ((line .hold job).lane .a).params.target ∧ 42399 < 2 * (line .hold job).tku.params.n ∧
    ((laneFields true 0 42400).resolve 21200 0).isSome = true ∧ 2 * (line .hold job).tku.params.n ≤ 42400 ∧
    job.running = false ∧ ((laneFields true 21199 402000).resolve 21200 0).map (·.cutOffset) = some 21199 ∧
    21199 ≠ (job.lane .a).params.cutOffset ∧ (laneFields true 21200 402000).resolve 21200 0 = none ∧
    ((laneFields false 0 402000).resolve 21200 0).map (·.enabled) = some false ∧
    (job.lane .a).params.enabled = true ∧ (job.lane .a).roll = none ∧
    ((laneIn .winding).lane .a).roll.isSome = true ∧ (State.reset.lane .b).params.enabled = false ∧
    (∀ st ∈ [LaneState.off, .leader, .indexing, .winding, .armed],
      ((laneIn st).lane .a).state = st ∧ (laneIn st).running = true) := by decide +kernel

/-- Counts full and one below; a roll of record 58 with the lane's and the other lane's entries; both lead cases. -/
theorem wit_KnifeCrossingsCountAndArm :
    ((laneIn .winding).lane .a).roll = some (emptyRoll 7 0) ∧ 65535 ≤ 65535 ∧ 65534 < 65535 ∧
    (rec 58 1000000).splice = false ∧ ({ rec 58 1000000 with splice := true } : RepeatRecord).splice = true ∧
    (∀ st ∈ [LaneState.off, .indexing, .leader, .winding], ((laneIn st).lane .a).state = st) ∧
    ((laneIn .leader).lane .a).cut = none ∧
    (running 2801700 [rec 76 1381700] 77).tku.track.find? (fun q => 76 < q.number) = none ∧
    (let s := (running 2801700 [rec 76 1381700, rec 77 1402905] 78).onLane .a (fun k =>
        { k with state := .winding, roll := some (emptyRoll 7 2420905) });
      s.tku.track.find? (fun q => 76 < q.number) = some (rec 77 1402905) ∧
      (2822905 : Pos) = (rec 77 1402905).at_.get (.knife .a) ∧
      (2821305 : Pos) = 2822905 - BitVec.ofNat 32 ((s.wtb.v * (s.lane .a).params.knifeLead + 999) / 1000) ∧
      (s.wtb.wp - 2821305).toInt < 0 ∧ (s.lane .a).roll = some (emptyRoll 7 2420905) ∧
      (s.lane .a).params.target ≤ ((2822905 : Pos) - 2420905).toInt ∧
      ((2822905 : Pos) - 2420906).toInt < (s.lane .a).params.target ∧ (s.lane .a).force = false) := by decide +kernel

/-- Record 58, the cut record of lane A, crosses knife A; record 59 follows, its fire position at 2,439,615. -/
def cutRecordAt (wp : Pos) (st : LaneState) (track : List RepeatRecord) (tried : Bool) : State :=
  (running wp track 60).onLane .a (fun k =>
    { k with state := st, cut := some ⟨58, 2420000, 2418400, tried⟩, roll := some (emptyRoll 7 2000000) })

theorem wit_KnifeCrossingsCountAndArm_cut :
    (∀ st ∈ [LaneState.leader, .armed], ∀ tried ∈ [true, false],
      let s := cutRecordAt 2420000 st [rec 58 1000000, rec 59 1021215] tried;
      (s.lane .a).state = st ∧ (s.lane .a).cut = some ⟨58, 2420000, 2418400, tried⟩ ∧ (s.lane .a).roll.isSome = true ∧
      s.winderReady .a true = true ∧ s.winderReady .a false = false ∧
      s.tku.track.find? (fun q => 58 < q.number) = some (rec 59 1021215) ∧
      (s.wtb.wp - 2439615).toInt < 0) ∧
    0 ≤ ((cutRecordAt 2439615 .armed [rec 58 1000000, rec 59 1021215] true).wtb.wp - 2439615).toInt ∧
    (cutRecordAt 2420000 .armed [rec 58 1000000] true).tku.track.find? (fun q => 58 < q.number) = none ∧
    (armed.lane .a).cut.map (·.record) = some 77 ∧ (77 : Nat) ≠ 58 := by decide +kernel

/-- R134, R136: a cut that waited is armed for the next record, and where its fire position is passed it is
attempted at once with CUT-LATE. -/
theorem wit_KnifeCrossingsCountAndArm_rearms :
    (let t := after (.pointCrossing (.knife .a) false)
        (cutRecordAt 2420000 .armed [rec 58 1000000, rec 59 1021215] true);
      t.rku.laneA.cut = some ⟨59, 2441215, 2439615, false⟩ ∧ t.rku.laneA.roll.map (·.flags.cutLate) = some false) ∧
    (let t := after (.pointCrossing (.knife .a) true)
        (cutRecordAt 2439615 .armed [rec 58 1000000, rec 59 1021215] true);
      t.rku.laneA.state = .indexing ∧ t.rku.history.map (fun r => (r.number, r.flags.cutLate)) = [(7, true)]) := by
  decide +kernel

/-- The leader cut armed, without a roll. -/
def leaderArmed : State :=
  (running 2821305 [] 78).onLane .a (fun k => { k with state := .leader, cut := some ⟨77, 2822905, 2821305, false⟩ })

theorem wit_CutsFireAndTurretsTurn :
    (armed.lane .a).cut = some ⟨77, 2822905, 2821305, false⟩ ∧ armed.wtb.newWeb = true ∧ armed.running = true ∧
    0 ≤ (armed.wtb.wp - 2821305).toInt ∧ ((2821304 : Pos) - 2821305).toInt < 0 ∧
    armed.winderReady .a true = true ∧ armed.winderReady .a false = false ∧ (armed.lane .a).roll = some roll7 ∧
    (armed.lane .a).state = .armed ∧ (leaderArmed.lane .a).roll = none ∧ (leaderArmed.lane .a).state = .leader ∧
    (leaderArmed.lane .a).cut = some ⟨77, 2822905, 2821305, false⟩ ∧ roll7.deferrals = 0 ∧
    (true != job.wtb.polarity.tda) = true ∧ (false != job.wtb.polarity.tda) = false ∧
    (∀ st ∈ [LaneState.indexing, .leader, .winding], ((laneIn st).lane .a).state = st) ∧
    (let s := (laneIn .indexing).onLane .a (fun k => { k with turret := some 3000 });
      (s.lane .a).turret.isSome = true ∧ s.wtb.latched.winder = false ∧ s.wtb.line = .run) ∧
    (latched .run .winder).wtb.latched.winder = true ∧ ((laneIn .indexing).lane .a).turret = none ∧
    ((laneIn .indexing).lane .a).cut = none := by decide +kernel

/-- R135, R136: CUT-DONE with the roll that closes, 0 for a leader cut; CUT-DEFERRED, and CUT-MISSED at the deferral past
the max deferrals of 3. -/
theorem wit_CutsFireAndTurretsTurn_events :
    ((noticed (after (.firePosition .a true) (byAge (busy armed)))).head? = some (.cutDone, 1, 7)) ∧
    noticed (after (.firePosition .a true) (busy leaderArmed)) = [(.cutDone, 1, 0)] ∧
    noticed (after (.firePosition .a false) (busy leaderArmed)) = [(.cutDeferred, 1, 0)] ∧
    (armed.lane .a).params.maxDeferrals = 3 ∧
    noticed (after (.firePosition .a false) (busy armed)) = [(.cutDeferred, 1, 7)] ∧
    (let t := after (.firePosition .a false) (byAge (busy (armed.onLane .a (fun k => { k with
        roll := k.roll.map (fun r => { r with deferrals := 3 }) }))));
      noticed t = [(.cutDeferred, 1, 7), (.cutMissed, 1, 7)] ∧
      (t.lane .a).roll.map (fun r => (r.deferrals, r.flags.overlength)) = some (4, true)) := by decide +kernel

theorem wit_RollsAreJudged :
    0 < roll7.counts.samples ∧ roll7.counts.samples = 19 ∧ roll7.counts.sums.r = 41217 ∧
    41217 ≤ 4095 * 19 ∧ (199999 : Int) < laneJob.params.minLength ∧ (laneJob.params.minLength : Int) ≤ 200000 ∧
    laneJob.params.defectLimit < 6 ∧ 5 ≤ laneJob.params.defectLimit ∧ roll7.flags.trackGap = false ∧
    (emptyRoll 7 0).counts.samples = 0 ∧ roll7.counts.mean = some ⟨2169, 1850, 1402⟩ := by decide +kernel

/-- A history of so many rolls, and lane A's labelling, list and job in flight. -/
def finishing (rolls : Nat) (labelled : Bool) (jobs : Nat) (inFlight : Option InFlight) : State :=
  { armed with
    rku := { armed.rku with history := (List.range rolls).map (fun k => { roll9 with number := k + 100 }) }
    lbp := { armed.lbp with
      params := { armed.lbp.params with enabledA := labelled }
      listA := (List.range jobs).map (fun k => jobOf (k + 100) .a 3), inFlight := inFlight } }

theorem wit_RollsAreJudged_finalise :
    (2822905 - 2420000 : Int) = ((2822905 : Pos) - roll7.opening).toInt ∧
    verdict .byJobEnd (armed.lane .a).params roll7 402905 = .decided .partialRoll ∧
    verdict .byCut (armed.lane .a).params roll7 402905 = .candidate ⟨2169, 1850, 1402⟩ ∧
    (finishing 63 true 0 none).rku.history.length < 64 ∧ 64 ≤ (finishing 64 true 0 none).rku.history.length ∧
    (finishing 0 true 0 none).lbp.params.enabledA = true ∧ (finishing 0 false 0 none).lbp.params.enabledA = false ∧
    4 ≤ ((finishing 0 true 4 none).lbp.list .a).length ∧
    (let s := finishing 0 true 3 (some ⟨jobOf 99 .a 3, 1⟩);
      (s.lbp.list .a).length < 4 ∧ s.lbp.inFlight.isSome = true) ∧
    (let s := finishing 0 true 0 none; s.lbp.inFlight = none ∧ s.lbp.listA = [] ∧ s.lbp.listB = []) := by
  decide +kernel

/-- R143, R167: the oldest of 64 rolls leaves with its job's link, and a full list takes no new job. -/
theorem wit_RollsAreJudged_full :
    let t := finalise .byCut .a roll7 2822905 (busy (finishing 64 true 4 (some ⟨jobOf 99 .a 3, 1⟩)))
    t.rku.history.length = 64 ∧ t.rku.history.head?.map (·.number) = some 101 ∧
      t.rku.history.getLast?.map (fun r => (r.number, r.label)) = some (7, .notQueued) ∧
      t.lbp.listA.map (·.linked) = [false, true, true, true] ∧
      noticed t = [(.labelQueueFull, 1, 7), (.rollDone, 1, 7)] := by decide +kernel

/-- The history holds rolls 9 and 10, 8 open on lane B. -/
def history : State :=
  { job with rku := { job.rku with
      history := [roll9, { roll9 with number := 10, lane := .b }], nextRoll := 12, readCursor := some 9
      laneB := { laneJob with state := .winding, roll := some (emptyRoll 11 0) } } }

theorem wit_RollHistoryIsRead :
    (∃ r ∈ history.rku.history, r.number = 10) ∧ (∀ r ∈ history.rku.history, r.number ≠ 11) ∧
    (history.lane .b).roll = some (emptyRoll 11 0) ∧ history.rku.wrapped = false ∧ history.rku.nextRoll ≤ 12 ∧
    8 < history.rku.nextRoll ∧ (∀ r ∈ history.rku.history, r.number ≠ 8) ∧
    (∀ l ∈ [Lane.a, .b], ((history.lane l).roll.map (·.number)) ≠ some 8) ∧ job.rku.readCursor = none ∧
    history.rku.readCursor = some 9 ∧ history.rku.history = [] ++ roll9 :: [{ roll9 with number := 10, lane := .b }] ∧
    roll9.number = 9 ∧ (∀ r ∈ history.rku.history, r.number ≠ 65535) := by decide +kernel

theorem wit_BatchRequestsAreTaken :
    ((⟨0x41, 0x5A, 12, 16, 16, 16, 9999, some .currentOnly⟩ : BatchFields).resolve.map (·.tol)) = some 12 ∧
    ((⟨0x41, 0x5A, 4095, 64, 64, 64, 1, some .nearest⟩ : BatchFields).resolve.map (·.tol)) = some 4095 ∧
    armed.btu.params.tol = 12 ∧ armed.btu.batches ≠ [] ∧ job.btu.batches = [] ∧
    (⟨0x40, 0x5A, 12, 16, 16, 16, 1, some .nearest⟩ : BatchFields).resolve = none ∧
    isBatchCode [0x41, 0x5A, 0x30, 0x39, 0x30] = true ∧ isBatchCode [0x41, 0x5B, 0x30, 0x39, 0x30] = false ∧
    (∀ b ∈ armed.btu.batches, b.code ≠ [0x41, 0x5A, 0x30, 0x39, 0x30]) ∧
    (∀ b ∈ armed.btu.batches.take 1, b.code ≠ [0x4B, 0x54, 0x30, 0x31, 0x37] ∧ b.sequence ≠ 17) ∧
    State.reset.wtb.line = .idle ∧ job.wtb.line ≠ .idle := by decide +kernel

/-- Sixteen open batches, the one of sequence 3 used longest ago. -/
def fullTable : State :=
  (line .run job).onBtu (fun b => { b with
    takes := 100, sequence := 17
    batches := (List.range 16).map (fun k => ⟨[0x4B, 0x54, 0x30, 0x30, 0x30], k + 1, ⟨100 * k, 0, 0⟩, 1, 402905, k + 1,
      if k = 2 then 1 else BitVec.ofNat 32 (k + 2), true, false⟩) })

/-- The candidate of roll 7. -/
def candidate7 : Candidate := ⟨7, .a, 402905, ⟨2169, 1850, 1402⟩⟩

/-- Batches 16 and 17 of 198 and 31 rolls, with this limit. -/
def mixedTable (limit : Nat) : State :=
  armed.onBtu (fun b => { b with params := { b.params with rollsPerBatch := limit } })

theorem wit_CandidatesFindBatches :
    4294967295 < 4294967296 ∧ armed.btu.batches.Pairwise (fun a b => a.sequence < b.sequence) ∧
    (armed.btu.nearest candidate7.mean).map (·.sequence) = some 16 ∧ armed.btu.breakPending = false ∧
    (∀ limit ∈ [199, 200], let s := mixedTable limit;
      (s.btu.nearest candidate7.mean).map (·.sequence) = some 16 ∧ (∃ x ∈ s.btu.batches, x.rolls + 1 < limit) ∧
      (∀ x ∈ s.btu.batches, x.sequence = 16 → if limit = 199 then limit ≤ x.rolls + 1 else x.rolls + 1 < limit)) ∧
    (armed.onBtu (fun b => { b with breakPending := true })).btu.breakPending = true ∧
    job.btu.nearest candidate7.mean = none ∧ 999 < 1000 ∧ job.btu.sequence ≤ 999 ∧ job.btu.batches.length < 16 ∧
    1 < job.btu.params.rollsPerBatch ∧ (mixedTable 1).btu.params.rollsPerBatch ≤ 1 ∧
    16 ≤ fullTable.btu.batches.length ∧
    fullTable.btu.nearest candidate7.mean = none ∧
    (∀ x ∈ fullTable.btu.batches, x.sequence ≠ fullTable.btu.sequence) ∧
    (∀ x ∈ fullTable.btu.batches, x.sequence ≠ 3 → (1 : BitVec 32).toNat < x.lastTake.toNat) := by decide +kernel

/-- R157: the batch joined alone decides, here of 198 and 31 rolls; with one roll a batch an opened one closes FULL at
once. -/
theorem wit_CandidatesFindBatches_full :
    (let t := (takeCandidate candidate7 (busy (mixedTable 199))).state;
      t.btu.batches.map (·.sequence) = [17] ∧ noticed t = [(.batchClosed, 2, 16)]) ∧
    (let t := (takeCandidate candidate7 (busy (mixedTable 200))).state;
      t.btu.batches.map (fun b => (b.sequence, b.rolls)) = [(16, 199), (17, 31)] ∧ noticed t = []) ∧
    (let s := (mixedTable 1).onBtu (fun b => { b with breakPending := true });
      let t := (takeCandidate candidate7 (busy s)).state;
      t.btu.batches.map (·.sequence) = [16, 17] ∧ t.btu.sequence = 19 ∧
      noticed t = [(.batchOpened, 1, 18), (.batchClosed, 2, 18)]) := by decide +kernel

/-- R154: chapter 8's comparison of roll 7 with KT016, and weights, tolerance and values at the ends of their ranges. -/
theorem wit_BatchDistanceQualifies :
    (let p := armed.btu.params; let r : Rgb := ⟨2160, 1851, 1395⟩;
      p.wR ≤ 64 ∧ p.tol ≤ 4095 ∧ p.wR = 16 ∧ p.wG = 16 ∧ p.wB = 16 ∧ candidate7.mean.r ≤ 4095 ∧ r.r ≤ 4095 ∧
      distance2 p candidate7.mean r = 2096 ∧ 2096 ≤ 16 * p.tol ^ 2 ∧ reportedDistance 2096 = 11 ∧
      ({ armed.btu with batches := armed.btu.batches.take 1 } : Btu).batches.map (·.reference) = [r]) ∧
    (let p : BatchParams := ⟨0x41, 0x41, 4095, 64, 64, 64, 200, .nearest⟩;
      distance2 p ⟨4095, 4095, 4095⟩ ⟨0, 0, 0⟩ = 3219652800 ∧ reportedDistance 3219652800 = 14185 ∧
      16 * p.tol ^ 2 = 268304400) ∧
    (let p : BatchParams := ⟨0x41, 0x41, 0, 0, 64, 0, 200, .nearest⟩;
      distance2 p ⟨5, 7, 9⟩ ⟨1, 7, 2⟩ = 0 ∧ distance2 p ⟨5, 7, 9⟩ ⟨5, 8, 9⟩ = 64) ∧
    distance2 ⟨0x41, 0x41, 0, 0, 0, 0, 200, .nearest⟩ ⟨5, 7, 9⟩ ⟨1, 0, 2⟩ = 0 ∧
    armed.btu.breakPending = false ∧ (armed.btu.nearest candidate7.mean).isSome = true := by decide +kernel

theorem wit_LabelRequestsAreTaken :
    ((⟨some true, some false, 15, 15, 5000, 1⟩ : LabelFields).resolve).isSome = true ∧
    ((⟨some true, some false, 0, 0, 49, 0⟩ : LabelFields).resolve) = none ∧
    (∀ r ∈ history.rku.history, r.number ≠ 65535) ∧
    history.rku.history.find? (fun x => x.number == 9) = some roll9 ∧
    4 ≤ ({ history.lbp with listA := List.replicate 4 (jobOf 9 .a 3) } : Lbp).listA.length ∧
    (printing7.lbp.list roll9.lane).length < 4 ∧ printing7.lbp.inFlight.isSome = true ∧
    history.lbp.inFlight = none ∧ history.lbp.listA = [] ∧ history.lbp.listB = [] ∧
    printing7.lbp.listA.filter (fun j => j.roll == 7) = [] ∧ printing7.lbp.listB.filter (fun j => j.roll == 7) = [] ∧
    printing7.lbp.inFlight.map (·.job.roll) = some 7 ∧
    (printing7.lbp.listA.filter (fun j => j.roll == 8)).length +
      (printing7.lbp.listB.filter (fun j => j.roll == 8)).length = 1 ∧
    0 ≤ roll9.length ∧ roll9.disposition = .good ∧ roll9.code = some [0x4B, 0x54, 0x30, 0x31, 0x36] := by
  decide +kernel

/-- Roll 7 in flight alone, at this attempt. -/
def inFlight7 (attempt : Nat) : State :=
  { printing7 with lbp := { printing7.lbp with inFlight := some ⟨jobOf 7 .a 3, attempt⟩, listB := [] } }

theorem wit_PrintExchangeRuns :
    job.lbp.inFlight = none ∧ (inFlight7 1).lbp.inFlight = some ⟨jobOf 7 .a 3, 1⟩ ∧ (inFlight7 1).lbp.listA = [] ∧
    (inFlight7 1).lbp.listB = [] ∧ (inFlight7 1).lbp.params.retries = 1 ∧ (2 : Nat) ≠ 1 ∧
    (inFlight7 2).lbp.inFlight = some ⟨jobOf 7 .a 3, 2⟩ ∧ (42 : Byte) ≠ (inFlight7 1).lbp.exchange ∧
    (let s := { printing7 with lbp := { printing7.lbp with listB := [{ jobOf 8 .b 5 with linked := false }] } };
      s.lbp.lastGranted = .a ∧ s.lbp.listB = { jobOf 8 .b 5 with linked := false } :: []) ∧
    parseLink [0xC3] = none ∧ (inFlight7 1).lbp.timer.isSome = true ∧
    (let s := { printing7 with lbp := { printing7.lbp with timer := none, printing := some [1] } };
      s.lbp.timer = none ∧ s.lbp.printing.isSome = true) ∧ (inFlight7 1).lbp.printing = none := by decide +kernel

/-- Log 27: whole frames of another TYPE and of another BODY length are discarded. -/
theorem wit_PrintExchangeRuns_off_layout :
    (∀ x ∈ [((0x82 : Byte), [41#8, 0#8]), (0x81, [41]), (0x81, [41, 0, 0])],
      parseLink (linkFrame x.1 x.2) = some (x.1, x.2) ∧ (x.1 ≠ 0x81#8 ∨ x.2.length ≠ 2) ∧
      after (.printerDone (linkFrame x.1 x.2)) (inFlight7 1) = inFlight7 1) ∧
    (∀ x ∈ [((0x81 : Byte), [41#8, 0#8]), (0x82, []), (0x82, [41, 2, 0])],
      parseLink (linkFrame x.1 x.2) = some (x.1, x.2) ∧ (x.1 ≠ 0x82#8 ∨ x.2.length ≠ 2) ∧
      after (.printerFault (linkFrame x.1 x.2)) (inFlight7 1) = inFlight7 1) := by decide +kernel

/-- Roll 7 in flight at its last attempt, these lists waiting, each job linked. -/
def waitingLabels (last : Lane) (a b : List LabelJob) : State :=
  { printing7 with
    rku := { printing7.rku with history := [{ roll9 with number := 7 }, { roll9 with number := 8 }, roll9] }
    lbp := { printing7.lbp with inFlight := some ⟨jobOf 7 .a 3, 2⟩, lastGranted := last, listA := a, listB := b } }

theorem wit_PrintExchangeRuns_grants :
    (∀ last ∈ [Lane.a, .b], let s := waitingLabels last [jobOf 9 .a 3] [jobOf 8 .b 5];
      s.lbp.inFlight = some ⟨jobOf 7 .a 3, 2⟩ ∧ s.lbp.lastGranted = last ∧ (jobOf 9 .a 3).linked = true) ∧
    (0 : Byte) ≠ 1 ∧ (waitingLabels .a [] []).lbp.listA = [] ∧ (waitingLabels .a [jobOf 9 .a 3] []).lbp.listB = [] := by
  decide +kernel

/-- R168, R171, R172: after DONE and after a last FAULT the grant goes to the other lane, and to the same one where that
list is empty; the record of a linked job is PRINTING. -/
theorem wit_PrintExchangeRuns_next :
    (∀ i ∈ [Instr.printerDone (linkFrame 0x81 [41, 0]), .printerFault (linkFrame 0x82 [41, 2]), .labelTimeout],
      ((after i (waitingLabels .a [jobOf 9 .a 3] [jobOf 8 .b 5])).lbp.inFlight = some ⟨jobOf 8 .b 5, 1⟩ ∧
      (after i (waitingLabels .b [jobOf 9 .a 3] [jobOf 8 .b 5])).lbp.inFlight = some ⟨jobOf 9 .a 3, 1⟩ ∧
      (after i (waitingLabels .a [jobOf 9 .a 3] [])).lbp.inFlight = some ⟨jobOf 9 .a 3, 1⟩ ∧
      (after i (waitingLabels .a [jobOf 9 .a 3] [])).rku.history.map (·.label) =
        [if i = .printerDone (linkFrame 0x81 [41, 0]) then .done else .failed, .failed, .printing])) ∧
    (let s := waitingLabels .a [] []; after (.printerDone (linkFrame 0x81 [41, 1])) s = s) := by decide +kernel

/-! #### Invariants: one running state meets them all, with a command at the front of its queue -/

/-- Chapter 7's armed lane with a pulse to come. -/
def pulsing : State := { armed with pending := [.trimPulse 3] }

theorem wit_invariants_running :
    LineCoherent pulsing ∧ TrackCoherent pulsing ∧ TrimsBounded pulsing ∧ NipSafe pulsing ∧ LanesCoherent pulsing ∧
    QueuesBounded pulsing ∧ BatchesOrdered pulsing ∧ PrinterGranted pulsing ∧
    pulsing.tku.nextRepeat < 4294967295 ∧ step pulsing = .next { armed with pending := [] } := by
  refine ⟨?_, ?_, ?_, ?_, ?_, ?_, ?_, ?_, by decide, rfl⟩ <;>
    simp only [LineCoherent, TrimsBounded, NipSafe, LanesCoherent, LaneControl.coherent, QueuesBounded, BatchesOrdered,
      TrackCoherent, PrinterGranted] <;> decide +kernel

theorem wit_OutputStaysCoherent :
    EventsCoherent (busy pulsing) ∧ SenderNeverIdles (busy pulsing) ∧ SenderNeverIdles pulsing := by
  refine ⟨⟨by decide, by decide, by decide, by decide, by decide, ?_⟩, ?_, ?_⟩
  · intro i r h
    exact absurd (h.symm.trans ((by decide : ∀ i : Fin 4, (busy pulsing).evu.routes[i] = none) i)) nofun
  · intro h
    cases h
  · intro _
    refine ⟨rfl, fun _ n h => ?_⟩
    cases h

theorem wit_HeldWorkStaysCoherent : HeadWorkCoherent pulsing ∧ HeadWorkCoherent heldStop := by
  refine ⟨⟨by decide, by decide, fun c h => ?_, by decide, by decide⟩, ⟨by decide, by decide, fun c h => ?_,
    by decide, by decide⟩⟩ <;> cases h

end Sys2Proof.Tests
end

section
/-! The measurement of one slot (R91, R92, R103): what the settling of its samples makes of it, the average as the
exact mean rounded half up, and the statement about both. -/

namespace Sys2Proof.Machine

/-! ### Settling samples (R91, R92) -/

/-- The sums of a list of raw values, channel by channel (R103). -/
def channelSums (vs : List Rgb) : Rgb := ⟨(vs.map (·.r)).sum, (vs.map (·.g)).sum, (vs.map (·.b)).sum⟩

theorem Rgb.zero_plus (a : Rgb) : (⟨0, 0, 0⟩ : Rgb).plus a = a := by simp [Rgb.plus]

theorem Rgb.plus_channelSums_cons (a v : Rgb) (vs : List Rgb) :
    a.plus (channelSums (v :: vs)) = (a.plus v).plus (channelSums vs) := by
  simp [channelSums, Rgb.plus, Nat.add_assoc]

theorem Measurement.settle_of_good (b : Measurement) (e : Exchange) (v : Rgb) (h : e.answer = some (.good v)) :
    b.settle e = { b with exchange := none, taken := b.taken + 1, sums := b.sums.plus v } := by
  simp only [Measurement.settle, h]

theorem Measurement.settle_of_not_good (b : Measurement) (e : Exchange) (h : ∀ v, e.answer ≠ some (.good v)) :
    b.settle e = { b with exchange := none, taken := b.taken + 1, bad := true } := by
  unfold Measurement.settle
  split
  next v hv => exact absurd hv (h v)
  next => rfl
  next => rfl

/-- One bad sample is never forgotten: whatever is settled after it leaves the measurement bad. -/
theorem Measurement.settle_keeps_bad (b : Measurement) (e : Exchange) (h : b.bad = true) :
    (b.settle e).bad = true := by
  unfold Measurement.settle
  split
  next => exact h
  next => rfl
  next => rfl

theorem Measurement.foldl_settle_keeps_bad (es : List Exchange) (b : Measurement) (h : b.bad = true) :
    (es.foldl (fun x y => x.settle y) b).bad = true := by
  induction es generalizing b with
  | nil => exact h
  | cons e es ih => exact ih (b.settle e) (b.settle_keeps_bad e h)

/-- Good samples are counted and summed, and the rest of the measurement stands. -/
theorem Measurement.foldl_settle_of_good (e : Rgb → Exchange) (he : ∀ v, (e v).answer = some (.good v))
    (vs : List Rgb) (b : Measurement) (hb : b.exchange = none) :
    vs.foldl (fun x v => x.settle (e v)) b =
      { b with taken := b.taken + vs.length, sums := b.sums.plus (channelSums vs) } := by
  induction vs generalizing b with
  | nil => rfl
  | cons v vs ih =>
    rw [List.foldl_cons, b.settle_of_good (e v) v (he v), ih _ rfl, Rgb.plus_channelSums_cons, List.length_cons,
      Nat.add_right_comm, Nat.add_assoc, hb]

/-! ### The outcome (R92, R103) -/

theorem Smu.outcome_of_bad (m : Smu) (b : Measurement) (h : b.bad = true) : m.outcome b = none := if_pos h

theorem Smu.outcome_of_good (m : Smu) (b : Measurement) (h : b.bad = false) :
    m.outcome b = some (factorValues m.active[b.slot] b.sums b.k) := by
  simp [Smu.outcome, h]

/-! ### The average (R103) -/

theorem averageOf_zero (sum : Nat) : averageOf sum 0 = sum := rfl

theorem averageOf_of_pos (sum k : Nat) (hk : 1 ≤ k) : averageOf sum k = (sum + 2 ^ (k - 1)) / 2 ^ k :=
  if_neg (by omega)

/-- An average a of a sum over d samples is the exact mean sum / d rounded half up: a - 1/2 <= sum / d < a + 1/2. -/
def RoundsHalfUp (a sum d : Nat) : Prop := 2 * a * d ≤ 2 * sum + d ∧ 2 * sum < (2 * a + 1) * d

/-- Adding half of an even divisor before the division rounds half up. -/
theorem roundsHalfUp_add_half_div (sum half : Nat) (h : 0 < half) :
    RoundsHalfUp ((sum + half) / (2 * half)) sum (2 * half) := by
  have low := Nat.div_mul_le_self (sum + half) (2 * half)
  have high := Nat.lt_div_mul_add (a := sum + half) (b := 2 * half) (by omega)
  constructor
  · rw [Nat.mul_assoc]
    omega
  · rw [Nat.add_mul, Nat.mul_assoc]
    omega

theorem averageOf_roundsHalfUp (sum k : Nat) : RoundsHalfUp (averageOf sum k) sum (2 ^ k) := by
  cases k with
  | zero =>
    rw [averageOf_zero]
    constructor <;> omega
  | succ k =>
    rw [averageOf_of_pos sum (k + 1) (by omega), Nat.add_sub_cancel, Nat.pow_succ']
    exact roundsHalfUp_add_half_div sum (2 ^ k) (Nat.two_pow_pos k)

/-- The rounded mean of values that are at most c is at most c. -/
theorem RoundsHalfUp.le {a sum d c : Nat} (h : RoundsHalfUp a sum d) (hd : 0 < d) (hs : sum ≤ d * c) : a ≤ c := by
  have scaled : 2 * a * d ≤ (2 * c + 1) * d := by
    calc 2 * a * d ≤ 2 * sum + d := h.1
      _ ≤ 2 * (d * c) + d := by omega
      _ = (2 * c + 1) * d := by ring
  have := Nat.le_of_mul_le_mul_right scaled hd
  omega

/-- A channel of raw values: their sum is at most their number times the largest raw value. -/
theorem sum_map_le_length_mul (f : Rgb → Nat) (c : Nat) (vs : List Rgb) (h : ∀ v ∈ vs, f v ≤ c) :
    (vs.map f).sum ≤ vs.length * c := by
  simpa using List.sum_le_card_nsmul (vs.map f) c (by simpa using h)

/-- What R103 says of the sum and the average of one channel over 2^k raw values. -/
theorem averageOf_of_channel (sum k : Nat) (hk : k ≤ 4) (h : sum ≤ 2 ^ k * 4095) :
    sum ≤ 65520 ∧ averageOf sum k ≤ 4095 ∧ (k = 0 → averageOf sum k = sum) ∧
    (1 ≤ k → averageOf sum k = (sum + 2 ^ (k - 1)) / 2 ^ k) ∧
    2 * averageOf sum k * 2 ^ k ≤ 2 * sum + 2 ^ k ∧ 2 * sum < (2 * averageOf sum k + 1) * 2 ^ k := by
  have samples : 2 ^ k ≤ 2 ^ 4 := Nat.pow_le_pow_right (by omega) hk
  have rounds := averageOf_roundsHalfUp sum k
  refine ⟨by omega, rounds.le (Nat.two_pow_pos k) h, ?_, averageOf_of_pos sum k, rounds⟩
  rintro rfl
  exact averageOf_zero sum

/-! ### The statement -/

/-- Settles O41: the samples settled one by one give the channel sums, each sum's average is its mean rounded half
up, and a bad sample, once settled, stands till the outcome. -/
theorem averagesRoundHalfUp : Obligations.AveragesRoundHalfUp := by
  unfold Obligations.AveragesRoundHalfUp
  constructor
  · intro slot k user vs e m hk hlen hraw he
    rw [Measurement.foldl_settle_of_good e he vs _ rfl, Rgb.zero_plus, hlen]
    refine ⟨Nat.zero_add _, rfl, rfl, Smu.outcome_of_good m _ rfl, fun sum hsum => averageOf_of_channel sum k hk ?_⟩
    have channel (f : Rgb → Nat) (h : ∀ v ∈ vs, f v ≤ 4095) : (vs.map f).sum ≤ 2 ^ k * 4095 :=
      hlen ▸ sum_map_le_length_mul f 4095 vs h
    simp only [List.mem_cons, List.not_mem_nil, or_false] at hsum
    rcases hsum with rfl | rfl | rfl
    · exact channel (·.r) fun v hv => (hraw v hv).1
    · exact channel (·.g) fun v hv => (hraw v hv).2.1
    · exact channel (·.b) fun v hv => (hraw v hv).2.2
  · intro b before after e m hbad
    apply Smu.outcome_of_bad
    rw [List.foldl_append, List.foldl_cons]
    apply Measurement.foldl_settle_keeps_bad
    rw [Measurement.settle_of_not_good _ e hbad]

end Sys2Proof.Machine
end

section
/-! The shade mean of a roll (R130, R142): the sums that counting keeps, the mean as the exact mean rounded half up,
and the statement about both. -/

namespace Sys2Proof.Machine

/-! ### The mean (R142) -/

theorem RollCounts.mean_of_pos (c : RollCounts) (h : 0 < c.samples) :
    c.mean = some ⟨(c.sums.r + c.samples / 2) / c.samples, (c.sums.g + c.samples / 2) / c.samples,
      (c.sums.b + c.samples / 2) / c.samples⟩ :=
  if_neg (Nat.pos_iff_ne_zero.mp h)

theorem RollCounts.mean_of_no_samples (c : RollCounts) (h : c.samples = 0) : c.mean = none := if_pos h

/-- A roll with a mean has a sample. -/
theorem RollCounts.samples_pos_of_mean {c : RollCounts} {m : Rgb} (h : c.mean = some m) : 0 < c.samples := by
  by_contra hzero
  rw [c.mean_of_no_samples (by omega)] at h
  cases h

/-- Adding the floor of half the divisor before the division rounds half up, for an odd divisor too: twice the sum is
even there, so it never stands at the half itself. -/
theorem roundsHalfUp_add_div_two_div (sum d : Nat) (h : 0 < d) : RoundsHalfUp ((sum + d / 2) / d) sum d := by
  have low := Nat.div_mul_le_self (sum + d / 2) d
  have high := Nat.lt_div_mul_add (a := sum + d / 2) h
  constructor
  · rw [Nat.mul_assoc]
    omega
  · rw [Nat.add_mul, Nat.mul_assoc]
    omega

/-! ### Counting OK values (R130) -/

/-- The counts have gathered a list of shade values: its length and its sums, channel by channel. -/
def RollCounts.Gathers (c : RollCounts) (vs : List Rgb) : Prop := c.samples = vs.length ∧ c.sums = channelSums vs

/-- Each channel of a gathered roll's mean is the exact mean of the gathered values, rounded half up. -/
theorem RollCounts.Gathers.mean_roundsHalfUp {c : RollCounts} {vs : List Rgb} {m : Rgb} (hg : c.Gathers vs)
    (hm : c.mean = some m) :
    0 < vs.length ∧ RoundsHalfUp m.r (vs.map (·.r)).sum vs.length ∧ RoundsHalfUp m.g (vs.map (·.g)).sum vs.length ∧
      RoundsHalfUp m.b (vs.map (·.b)).sum vs.length := by
  obtain ⟨hlen, hsums⟩ := hg
  have hpos := samples_pos_of_mean hm
  rw [c.mean_of_pos hpos, hsums, hlen] at hm
  rw [hlen] at hpos
  cases hm
  exact ⟨hpos, roundsHalfUp_add_div_two_div _ _ hpos, roundsHalfUp_add_div_two_div _ _ hpos,
    roundsHalfUp_add_div_two_div _ _ hpos⟩

theorem channelSums_append (vs ws : List Rgb) : channelSums (vs ++ ws) = (channelSums vs).plus (channelSums ws) := by
  simp [channelSums, Rgb.plus]

theorem foldl_plus (vs : List Rgb) (a : Rgb) : vs.foldl Rgb.plus a = a.plus (channelSums vs) := by
  induction vs generalizing a with
  | nil => rfl
  | cons v vs ih => rw [List.foldl_cons, ih, Rgb.plus_channelSums_cons]

/-- Below the repeat limit a record adds the OK values of the roll's lane to what the counts have gathered. -/
theorem RollCounts.Gathers.add {c : RollCounts} {vs : List Rgb} (hg : c.Gathers vs) (l : Lane) (r : RepeatRecord)
    (h : c.repeats < 65535) : (c.add l r).Gathers (vs ++ laneShade l r) := by
  obtain ⟨hlen, hsums⟩ := hg
  have hbelow : c.repeats < Config.countLimit := h
  constructor
  · simp only [RollCounts.add, if_pos hbelow, hlen, List.length_append]
  · simp only [RollCounts.add, if_pos hbelow, hsums, foldl_plus, channelSums_append]

theorem laneOfSlot_eq_iff (n : Nat) (l : Lane) : laneOfSlot n = l ↔ (n < 3 ↔ l = .a) := by
  cases l <;> simp [laneOfSlot]

/-- The OK value of a shade entry whose slot stands over the lane: slots 0 to 2 over A, the others over B. -/
def ownOk (l : Lane) (e : ShadeEntry) : Option Rgb :=
  match e.reading with
  | .ok v => if (e.slot.val < 3 ↔ l = .a) then some v else none
  | .excursion _ | .invalid => none

theorem laneShade_eq_filterMap_ownOk (l : Lane) (r : RepeatRecord) :
    laneShade l r = (r.shade.getD []).filterMap (ownOk l) := by
  unfold laneShade
  congr 1
  funext e
  unfold ownOk
  cases e.reading with
  | ok v => exact if_congr (laneOfSlot_eq_iff _ _) rfl rfl
  | excursion _ => rfl
  | invalid => rfl

@[simp] theorem lane_onLane_same (l : Lane) (f : LaneControl → LaneControl) (s : State) :
    (s.onLane l f).lane l = f (s.lane l) := by cases l <;> rfl

@[simp] theorem lane_onTku (l : Lane) (f : Tku → Tku) (s : State) : (s.onTku f).lane l = s.lane l := rfl

theorem countRecord_lane_roll (l : Lane) (r : RepeatRecord) (o : OpenRoll) (s : State)
    (h : (s.lane l).roll = some o) : ((countRecord l r s).lane l).roll = some (o.add l r) := by
  simp only [countRecord, h, lane_onTku, lane_onLane_same]

/-! ### Calibrated values (R104) -/

theorem calibrated_le (a black gain : Nat) : calibrated a black gain ≤ 4095 := by
  unfold calibrated clampInt
  split
  next => omega
  next => split <;> omega

/-! ### The statement -/

/-- Settles O7: counting keeps the number and the sums of the OK values of the roll's own lane, and dividing such a
sum with half the number added rounds the exact mean half up. -/
theorem shadeMeanRoundsHalfUp : Obligations.ShadeMeanRoundsHalfUp := by
  unfold Obligations.ShadeMeanRoundsHalfUp
  intro gathered gathered_iff
  have gathers {c : RollCounts} {vs : List Rgb} : gathered c vs ↔ c.Gathers vs := gathered_iff c vs
  refine ⟨RollCounts.mean_of_pos, fun c vs m hg hm => ?_,
    fun f sums k => ⟨calibrated_le _ _ _, calibrated_le _ _ _, calibrated_le _ _ _⟩,
    fun l r o vs s hroll hg hbelow => ?_, fun c hc hs => ?_⟩
  · obtain ⟨hpos, hr, hgr, hb⟩ := (gathers.mp hg).mean_roundsHalfUp hm
    constructor
    · intro x hx
      simp only [List.mem_cons, List.not_mem_nil, or_false] at hx
      rcases hx with rfl | rfl | rfl
      exacts [hr, hgr, hb]
    · intro hvs
      have bound (f : Rgb → Nat) (h : ∀ v ∈ vs, f v ≤ 4095) : (vs.map f).sum ≤ vs.length * 4095 :=
        sum_map_le_length_mul f 4095 vs h
      exact ⟨hr.le hpos (bound (·.r) fun v hv => (hvs v hv).1), hgr.le hpos (bound (·.g) fun v hv => (hvs v hv).2.1),
        hb.le hpos (bound (·.b) fun v hv => (hvs v hv).2.2)⟩
  · refine ⟨o.add l r, countRecord_lane_roll l r o s hroll, gathers.mpr ?_⟩
    have counted := (gathers.mp hg).add l r hbelow
    rw [laneShade_eq_filterMap_ownOk] at counted
    exact counted
  · refine ⟨_, c.mean_of_pos (by omega), ?_⟩
    rw [hc, hs]

end Sys2Proof.Machine
end

section
/-! The batch distance (R154): the squares of the channel differences, the weighted and the plain sum, the integer
square root as the library's, when the batch of a one-batch table is the nearest, and the statement about them. -/

namespace Sys2Proof.Machine

/-! ### The square of a difference -/

@[simp] theorem cast_squareDiff (x r : Nat) : (squareDiff x r : Int) = ((x : Int) - r) ^ 2 := by
  rw [squareDiff, Nat.cast_pow, Int.natAbs_sq]

@[simp] theorem squareDiff_eq_zero_iff (x r : Nat) : squareDiff x r = 0 ↔ x = r := by
  unfold squareDiff
  rw [pow_eq_zero_iff two_ne_zero]
  omega

theorem squareDiff_le {x r c : Nat} (hx : x ≤ c) (hr : r ≤ c) : squareDiff x r ≤ c ^ 2 :=
  Nat.pow_le_pow_left (by omega) 2

/-! ### The weighted and the plain sum -/

theorem cast_distance2 (p : BatchParams) (x r : Rgb) : (distance2 p x r : Int) =
    p.wR * ((x.r : Int) - r.r) ^ 2 + p.wG * ((x.g : Int) - r.g) ^ 2 + p.wB * ((x.b : Int) - r.b) ^ 2 := by
  simp only [distance2, Nat.cast_add, Nat.cast_mul, cast_squareDiff]

theorem distance2_le {p : BatchParams} {x r : Rgb} {w c : Nat} (hwr : p.wR ≤ w) (hwg : p.wG ≤ w) (hwb : p.wB ≤ w)
    (hr : squareDiff x.r r.r ≤ c) (hg : squareDiff x.g r.g ≤ c) (hb : squareDiff x.b r.b ≤ c) :
    distance2 p x r ≤ w * c + w * c + w * c :=
  Nat.add_le_add (Nat.add_le_add (Nat.mul_le_mul hwr hr) (Nat.mul_le_mul hwg hg)) (Nat.mul_le_mul hwb hb)

theorem distance2_eq_zero_iff (p : BatchParams) (x r : Rgb) :
    distance2 p x r = 0 ↔ (p.wR = 0 ∨ x.r = r.r) ∧ (p.wG = 0 ∨ x.g = r.g) ∧ (p.wB = 0 ∨ x.b = r.b) := by
  simp only [distance2, Nat.add_eq_zero_iff, Nat.mul_eq_zero, squareDiff_eq_zero_iff, and_assoc]

/-- The sum of the squares with every channel weighted 1, against which unity weights of 16 test T² (R154). -/
def plainDistance2 (x r : Rgb) : Nat := squareDiff x.r r.r + squareDiff x.g r.g + squareDiff x.b r.b

theorem cast_plainDistance2 (x r : Rgb) : (plainDistance2 x r : Int) =
    ((x.r : Int) - r.r) ^ 2 + ((x.g : Int) - r.g) ^ 2 + ((x.b : Int) - r.b) ^ 2 := by
  simp only [plainDistance2, Nat.cast_add, cast_squareDiff]

theorem distance2_of_unity {p : BatchParams} (x r : Rgb) (hr : p.wR = 16) (hg : p.wG = 16) (hb : p.wB = 16) :
    distance2 p x r = 16 * plainDistance2 x r := by
  simp only [distance2, plainDistance2, hr, hg, hb, Nat.mul_add]

/-! ### The integer square root -/

/-- The root of `n` lies at `r` or above it by less than `b`. -/
def RootWithin (n r b : Nat) : Prop := r * r ≤ n ∧ n < (r + b) * (r + b)

theorem RootWithin.halve {n r b : Nat} (h : RootWithin n r (b + b)) : RootWithin n (sqrtBit n r b) b := by
  obtain ⟨below, above⟩ := h
  unfold sqrtBit
  split
  next fits => exact ⟨fits, by rwa [Nat.add_assoc]⟩
  next exceeds => exact ⟨below, Nat.lt_of_not_le exceeds⟩

/-- The first `k` powers of two, the greatest first: the bits of a root below `2 ^ k`. -/
def rootBits (k : Nat) : List Nat := (List.range k).reverse.map (2 ^ ·)

theorem rootBits_succ (k : Nat) : rootBits (k + 1) = 2 ^ k :: rootBits k := by
  simp [rootBits, List.range_succ]

theorem RootWithin.foldl_sqrtBit {n : Nat} (k : Nat) :
    ∀ {r : Nat}, RootWithin n r (2 ^ k) → RootWithin n ((rootBits k).foldl (sqrtBit n) r) 1 := by
  induction k with
  | zero => exact fun h => h
  | succ k ih =>
    intro r h
    rw [rootBits_succ, List.foldl_cons]
    rw [pow_succ, Nat.mul_two] at h
    exact ih h.halve

theorem sqrtFloor_eq_foldl (n : Nat) : sqrtFloor n = (rootBits 14).foldl (sqrtBit n) 0 := rfl

theorem sqrtFloor_eq_sqrt {n : Nat} (h : n < 2 ^ 28) : sqrtFloor n = n.sqrt := by
  rw [sqrtFloor_eq_foldl, Nat.eq_sqrt]
  exact RootWithin.foldl_sqrtBit 14 ⟨Nat.zero_le n, by omega⟩

theorem reportedDistance_eq_sqrt {d2 : Nat} (h : d2 < 2 ^ 32) : reportedDistance d2 = (d2 / 16).sqrt :=
  sqrtFloor_eq_sqrt (by omega)

theorem reportedDistance_sq_le {d2 : Nat} (h : d2 < 2 ^ 32) : reportedDistance d2 ^ 2 ≤ d2 / 16 := by
  rw [reportedDistance_eq_sqrt h]
  exact Nat.sqrt_le' _

theorem lt_succ_reportedDistance_sq {d2 : Nat} (h : d2 < 2 ^ 32) : d2 / 16 < (reportedDistance d2 + 1) ^ 2 := by
  rw [reportedDistance_eq_sqrt h]
  exact Nat.lt_succ_sqrt' _

theorem reportedDistance_le {d2 : Nat} (h : d2 ≤ 3219652800) : reportedDistance d2 ≤ 14185 := by
  rw [reportedDistance_eq_sqrt (by omega), ← Nat.lt_succ_iff, Nat.sqrt_lt]
  omega

/-! ### The batch that qualifies -/

theorem qualifies_iff (p : BatchParams) (x : Rgb) (b : Batch) :
    qualifies p x b = true ↔ distance2 p x b.reference ≤ 16 * p.tol ^ 2 := decide_eq_true_iff

theorem Btu.nearest_eq_some_of_singleton {t : Btu} {b : Batch} (x : Rgb) (hm : t.params.mode = .nearest)
    (hb : t.batches = [b]) : t.nearest x = some b ↔ qualifies t.params x b = true := by
  simp only [Btu.nearest, Btu.compared, hm, hb, List.foldl_cons, List.foldl_nil, nearerBatch]
  split
  next joins => exact iff_of_true rfl joins
  next misses => exact iff_of_false nofun misses

/-- Counting a take leaves the nearest batch, which the settings, the table and the sequence alone decide. -/
theorem takeCandidate_of_nearest {c : Candidate} {b : Batch} {s : State} (hp : s.btu.breakPending = false)
    (hb : s.btu.nearest c.mean = some b) :
    takeCandidate c s = joinBatch b c (s.onBtu fun t => { t with takes := t.takes + 1 }) := by
  have unbroken : (s.onBtu fun t => { t with takes := t.takes + 1 }).btu.breakPending = false := hp
  have counted : (s.onBtu fun t => { t with takes := t.takes + 1 }).btu.nearest c.mean = some b := hb
  simp only [takeCandidate, unbroken, counted, Bool.false_eq_true, if_false]

/-! ### The statement -/

/-- Settles O19: the distance is a weighted sum of squares and its root is the library's integer square root, so that
the bounds and the special cases are arithmetic, and a taken candidate's answer is that of the batch joined. -/
theorem batchDistanceQualifies : Obligations.BatchDistanceQualifies := by
  unfold Obligations.BatchDistanceQualifies
  constructor
  · intro p x r d2 hwr hwg hwb htol hxr hxg hxb hrr hrg hrb hd2
    have bound : d2 ≤ 3219652800 :=
      hd2 ▸ distance2_le hwr hwg hwb (squareDiff_le hxr hrr) (squareDiff_le hxg hrg) (squareDiff_le hxb hrb)
    have below : d2 < 2 ^ 32 := by omega
    have root_le := reportedDistance_sq_le below
    have lt_root := lt_succ_reportedDistance_sq below
    have tol_sq : p.tol ^ 2 ≤ 4095 ^ 2 := Nat.pow_le_pow_left htol 2
    refine ⟨hd2 ▸ cast_distance2 p x r, by omega, by omega, by omega, bound, below, by omega, ?nearest, ?unity,
      ?exact, ?unweighted, root_le, lt_root, reportedDistance_le bound⟩
    case nearest =>
      intro b t hparams hbatches href
      rw [Btu.nearest_eq_some_of_singleton x (by rw [hparams]) hbatches, qualifies_iff, hparams, href, hd2]
      rfl
    case unity =>
      intro hr hg hb
      have plain : d2 = 16 * plainDistance2 x r := hd2.trans (distance2_of_unity x r hr hg hb)
      have quotient : d2 / 16 = plainDistance2 x r := by omega
      rw [quotient] at root_le lt_root
      rw [← cast_plainDistance2]
      exact ⟨by rw [plain]; norm_cast; omega, by exact_mod_cast root_le, by exact_mod_cast lt_root⟩
    case exact =>
      intro htol
      rw [htol, hd2, ← distance2_eq_zero_iff]
      omega
    case unweighted =>
      intro hr hg hb
      have zero : d2 = 0 := hd2.trans ((distance2_eq_zero_iff p x r).mpr ⟨.inl hr, .inl hg, .inl hb⟩)
      exact ⟨zero, by omega⟩
  · intro c b s hp hb
    rw [takeCandidate_of_nearest hp hb]
    rfl

end Sys2Proof.Machine
end

section
/-! The invariants of Safety.lean, unit by unit, and `Core`: what a state property has to allow so that the operations
which several commands share keep it. Each unit has one field, for every change of that unit which does no harm to
what the invariants say of it; so the decomposition of a command is made once, for all the invariants. -/

namespace Sys2Proof.Machine

/-! ### The invariants, unit by unit -/

/-- What LineCoherent says of the Web Timebase (R3, R13). -/
def Wtb.Coherent (w : Wtb) : Prop :=
  (w.resumeArmed = true → w.line = .hold) ∧
  (w.line = .idle ∨ w.line = .thread → w.hw = w.wp ∧ w.newWeb = false) ∧
  (w.newWeb = true → w.hw = w.wp)

theorem lineCoherent_iff (s : State) : LineCoherent s ↔ s.wtb.Coherent := Iff.rfl

/-- What TrackCoherent says of the records and the cursors (R41, R43). -/
def Tku.Ordered (t : Tku) : Prop :=
  t.track.Pairwise (fun a b => a.number < b.number) ∧
  (∀ r ∈ t.blocks, r.number < t.nextRepeat) ∧
  (∀ d ∈ t.departed, ∀ r ∈ t.track, d.number ≠ r.number) ∧
  (∀ c ∈ [t.cursors.emboss, t.cursors.shade, t.cursors.knifeA, t.cursors.knifeB], ∀ n ∈ c,
    ∃ r ∈ t.track, r.number = n)

/-- A track without records and without splices (R47). -/
def Tku.Emptied (t : Tku) : Prop := t.blocks = [] ∧ t.splices = []

/-- A scanner that is OFF (R24, R27). -/
def Tku.Unscanned (t : Tku) : Prop := t.scanner = .off ∧ t.halfSeen = none ∧ t.coastCount = 0

theorem trackCoherent_iff (s : State) : TrackCoherent s ↔ s.tku.Ordered ∧
    (s.wtb.line = .idle ∨ s.wtb.line = .thread → s.tku.Emptied) ∧ (s.running = false → s.tku.Unscanned) := by
  simp only [TrackCoherent, Tku.Ordered, Tku.Emptied, Tku.Unscanned, and_assoc]

/-- What TrimsBounded says of an owed trim (R66). -/
def OwedOk (line : LineState) (n : Int) : Prop :=
  -Config.owedLimit ≤ n ∧ n ≤ Config.owedLimit ∧ (line = .idle ∨ line = .fault → n = 0)

theorem trimsBounded_iff (s : State) :
    TrimsBounded s ↔ ∀ c : Fin 9, OwedOk s.wtb.line s.rlu.channels[c].owed := Iff.rfl

/-- What NipSafe says of the emboss unit (R75, R81, R83). -/
def Epu.NipOk (e : Epu) (line : LineState) : Prop :=
  (e.npc = true → e.state = .engaged) ∧
  (e.state = .syncing ∨ e.state = .engaged → line = .run) ∧
  (e.closeTimer.isSome = true → e.state = .engaged ∧ e.nipConfirmed = false)

theorem nipSafe_iff (s : State) : NipSafe s ↔ s.epu.NipOk s.wtb.line := Iff.rfl

/-- What HeadWorkCoherent says of the measurement unit (R94, R111, R117, R122). -/
def Smu.HeadOk (m : Smu) (line : LineState) : Prop :=
  (m.standing.isSome = true → m.contexts = []) ∧
  (m.heldStops ≠ [] → m.spotInProgress.isSome = true ∧ m.contexts = []) ∧
  (∀ c, m.calRun = some c → c.todo ≠ [] ∧ line ≠ .run ∧ line ≠ .fault) ∧
  (∀ i : Fin 6, m.faults[i] < Config.headFaultLimit) ∧ m.drops ≤ 255

theorem headWorkCoherent_iff (s : State) : HeadWorkCoherent s ↔ s.smu.HeadOk s.wtb.line := Iff.rfl

/-- What LanesCoherent says of the roll unit (R126, R128). -/
def Rku.LanesOk (r : Rku) (running : Bool) : Prop := r.laneA.coherent running ∧ r.laneB.coherent running

theorem lanesCoherent_iff (s : State) : LanesCoherent s ↔ s.rku.LanesOk s.running := Iff.rfl

/-- What BatchesOrdered says of the batch table (R152). -/
def Btu.Ordered (b : Btu) : Prop :=
  b.batches.Pairwise (fun x y => x.sequence < y.sequence) ∧
  (∀ x ∈ b.batches, 1 ≤ x.sequence ∧ x.sequence < b.sequence ∧ 1 ≤ x.rolls) ∧ 1 ≤ b.sequence ∧ b.sequence ≤ 1000

theorem batchesOrdered_iff (s : State) : BatchesOrdered s ↔ s.btu.Ordered := Iff.rfl

/-- What PrinterGranted says of the label port (R168, R169). -/
def Lbp.Granted (b : Lbp) : Prop :=
  (b.inFlight = none → b.listA = [] ∧ b.listB = [] ∧ b.printing = none ∧ b.timer = none) ∧
  (b.printing.isSome = true → b.timer = none)

theorem printerGranted_iff (s : State) : PrinterGranted s ↔ s.lbp.Granted := Iff.rfl

/-- What EventsCoherent says of the event unit (R175, R176, R180, R181). -/
def Evu.Coherent (e : Evu) : Prop :=
  e.notices.Pairwise (fun a b => b.level ≤ a.level) ∧
  (∀ n ∈ e.notices, 1 ≤ n.level ∧ n.level ≤ 7) ∧
  (∀ i : Fin 31, e.levels[i] ≤ 7) ∧ e.floor ≤ 7 ∧ e.dropped ≤ 255 ∧
  (∀ (i : Fin 4) (r : Route), e.routes[i] = some r → 1 ≤ r.remaining ∧ r.remaining ≤ 255)

theorem eventsCoherent_iff (s : State) : EventsCoherent s ↔ s.evu.Coherent := Iff.rfl

/-! ### Harmless changes of a unit -/

/-- A change of the Track Unit by which no record joins: it keeps the order, and leaves an emptied track empty and an
unscanned one unscanned while no track runs. -/
structure TkuMove (running : Bool) (t t' : Tku) : Prop where
  ordered : t.Ordered → t'.Ordered
  emptied : running = false → t.Emptied → t'.Emptied
  unscanned : running = false → t.Unscanned → t'.Unscanned
  nextRepeat : t'.nextRepeat = t.nextRepeat
  length : t'.track.length ≤ t.track.length
  splices : t.splices.length ≤ 4 → t'.splices.length ≤ 4

/-- A change of the trims that keeps each bounded, and 0 in IDLE and FAULT. -/
def RluMove (line : LineState) (r r' : Rlu) : Prop :=
  ∀ c : Fin 9, OwedOk line r.channels[c].owed → OwedOk line r'.channels[c].owed

/-- A change of the measurement unit within the bounds of its queues. -/
structure SmuBounded (m m' : Smu) : Prop where
  contexts : m.contexts.length ≤ 4 → m'.contexts.length ≤ 4
  results : m.results.length ≤ 4 → m'.results.length ≤ 4

/-- A change of the measurement unit that keeps its work coherent. -/
structure SmuMove (line : LineState) (m m' : Smu) : Prop extends SmuBounded m m' where
  head : m.HeadOk line → m'.HeadOk line

/-- A change of the roll unit that keeps its lanes coherent and its history bounded. -/
structure RkuMove (running : Bool) (r r' : Rku) : Prop where
  lanes : r.LanesOk running → r'.LanesOk running
  history : r.history.length ≤ 64 → r'.history.length ≤ 64

/-- A change of the batch table by which no batch joins. -/
structure BtuMove (b b' : Btu) : Prop where
  ordered : b.Ordered → b'.Ordered
  length : b'.batches.length ≤ b.batches.length

/-- A change of the label port after which the grant logic has acted. -/
structure LbpMove (b b' : Lbp) : Prop where
  granted : b.Granted → b'.Granted
  listA : b.listA.length ≤ 4 → b'.listA.length ≤ 4
  listB : b.listB.length ≤ 4 → b'.listB.length ≤ 4

/-- A change of the event unit that leaves the notices and the floor. -/
structure EvuMove (e e' : Evu) : Prop where
  coherent : e.Coherent → e'.Coherent
  notices : e'.notices = e.notices
  floor : e'.floor = e.floor

/-- A change of the link on its receiving side. -/
structure SvlMove (v v' : Svl) : Prop where
  replies : v'.replies = v.replies
  sending : v'.sending = v.sending
  replied : v'.replied = v.replied
  input : v.input.length ≤ 4 → v'.input.length ≤ 4

/-- A property kept by the output of a notice or a reply, by the entry from RUN into HOLD, and by every harmless
change of a unit. -/
structure Core (P : State → Prop) : Prop where
  notice : ∀ ev p1 p2 t, P t → P (notice ev p1 p2 t)
  reply : ∀ r t, P t → P (pushReply r t)
  hold : ∀ armed t, t.wtb.line = .run → P t → P (enterHold armed t)
  wtb : ∀ t f, (f t.wtb).line = t.wtb.line → (t.wtb.Coherent → (f t.wtb).Coherent) → P t → P (t.onWtb f)
  tku : ∀ t f, TkuMove t.running t.tku (f t.tku) → P t → P (t.onTku f)
  rlu : ∀ t f, RluMove t.wtb.line t.rlu (f t.rlu) → P t → P (t.onRlu f)
  epu : ∀ t f, (t.epu.NipOk t.wtb.line → (f t.epu).NipOk t.wtb.line) → P t → P (t.onEpu f)
  smu : ∀ t f, SmuMove t.wtb.line t.smu (f t.smu) → P t → P (t.onSmu f)
  rku : ∀ t f, RkuMove t.running t.rku (f t.rku) → P t → P (t.onRku f)
  btu : ∀ t f, BtuMove t.btu (f t.btu) → P t → P (t.onBtu f)
  lbp : ∀ t f, LbpMove t.lbp (f t.lbp) → P t → P (t.onLbp f)
  evu : ∀ t f, EvuMove t.evu (f t.evu) → P t → P (t.onEvu f)
  svl : ∀ t f, SvlMove t.svl (f t.svl) → P t → P (t.onSvl f)
  pins : ∀ t f, P t → P (t.onPins f)

/-! ### Which changes are harmless -/

theorem Tku.Ordered.of_eq {t t' : Tku} (ht : t'.track = t.track) (hd : t'.departed = t.departed)
    (hn : t'.nextRepeat = t.nextRepeat) (hc : t'.cursors = t.cursors) (h : t.Ordered) : t'.Ordered := by
  simpa [Tku.Ordered, Tku.blocks, ht, hd, hn, hc] using h

/-- A change beside the records, the cursors, the splices and the scanner is harmless. -/
theorem TkuMove.of_eq {running : Bool} {t t' : Tku} (ht : t'.track = t.track) (hd : t'.departed = t.departed)
    (hn : t'.nextRepeat = t.nextRepeat) (hc : t'.cursors = t.cursors) (hs : t'.splices = t.splices)
    (hu : running = false → t.Unscanned → t'.Unscanned) : TkuMove running t t' where
  ordered := .of_eq ht hd hn hc
  emptied _ h := by simpa [Tku.Emptied, Tku.blocks, ht, hd, hs] using h
  unscanned := hu
  nextRepeat := hn
  length := by rw [ht]
  splices h := by rwa [hs]

/-- A change of the stations alone is harmless to the trims. -/
theorem RluMove.of_channels_eq {line : LineState} {r r' : Rlu} (h : r'.channels = r.channels) : RluMove line r r' :=
  fun c hc => by rwa [h]

/-- A change beside the contexts, the results, the held stops, the run and the counts is harmless. -/
theorem SmuMove.of_eq {line : LineState} {m m' : Smu} (hc : m'.contexts = m.contexts) (hs : m'.standing = m.standing)
    (hh : m'.heldStops = m.heldStops)
    (hr : m.results.length ≤ 4 → m'.results.length ≤ 4 := by exact id)
    (hp : m.spotInProgress.isSome = true → m'.spotInProgress.isSome = true := by exact id)
    (hcal : ∀ c, m'.calRun = some c → m.calRun = some c := by exact fun _ h => h)
    (hf : ∀ i : Fin 6, m.faults[i] < Config.headFaultLimit → m'.faults[i] < Config.headFaultLimit := by
      exact fun _ h => h)
    (hd : m.drops ≤ 255 → m'.drops ≤ 255 := by exact id) : SmuMove line m m' where
  contexts h := by rwa [hc]
  results := hr
  head h := by
    obtain ⟨h1, h2, h3, h4, h5⟩ := h
    exact ⟨by rwa [hs, hc], by rw [hh, hc]; exact fun h => ⟨hp (h2 h).1, (h2 h).2⟩, fun c h => h3 c (hcal c h),
      fun i => hf i (h4 i), hd h5⟩

/-- A change beside the rolls, the cuts and the states of the lanes is harmless. -/
theorem RkuMove.of_eq {running : Bool} {r r' : Rku} (ha : r'.laneA = r.laneA) (hb : r'.laneB = r.laneB)
    (hh : r'.history.length ≤ r.history.length) : RkuMove running r r' where
  lanes h := by rwa [Rku.LanesOk, ha, hb]
  history h := hh.trans h

/-- A change of one lane is harmless where it keeps that lane coherent. -/
theorem RkuMove.onLane {running : Bool} {r : Rku} {l : Lane} {f : LaneControl → LaneControl}
    (h : (r.lane l).coherent running → (f (r.lane l)).coherent running) : RkuMove running r (r.onLane l f) := by
  cases l
  · exact ⟨fun hr => ⟨h hr.1, hr.2⟩, fun hl => hl⟩
  · exact ⟨fun hr => ⟨hr.1, h hr.2⟩, fun hl => hl⟩

/-- A batch leaves the table. -/
theorem BtuMove.filter {b : Btu} (p : Batch → Bool) : BtuMove b { b with batches := b.batches.filter p } where
  ordered h := ⟨h.1.filter _, fun x hx => h.2.1 x (List.mem_filter.1 hx).1, h.2.2⟩
  length := List.length_filter_le ..

theorem Core.lane {P : State → Prop} (hP : Core P) (l : Lane) (f : LaneControl → LaneControl) (t : State)
    (h : (t.lane l).coherent t.running → (f (t.lane l)).coherent t.running) (ht : P t) : P (t.onLane l f) :=
  hP.rku t _ (.onLane h) ht

/-- A write of one unit's shadow of the line (settings, latches, the sampler) keeps what the line promises. -/
theorem Wtb.Coherent.of_eq {w w' : Wtb} (hr : w'.resumeArmed = w.resumeArmed) (hl : w'.line = w.line)
    (hh : w'.hw = w.hw) (hw : w'.wp = w.wp) (hn : w'.newWeb = w.newWeb) (h : w.Coherent) : w'.Coherent := by
  simpa [Wtb.Coherent, hr, hl, hh, hw, hn] using h

/-! ### An occurrence -/

theorem spotRefusal_none {t : State} (h : spotRefusal t = none) :
    t.smu.heldStops = [] ∧ t.smu.contexts.length < 4 := by
  unfold spotRefusal at h
  grind [Config.spotCapacity]

theorem triggerAnswer_queued {t : State} (h : triggerAnswer t = .queued) :
    t.smu.heldStops = [] ∧ t.smu.contexts.length < 4 := by
  unfold triggerAnswer at h
  grind [Config.spotCapacity]

theorem satInc_le (limit n : Nat) : satInc limit n ≤ limit := by unfold satInc; split <;> omega

section
variable {P : State → Prop} (hP : Core P)
include hP

theorem Core.noticeLineState (r : Reason) (t : State) (h : P t) : P (noticeLineState r t) := hP.notice _ _ _ _ h

theorem Core.answer (tag type : Byte) (st : Status) (fs : List Byte) (t : State) (h : P t) :
    P (answer tag type st fs t) := hP.reply _ _ h

/-- A context joins where the queue has room and no SPOT STOP is held. -/
theorem Core.joinSpot (c : SpotContext) (t : State) (hh : t.smu.heldStops = []) (hl : t.smu.contexts.length < 4)
    (h : P t) : P (joinSpot c t) := by
  refine hP.smu t _ ⟨⟨fun _ => by simp; omega, fun h => h⟩, fun ⟨_, _, h3, h4, h5⟩ => ⟨by simp, ?_, h3, h4, h5⟩⟩ h
  exact fun hne => absurd hh hne

theorem Core.spotTrigger (src : SpotSource) (t : State) (h : P t) : P (spotTrigger src t) := by
  unfold Machine.spotTrigger
  split
  next c ha _ => exact hP.joinSpot _ t (triggerAnswer_queued ha).1 (triggerAnswer_queued ha).2 h
  next => exact hP.smu t _ (.of_eq rfl rfl rfl (hd := fun _ => satInc_le ..)) h
  next => exact h
end
end Sys2Proof.Machine
end

section
/-! An occurrence keeps what Core allows: the route actions one by one, then `Core.raise`. -/

namespace Sys2Proof.Machine

/-- A change beside the emboss state, the nip and the close timer is harmless. -/
theorem Epu.NipOk.of_eq {line : LineState} {e e' : Epu} (hn : e'.npc = e.npc) (hs : e'.state = e.state)
    (hc : e'.closeTimer = e.closeTimer) (hf : e'.nipConfirmed = e.nipConfirmed) (h : e.NipOk line) :
    e'.NipOk line := by simpa [Epu.NipOk, hn, hs, hc, hf] using h

/-- A unit with NPC inactive and the close timer stopped is safe in every state but SYNCING and ENGAGED. -/
theorem Epu.NipOk.of_open {line : LineState} {e : Epu} (hn : e.npc = false) (hc : e.closeTimer = none)
    (h1 : e.state ≠ .syncing) (h2 : e.state ≠ .engaged) : e.NipOk line := by
  simp [Epu.NipOk, hn, hc, h1, h2]

/-- A unit out of step has NPC inactive, and the close timer stopped. -/
theorem Epu.NipOk.closed {line : LineState} {e : Epu} (h : e.NipOk line) (he : e.state ≠ .engaged) :
    e.npc = false ∧ e.closeTimer = none := by
  obtain ⟨hn, -, hc⟩ := h
  refine ⟨by simpa using mt hn he, ?_⟩
  by_contra h
  exact he (hc (by simpa [Option.isSome_iff_ne_none] using h)).1

/-- A slot's binding stays in range where the slot is unbound, or its count runs down. -/
theorem EvuMove.setRoute {e : Evu} (slot : Fin 4) (o : Option Route)
    (h : e.Coherent → ∀ r, o = some r → 1 ≤ r.remaining ∧ r.remaining ≤ 255) :
    EvuMove e { e with routes := e.routes.set slot o } where
  coherent he := by
    obtain ⟨h1, h2, h3, h4, h5, h6⟩ := id he
    refine ⟨h1, h2, h3, h4, h5, fun i r hr => ?_⟩
    by_cases hi : slot = i
    · subst hi
      exact h he r (by simpa using hr)
    · refine h6 i r ?_
      rwa [Fin.getElem_fin, Vector.getElem_set_ne _ _ (by simpa [Fin.ext_iff] using hi)] at hr
  notices := rfl
  floor := rfl

/-- A CUT that is taken leaves its lane coherent: the force flag is set in WINDING alone (R137). -/
theorem LaneControl.coherent_cut {k : LaneControl} {running : Bool} (h : k.coherent running) :
    LaneControl.coherent { k.forced with force := k.force || k.state == .winding } running := by
  simp only [LaneControl.coherent, LaneControl.forced, Option.isSome_map, Option.map_eq_none_iff] at h ⊢
  obtain ⟨h1, h2, h3, h4, h5, h6⟩ := h
  refine ⟨h1, h2, h3, h4, fun hf => ?_, h6⟩
  simp only [Bool.or_eq_true, beq_iff_eq] at hf
  exact hf.elim h5 id

section
variable {P : State → Prop} (hP : Core P)
include hP

/-- The emboss unit moves on where its nip stays safe. -/
theorem Core.enterSyncing (s : State) (hl : s.wtb.line = .run) (hs : s.epu.state ≠ .engaged) (h : P s) :
    P (enterSyncing s) := by
  refine hP.epu s _ (fun hn => ?_) h
  obtain ⟨h1, h2⟩ := hn.closed hs
  simp [Epu.NipOk, h1, h2, hl]

theorem Core.actOnReengage (s : State) (h : P s) : P (actOnReengage s) := by
  unfold Machine.actOnReengage
  split
  next hc =>
    obtain ⟨hs, -, hl, -⟩ := hc
    split
    · exact hP.enterSyncing s hl (by simp [hs]) h
    · exact hP.epu s _ (.of_eq rfl rfl rfl rfl) h
  next => exact h

theorem Core.enterReleasing (s : State) (h : P s) : P (enterReleasing s) := by
  unfold Machine.enterReleasing
  split
  · exact hP.epu s _ (fun _ => .of_open rfl rfl (by simp) (by simp)) h
  · exact hP.actOnReengage _ (hP.epu s _ (fun _ => .of_open rfl rfl (by simp) (by simp)) h)

/-- A unit in SYNCING leaves it for OPEN. -/
theorem Core.leaveSyncing (s : State) (f : Epu → Epu) (hs : s.epu.state = .syncing)
    (hf : (f s.epu).state = .opened ∧ (f s.epu).npc = s.epu.npc ∧ (f s.epu).closeTimer = s.epu.closeTimer)
    (h : P s) : P (s.onEpu f) := by
  refine hP.epu s f (fun hn => ?_) h
  obtain ⟨h1, h2⟩ := hn.closed (by simp [hs])
  exact .of_open (by simp [hf, h1]) (by simp [hf, h2]) (by simp [hf]) (by simp [hf])

theorem Core.leaveStep (s : State) (h : P s) : P (leaveStep s) := by
  unfold Machine.leaveStep
  split
  next hs => exact hP.leaveSyncing s _ hs ⟨rfl, rfl, rfl⟩ h
  next => exact hP.enterReleasing s h
  all_goals exact h

theorem Core.embossAtStop (s : State) (h : P s) : P (embossAtStop s) :=
  hP.leaveStep _ (hP.epu s _ (.of_eq rfl rfl rfl rfl) h)

theorem Core.releaseEmboss (s : State) (h : P s) : P (releaseEmboss s) := by
  have hr : P (s.onEpu (fun e => { e with reengage := false })) := hP.epu s _ (.of_eq rfl rfl rfl rfl) h
  unfold Machine.releaseEmboss
  dsimp only
  split
  next hs => exact hP.leaveSyncing _ _ hs ⟨rfl, rfl, rfl⟩ hr
  next => exact hP.enterReleasing _ hr
  all_goals exact hr

theorem Core.cutLane (l : Lane) (s : State) (h : P s) : P (cutLane l s) := by
  unfold Machine.cutLane
  split
  next => exact hP.lane l _ s LaneControl.coherent_cut h
  all_goals exact h

theorem Core.setBreak (s : State) (h : P s) : P (setBreak s) := hP.btu s _ ⟨id, le_rfl⟩ h

theorem Core.countRoute (slot : Fin 4) (s : State) (h : P s) : P (countRoute slot s) := by
  unfold Machine.countRoute
  split
  next => exact h
  next r hr =>
    split
    · exact hP.notice _ _ _ _ (hP.evu s _ (.setRoute slot none (by simp)) h)
    · refine hP.evu s _ (.setRoute slot _ ?_) h
      rintro ⟨-, -, -, -, -, h6⟩ _ ⟨⟩
      have := h6 slot r hr
      exact ⟨by simp; omega, by simp; omega⟩

/-- Resume is disarmed, in any line state. -/
theorem Core.disarm (s : State) (h : P s) : P (s.onWtb (fun w => { w with resumeArmed := false })) :=
  hP.wtb s _ rfl (fun ⟨_, h2, h3⟩ => ⟨by simp, h2, h3⟩) h

theorem Core.raise (ev : Event) (p1 p2 : Nat) (s : State) (h : P s) : P (raise ev p1 p2 s) :=
  raise_keeps P hP.notice
    (fun c t hr ht => hP.joinSpot c t (spotRefusal_none hr).1 (spotRefusal_none hr).2 ht)
    (fun _ t ht => hP.spotTrigger _ t ht) hP.cutLane (fun t hl ht => hP.hold _ t hl ht)
    (fun t _ ht => hP.disarm t ht) hP.releaseEmboss hP.setBreak hP.countRoute ev p1 p2 s h

theorem Core.runAction (slot : Fin 4) (action : RouteAction) (lanes : List Lane) (s : State) (h : P s) :
    P (runAction slot action lanes s).state := by
  have hFold : ∀ (ls : List Lane) (t : State), P t → P (ls.foldl (fun t l => Machine.cutLane l t) t) := by
    intro ls
    induction ls with
    | nil => exact fun t ht => ht
    | cons l ls ih => exact fun t ht => ih _ (hP.cutLane l t ht)
  cases action with
  | spot t =>
    cases t with
    | none => exact hP.spotTrigger _ s h
    | some t =>
      simp only [Machine.runAction]
      split
      next hr _ => exact hP.joinSpot _ s (spotRefusal_none hr).1 (spotRefusal_none hr).2 h
      next => exact h
  | cut t =>
    cases t with
    | lane l => exact hP.cutLane l s h
    | event => exact hFold lanes s h
  | holdLine =>
    simp only [Machine.runAction]
    split
    next hl => exact hP.hold _ s hl h
    next => exact hP.disarm s h
    all_goals exact h
  | releaseEmboss =>
    simp only [Machine.runAction]
    split
    · exact hP.releaseEmboss s h
    · exact hP.releaseEmboss s h
    all_goals exact h
  | newBatch => exact hP.setBreak s h

theorem Core.finishAction (slot : Fin 4) (held : Bool) (s : State) (h : P s) : P (finishAction slot held s) := by
  unfold Machine.finishAction
  dsimp only
  split
  · exact hP.noticeLineState _ _ (hP.countRoute slot s h)
  · exact hP.countRoute slot s h
end
end Sys2Proof.Machine
end

section
/-! Head work: the ending of spots, scans and the calibration run, and the turns of the arbiter, over `HeadClosed`: what
a property has to allow so that they keep it. -/

namespace Sys2Proof.Machine

/-- A property kept by an occurrence, a reply, every harmless change of the measurement unit, whatever the line state,
and the abandoning of the spot in progress. -/
structure HeadClosed (P : State → Prop) : Prop where
  raise : ∀ ev p1 p2 t, P t → P (raise ev p1 p2 t)
  reply : ∀ r t, P t → P (pushReply r t)
  smu : ∀ t f, (∀ line, SmuMove line t.smu (f t.smu)) → P t → P (t.onSmu f)
  abandon : ∀ c t, t.smu.spotInProgress = some c → P t → P (abandonSpot c t)

/-- What is taken out of a list leaves one context less. -/
theorem takeFirst_some {p : SpotContext → Bool} {cs rest : List SpotContext} {c : SpotContext}
    (h : takeFirst p cs = some (c, rest)) : cs ≠ [] ∧ rest.length + 1 = cs.length := by
  induction cs generalizing rest with
  | nil => simp [takeFirst] at h
  | cons x xs ih =>
    unfold takeFirst at h
    split at h
    · simp_all
    · simp only [Option.map_eq_some_iff, Prod.exists, Prod.mk.injEq] at h
      obtain ⟨c', rest', h, rfl, rfl⟩ := h
      simp [(ih h).2]

/-- A context that is taken from the queue may be consumed (R111). -/
theorem SmuMove.consume {line : LineState} {m : Smu} {c : SpotContext} {rest : List SpotContext} (hne : m.contexts ≠ [])
    (hl : rest.length ≤ m.contexts.length) : SmuMove line m (m.consume c rest) where
  contexts h := hl.trans h
  results := id
  head h := by
    obtain ⟨h1, h2, h3, h4, h5⟩ := h
    have hs : m.standing = none := by simpa [hne] using h1
    have hh : m.heldStops = [] := by
      by_contra hh
      exact hne (h2 hh).2
    refine ⟨?_, by simp [Smu.consume, hh], h3, h4, h5⟩
    simp only [Smu.consume]
    split <;> simp_all

/-- No spot is in progress while the bus is not held by one. -/
theorem Smu.spotInProgress_of_scan {m : Smu} {b : Measurement} {r p : Nat} (hb : m.bus = some b)
    (hu : b.user = .scan r p) : m.spotInProgress = none := by simp [Smu.spotInProgress, hb, hu]
theorem Smu.spotInProgress_of_cal {m : Smu} {b : Measurement} (hb : m.bus = some b) (hu : b.user = .cal) :
    m.spotInProgress = none := by simp [Smu.spotInProgress, hb, hu]

/-- The bus may be freed where no spot holds it. -/
theorem SmuMove.dropBus {line : LineState} {m : Smu} (h : m.spotInProgress = none) :
    SmuMove line m { m with bus := none } := .of_eq rfl rfl rfl (hp := by simp [h])

section
variable {P : State → Prop} (hP : HeadClosed P)
include hP

theorem HeadClosed.offerResult (r : SpotResult) (s : State) (h : P s) : P (offerResult r s) := by
  unfold Machine.offerResult
  refine hP.raise _ _ _ _ ?_
  split
  next hl => exact hP.smu s _ (fun _ => .of_eq rfl rfl rfl (by simp [Config.resultCapacity] at hl ⊢; omega)) h
  next =>
    split
    · split
      next old rest hr => exact hP.raise _ _ _ _ (hP.smu s _ (fun _ => .of_eq rfl rfl rfl (by simp [hr])) h)
      next => exact h
    · exact hP.raise _ _ _ _ h

theorem HeadClosed.endSpot (c : SpotContext) (st : SpotStatus) (s : State) (h : P s) : P (endSpot c st s) :=
  hP.offerResult _ s h

theorem HeadClosed.missPending (p : SpotContext → Bool) (fuel : Nat) (s : State) (h : P s) :
    P (missPending p fuel s) := by
  induction fuel generalizing s with
  | zero => exact h
  | succ n ih =>
    unfold Machine.missPending
    split
    next => exact h
    next c rest ht =>
      obtain ⟨hne, hl⟩ := takeFirst_some ht
      exact ih _ (hP.endSpot c _ _ (hP.smu s _ (fun _ => .consume hne (by omega)) h))

theorem HeadClosed.missAll (p : SpotContext → Bool) (s : State) (h : P s) : P (missAll p s) :=
  hP.missPending p _ s h

theorem HeadClosed.applyStaged (slot : Fin 6) (s : State) (h : P s) : P (applyStaged slot s) := by
  unfold Machine.applyStaged
  split
  · exact h
  · exact hP.smu s _ (fun _ => .of_eq rfl rfl rfl) h

theorem HeadClosed.dropBus (s : State) (hs : s.smu.spotInProgress = none) (h : P s) : P (dropBus s) :=
  hP.smu s _ (fun _ => .dropBus hs) h

theorem HeadClosed.abandonSpotIf (p : SpotContext → Bool) (s : State) (h : P s) : P (abandonSpotIf p s) := by
  unfold Machine.abandonSpotIf
  split
  next c hc =>
    split
    · exact hP.abandon c s hc h
    · exact h
  next => exact h

theorem HeadClosed.dropScanMeasurement (s : State) (h : P s) : P (dropScanMeasurement s) := by
  unfold Machine.dropScanMeasurement
  split
  next b hb =>
    split
    next hu => exact hP.applyStaged _ _ (hP.dropBus s (Smu.spotInProgress_of_scan hb hu) h)
    all_goals exact h
  next => exact h

theorem HeadClosed.abandonScans (s : State) (h : P s) : P (abandonScans s) :=
  hP.smu _ _ (fun _ => .of_eq rfl rfl rfl) (hP.dropScanMeasurement s h)

/-- The run leaves, and its measurement the bus, before CAL-DONE is raised. -/
theorem HeadClosed.endCalibrationEarly (s : State) (h : P s) : P (endCalibrationEarly s) := by
  unfold Machine.endCalibrationEarly
  split
  next => exact h
  next c hc =>
    have hr : P (s.onSmu (fun m => { m with calRun := none })) := hP.smu s _ (fun _ => .of_eq rfl rfl rfl (hcal := by simp)) h
    refine hP.raise _ _ _ _ ?_
    split
    next b hb =>
      split
      next hu => exact hP.applyStaged _ _ (hP.dropBus _ (Smu.spotInProgress_of_cal hb hu) hr)
      all_goals exact hr
    next => exact hr

theorem HeadClosed.shadeAtStop (s : State) (h : P s) : P (shadeAtStop s) :=
  hP.missAll _ _ (hP.abandonSpotIf _ _ (hP.abandonScans s h))

theorem HeadClosed.shadeAtRecover (s : State) (h : P s) : P (shadeAtRecover s) := hP.missAll _ s h

theorem HeadClosed.shadeAtFault (s : State) (h : P s) : P (shadeAtFault s) :=
  hP.endCalibrationEarly _ (hP.abandonSpotIf _ _ (hP.abandonScans s h))

/-- Pending and standing contexts leave without results. -/
theorem HeadClosed.emptySpots (s : State) (h : P s) :
    P (s.onSmu (fun m => { m with contexts := [], standing := none })) := by
  refine hP.smu s _ (fun _ => ⟨⟨by simp, id⟩, fun ⟨_, h2, h3, h4, h5⟩ => ⟨by simp, fun hh => ⟨?_, rfl⟩, h3, h4, h5⟩⟩) h
  exact (h2 hh).1

theorem HeadClosed.shadeAtEnd (s : State) (h : P s) : P (shadeAtEnd s) :=
  hP.emptySpots _ (hP.abandonSpotIf _ s h)

/-! ### The shade and knife points -/

omit hP in
/-- Contexts changed one by one stay as many. -/
theorem SmuMove.mapContexts {line : LineState} {m : Smu} (g : SpotContext → SpotContext) :
    SmuMove line m { m with contexts := m.contexts.map g } where
  contexts h := by simpa using h
  results := id
  head h := by
    obtain ⟨h1, h2, h3, h4, h5⟩ := h
    exact ⟨by simpa using h1, by simp only [ne_eq, List.map_eq_nil_iff]; exact h2, h3, h4, h5⟩

theorem HeadClosed.raiseOverrun (c : Scan) (left : Bool) (s : State) (h : P s) : P (raiseOverrun c left s) := by
  unfold Machine.raiseOverrun
  split
  · exact hP.raise _ _ _ _ h
  · exact h

theorem HeadClosed.settleScan (s : State) (h : P s) : P (settleScan s) := by
  unfold Machine.settleScan
  split
  · exact h
  · split
    · exact hP.smu s _ (fun _ => .of_eq rfl rfl rfl) h
    · exact hP.raiseOverrun _ _ _ (hP.smu s _ (fun _ => .of_eq rfl rfl rfl) h)

theorem HeadClosed.cutScanShort (n : Nat) (s : State) (h : P s) : P (cutScanShort n s) := by
  have hFold : ∀ (running : Bool) (cs : List Scan) (t : State), P t →
      P (cs.foldl (fun t c => Machine.raiseOverrun c (c.leftSlots running t.smu) t) t) := by
    intro running cs
    induction cs with
    | nil => exact fun t ht => ht
    | cons c cs ih => exact fun t ht => ih _ (hP.raiseOverrun c _ t ht)
  unfold Machine.cutScanShort
  refine hFold _ _ _ (hP.smu _ _ (fun _ => .of_eq rfl rfl rfl) ?_)
  split
  · exact hP.dropScanMeasurement s h
  · exact h

theorem HeadClosed.shadeAtKnife (n : Nat) (s : State) (h : P s) : P (shadeAtKnife n s) :=
  hP.cutScanShort n _ (hP.abandonSpotIf _ _ (hP.missAll _ s h))

/-! ### The arbiter -/

omit hP in
/-- A measurement may take a bus that no spot holds. -/
theorem SmuMove.sendSample {line : LineState} {m : Smu} (b : Measurement)
    (h : m.spotInProgress.isSome = true → ∃ c, b.user = .spot c) : SmuMove line m (Machine.sendSample b m) := by
  refine .of_eq rfl rfl rfl (hp := fun hs => ?_)
  obtain ⟨c, hc⟩ := h hs
  simp [Smu.spotInProgress, Machine.sendSample, hc]

theorem HeadClosed.beginMeasurement (slot : Fin 6) (k : Nat) (user : BusUser) (s : State) (hb : s.smu.bus = none)
    (h : P s) : P (beginMeasurement slot k user s) :=
  hP.smu s _ (fun _ => .sendSample _ (by simp [Smu.spotInProgress, hb])) h

theorem HeadClosed.scanTurn (s : State) (hb : s.smu.bus = none) (h : P s) : P (scanTurn s) := by
  unfold Machine.scanTurn
  split
  · exact h
  · split
    · exact hP.smu s _ (fun _ => .of_eq rfl rfl rfl) h
    · split
      · exact hP.smu s _ (fun _ => .of_eq rfl rfl rfl) h
      · exact hP.beginMeasurement _ _ _ _ hb (hP.smu s _ (fun _ => .of_eq rfl rfl rfl) h)

omit hP in
theorem offerResult_bus (r : SpotResult) (s : State) : (offerResult r s).smu.bus = s.smu.bus := by
  unfold Machine.offerResult
  rw [raise_smu_bus]
  split
  · rfl
  · split
    · split <;> simp
    · simp

omit hP in
theorem endSpot_bus (c : SpotContext) (st : SpotStatus) (s : State) : (endSpot c st s).smu.bus = s.smu.bus :=
  offerResult_bus _ s

theorem HeadClosed.spotTurn (fuel : Nat) (s : State) (hb : s.smu.bus = none) (h : P s) : P (spotTurn fuel s) := by
  induction fuel generalizing s with
  | zero => exact h
  | succ n ih =>
    unfold Machine.spotTurn
    split
    · split
      next => exact hP.scanTurn s hb h
      next c rest ht =>
        obtain ⟨hne, hl⟩ := takeFirst_some ht
        have hc : P (s.onSmu (fun m => m.consume c rest)) := hP.smu s _ (fun _ => .consume hne (by omega)) h
        dsimp only
        split
        · exact hP.beginMeasurement _ _ _ _ hb hc
        · exact ih _ ((endSpot_bus ..).trans hb) (hP.endSpot c _ _ hc)
    · exact hP.scanTurn s hb h

theorem HeadClosed.arbitrate (s : State) (hb : s.smu.bus = none) (h : P s) : P (arbitrate s) := by
  unfold Machine.arbitrate
  split
  · exact hP.beginMeasurement _ _ _ s hb h
  · exact hP.spotTurn _ s hb h
end
end Sys2Proof.Machine
end

section
/-! `Closed`: Core, and what a property has to allow at the transitions of the line and at the few operations that
leave a unit incoherent on their way. Then the commands, unit by unit: the line, the trims and the emboss unit. -/

namespace Sys2Proof.Machine

/-- The new batch of a roll has joined the table and the counter has advanced (R157). -/
def appendBatch (c : Candidate) (s : State) : State :=
  s.onBtu (fun b => { b with
    batches := b.batches ++ [firstEntry c b], sequence := b.sequence + 1, breakPending := false })

/-- A property that the operations keep which leave the line state to the route actions: Core, the abandoning of the
spot in progress, and a new batch. -/
structure Work (P : State → Prop) : Prop extends Core P where
  abandon : ∀ c t, t.smu.spotInProgress = some c → P t → P (abandonSpot c t)
  append : ∀ c t, t.btu.sequence ≤ 999 → P t → P (appendBatch c (displaceBatch t))

/-- A property that every command but the creation of a record keeps. -/
structure Closed (P : State → Prop) : Prop extends Work P where
  fault : ∀ t, t.wtb.line ≠ .idle → P t → P (enterFault t)
  run : ∀ r t, t.wtb.line = .hold → P t → P (enterRun r t)
  opened : ∀ t, t.wtb.line = .idle → P t → P (openBlocks (enterThread t))
  started : ∀ t, t.wtb.line = .thread → P t → P (enterRunning (startTrack t))
  stopped : ∀ t, t.running = true → P t → P (stopBlocks (enterThread t))
  ended : ∀ t, t.wtb.line = .thread → P t → P (endBlocks (enterIdle t))
  recovered : ∀ t, t.wtb.line = .fault → P t → P (recoverBlocks (enterThread t))
  powerOn : ∀ t, P t → P (powerOnState t)
  returned : ∀ t, P t → P (resetReturn t)
  sent : ∀ t, P t → P (pump (t.onSvl (fun v => { v with sending := none })))
  lowered : ∀ tag fs n t, n ≤ 7 → P t →
    P (pump (answer tag 0x51#8 .ok fs (t.onEvu (fun e => { e with floor := n }))))
  cleared : ∀ tag fs p t, P t →
    P (answer tag 0x52#8 .ok fs (t.onEvu (fun e => { e with notices := e.notices.filter p })))

theorem Work.head {P : State → Prop} (hP : Work P) : HeadClosed P where
  raise := hP.toCore.raise
  reply := hP.reply
  smu t f h := hP.smu t f (h _)
  abandon := hP.abandon

/-! ### The harmless changes of the trims -/

/-- The owed trims after a change of one channel. -/
theorem RluMove.onChannel {line : LineState} {r : Rlu} {c : Fin 9} {f : TrimChannel → TrimChannel}
    (h : OwedOk line r.channels[c].owed → OwedOk line (f r.channels[c]).owed) :
    RluMove line r (r.onChannel c f) := by
  intro d hd
  by_cases hcd : c = d
  · subst hcd
    simpa [Rlu.onChannel] using h hd
  · simpa [Rlu.onChannel, Vector.getElem_set_ne _ _ (by simpa [Fin.ext_iff] using hcd : c.val ≠ d.val)] using hd

theorem clampInt_bounds {x a b : Int} (h : a ≤ b) : a ≤ clampInt x a b ∧ clampInt x a b ≤ b := by
  unfold clampInt
  split
  · omega
  · split <;> omega

/-- An owed trim of 0 is in order in every line state. -/
theorem owedOk_zero (line : LineState) : OwedOk line 0 := by simp [OwedOk, Config.owedLimit]

/-- An owed trim within its bounds is in order where the line is neither in IDLE nor in FAULT. -/
theorem OwedOk.of_bounds {line : LineState} {n : Int} (h1 : -Config.owedLimit ≤ n) (h2 : n ≤ Config.owedLimit)
    (hi : line ≠ .idle) (hf : line ≠ .fault) : OwedOk line n := ⟨h1, h2, by simp [hi, hf]⟩

section
variable {P : State → Prop} (hP : Core P)
include hP

/-! ### Room in the batch table -/

theorem Core.displaceBatch (s : State) (h : P s) : P (displaceBatch s) := by
  unfold Machine.displaceBatch
  split
  · exact h
  · split
    · exact h
    · exact hP.raise _ _ _ _ (hP.btu s _ (.filter _) h)

/-! ### The Register Loop Unit -/

/-- A change of the stations alone. -/
theorem Core.stations (f : Rlu → Rlu) (s : State) (hf : (f s.rlu).channels = s.rlu.channels) (h : P s) :
    P (s.onRlu f) := hP.rlu s f (.of_channels_eq hf) h

theorem Core.addOwed (c : Fin 9) (amount : Int) (number : Nat) (s : State) (hi : s.wtb.line ≠ .idle)
    (hf : s.wtb.line ≠ .fault) (h : P s) : P (addOwed c amount number s) := by
  have hb := clampInt_bounds (x := s.rlu.channels[c].owed + amount) (a := -Config.owedLimit) (b := Config.owedLimit)
    (by simp [Config.owedLimit])
  have hk := hP.rlu s (fun r => r.onChannel c (fun ch => { ch with
    owed := clampInt (s.rlu.channels[c].owed + amount) (-Config.owedLimit) Config.owedLimit }))
    (.onChannel fun _ => .of_bounds hb.1 hb.2 hi hf) h
  unfold Machine.addOwed
  dsimp only
  split
  · exact hk
  · exact hP.raise _ _ _ _ hk

theorem Core.loadAutoSettles (s : State) (h : P s) : P (loadAutoSettles s) := hP.stations _ s rfl h

theorem Core.countOutOfTolerance (k : Fin 8) (n : Nat) (rd : RegReading) (s : State) (h : P s) :
    P (countOutOfTolerance k n rd s) := by
  unfold Machine.countOutOfTolerance
  split
  · exact h
  · exact hP.stations _ s rfl h
  · dsimp only
    split
    · exact hP.raise _ _ _ _ (hP.stations _ s rfl h)
    · exact hP.stations _ s rfl h

theorem Core.countMissing (k : Fin 8) (n : Nat) (rd : RegReading) (s : State) (h : P s) :
    P (countMissing k n rd s) := by
  unfold Machine.countMissing
  split
  · exact hP.stations _ s rfl h
  · split
    · exact hP.stations _ s rfl h
    · exact hP.stations _ _ rfl (hP.raise _ _ _ _ (hP.stations _ s rfl h))

theorem Core.stationLoop (k : Fin 8) (n : Nat) (rd : RegReading) (s : State) (h : P s) :
    P (stationLoop k n rd s) := by
  unfold Machine.stationLoop
  dsimp only
  split
  next => exact h
  next hl =>
    have hr : s.wtb.line = .run := by_contra fun hc => hl (.inl hc)
    split
    · exact hP.stations _ s rfl h
    · split
      · exact h
      · split
        · exact h
        · split
          · exact h
          · exact hP.stations _ _ rfl (hP.addOwed _ _ _ s (by simp [hr]) (by simp [hr]) h)

theorem Core.dropAllAuto (s : State) (h : P s) : P (dropAllAuto s) := hP.stations _ s rfl h

theorem Core.zeroTrims (s : State) (h : P s) : P (zeroTrims s) := by
  refine hP.rlu s _ (fun c _ => ?_) h
  simpa using owedOk_zero _

/-! ### The Emboss Phase Unit -/

/-- A change beside the emboss state, the nip and the close timer. -/
theorem Core.embossBeside (f : Epu → Epu) (s : State) (h : P s) (hn : (f s.epu).npc = s.epu.npc := by rfl)
    (hs : (f s.epu).state = s.epu.state := by rfl) (hc : (f s.epu).closeTimer = s.epu.closeTimer := by rfl)
    (hf : (f s.epu).nipConfirmed = s.epu.nipConfirmed := by rfl) : P (s.onEpu f) :=
  hP.epu s f (.of_eq hn hs hc hf) h

theorem Core.embossOut (reason number : Nat) (s : State) (h : P s) : P (embossOut reason number s) :=
  hP.enterReleasing _ (hP.embossBeside _ _ (hP.raise _ _ _ s h))

theorem Core.embossNip (reason : Nat) (s : State) (h : P s) : P (embossNip reason s) :=
  hP.enterReleasing _ (hP.embossBeside _ _ (hP.raise _ _ _ s h))

/-- The close timer runs from the entry into ENGAGED until the nip is confirmed (R80, R81). -/
theorem Core.enterEngaged (pe : Pos) (number : Nat) (s : State) (hs : s.epu.state = .syncing) (h : P s) :
    P (enterEngaged pe number s) := by
  refine hP.raise _ _ _ _ (hP.epu s _ (fun hn => ?_) h)
  obtain ⟨-, hr, -⟩ := hn
  refine ⟨fun _ => rfl, fun _ => hr (.inl hs), ?_⟩
  cases s.nipClosed <;> simp

theorem Core.embossController (pe : Pos) (phase : Option PhaseRegister) (s : State) (h : P s) :
    P (embossController pe phase s) := by
  unfold Machine.embossController
  split
  next hs =>
    split
    · split
      · exact hP.embossBeside _ s h
      · exact hP.enterEngaged _ _ s hs h
    · exact hP.embossBeside _ s h
  next => exact hP.embossBeside _ s h
  next =>
    split
    · exact hP.embossOut _ _ s h
    · exact hP.embossBeside _ s h
  next => exact hP.embossOut _ _ s h
  all_goals exact h

theorem Core.embossLoop (phase : Option PhaseRegister) (s : State) (h : P s) : P (embossLoop phase s) := by
  unfold Machine.embossLoop
  split
  next => exact h
  next p =>
    split
    next => exact h
    next hl =>
      have hr : s.wtb.line = .run := by_contra fun hc => hl (.inl hc)
      split
      · exact hP.embossBeside _ s h
      · split
        · exact h
        · dsimp only
          split
          · exact h
          · exact hP.embossBeside _ _ (hP.addOwed _ _ _ s (by simp [hr]) (by simp [hr]) h)

theorem Core.recordPhase (phase : Option PhaseRegister) (s : State) (h : P s) : P (recordPhase phase s) := by
  unfold Machine.recordPhase
  split <;> exact hP.embossBeside _ s h

theorem Core.workIndex (s : State) (h : P s) : P (workIndex s) := by
  have hc := hP.embossController s.wtb.wp (s.phaseAt s.wtb.wp) _ (hP.recordPhase (s.phaseAt s.wtb.wp) s h)
  unfold Machine.workIndex
  dsimp only
  split
  · exact hc
  · exact hP.embossLoop _ _ hc

theorem Core.readEix (e : Bool) (s : State) (h : P s) : P (readEix e s) := by
  have hn : P (s.onPins (fun p => { p with eix := e })) := hP.pins s _ h
  obtain ⟨hr, -⟩ | ⟨hr, -⟩ | ⟨hr, -⟩ := readEix_cases e s
  · rwa [hr]
  · rw [hr]
    exact hP.embossBeside _ _ hn
  · rw [hr]
    exact hP.workIndex _ (hP.embossBeside _ _ hn)

theorem Core.lossTest (s : State) (h : P s) : P (lossTest s) := by
  unfold Machine.lossTest
  split
  · split
    · exact hP.embossOut _ _ s h
    · exact h
  · exact h

theorem Core.nipSeenOpen (s : State) (h : P s) : P (nipSeenOpen s) := by
  have hw : P (s.onEpu (fun e => { e with releaseWatch := none })) := hP.embossBeside _ s h
  unfold Machine.nipSeenOpen
  dsimp only
  split
  next hs =>
    refine hP.actOnReengage _ (hP.epu _ _ (fun hn => ?_) hw)
    obtain ⟨h1, h2⟩ := hn.closed (by simp_all)
    exact .of_open h1 h2 (by simp) (by simp)
  next => exact hw

/-- NPF_CLOSED stops the close timer where it confirms the nip. -/
theorem Core.npfClosed (s : State) (h : P s) {t : State} (ht : execNpfClosed s = .next t) : P t := by
  obtain rfl := Host.Outcome.next.inj ht
  have hp : P (s.onPins (fun p => { p with npf := !s.wtb.polarity.npf })) := hP.pins s _ h
  split
  · exact hP.epu _ _ (fun ⟨h1, h2, h3⟩ => ⟨h1, h2, by simp⟩) hp
  · exact hp

theorem Core.npfOpen (s : State) (h : P s) {t : State} (ht : execNpfOpen s = .next t) : P t := by
  obtain rfl := Host.Outcome.next.inj ht
  have hp : P (s.onPins (fun p => { p with npf := s.wtb.polarity.npf })) := hP.pins s _ h
  split
  · exact hP.embossNip _ _ hp
  · exact hP.nipSeenOpen _ hp

theorem Core.closeTimerExpiry (e : Bool) (s : State) (h : P s) {t : State}
    (ht : execCloseTimerExpiry s e = .next t) : P t := by
  obtain rfl := Host.Outcome.next.inj ht
  split
  · exact hP.embossNip _ _ (hP.epu _ _ (fun ⟨h1, h2, _⟩ => ⟨h1, h2, by simp⟩) (hP.pins s _ h))
  · exact h

/-- In THREAD a change of configured makes the emboss state OPEN or NONE (R75). -/
theorem Core.embossSet (tag : Byte) (f : EmbossFields) (s : State) (h : P s) {t : State}
    (ht : execEmbossSet tag f s = .next t) : P t := by
  obtain rfl := Host.Outcome.next.inj ht
  split
  · exact hP.answer _ _ _ _ s h
  · dsimp only
    split
    · exact hP.answer _ _ _ _ s h
    · refine hP.answer _ _ _ _ _ (hP.epu s _ (fun hn => ?_) h)
      split
      next hc =>
        have hs : ¬(s.epu.state = .syncing ∨ s.epu.state = .engaged) := fun hs => by simpa [hc.1] using hn.2.1 hs
        obtain ⟨h1, h2⟩ := hn.closed (fun hs' => hs (.inr hs'))
        split <;> exact .of_open h1 h2 (by simp) (by simp)
      next => exact .of_eq rfl rfl rfl rfl hn

theorem Core.embossEngage (tag : Byte) (s : State) (h : P s) {t : State}
    (ht : execEmbossEngage tag s = .next t) : P t := by
  obtain rfl := Host.Outcome.next.inj ht
  split
  next => exact hP.answer _ _ _ _ s h
  next hc =>
    push Not at hc
    split
    · exact hP.answer _ _ _ _ s h
    · exact hP.answer _ _ _ _ _ (hP.enterSyncing s hc.1 (by simp [hc.2]) h)

theorem Core.embossRelease (tag : Byte) (s : State) (h : P s) {t : State}
    (ht : execEmbossRelease tag s = .next t) : P t := by
  obtain rfl := Host.Outcome.next.inj ht
  split
  · exact hP.answer _ _ _ _ s h
  · exact hP.answer _ _ _ _ _ (hP.releaseEmboss s h)

/-! ### The requests of the Register Loop Unit -/

theorem Core.stationSet (tag : Byte) (k : Nat) (f : StationParams) (s : State) (h : P s) {t : State}
    (ht : execStationSet tag k f s = .next t) : P t := by
  obtain rfl := Host.Outcome.next.inj ht
  split
  · exact hP.answer _ _ _ _ s h
  · dsimp only
    split
    · exact hP.answer _ _ _ _ s h
    · split
      · exact hP.answer _ _ _ _ s h
      · exact hP.answer _ _ _ _ _ (hP.stations _ s rfl h)

theorem Core.stationMode (tag : Byte) (k : Nat) (m : Coded StationMode) (s : State) (h : P s) {t : State}
    (ht : execStationMode tag k m s = .next t) : P t := by
  obtain rfl := Host.Outcome.next.inj ht
  dsimp only
  split
  · split
    · exact hP.answer _ _ _ _ s h
    · split
      · exact hP.answer _ _ _ _ s h
      · exact hP.answer _ _ _ _ _ (hP.stations _ s rfl h)
  · exact hP.answer _ _ _ _ s h

theorem Core.trim (tag : Byte) (c : Nat) (n : Int) (s : State) (h : P s) {t : State}
    (ht : execTrim tag c n s = .next t) : P t := by
  obtain rfl := Host.Outcome.next.inj ht
  split
  · exact hP.answer _ _ _ _ s h
  · split
    · exact hP.answer _ _ _ _ s h
    · split
      next => exact hP.answer _ _ _ _ s h
      next hl =>
        push Not at hl
        exact hP.answer _ _ _ _ _ (hP.addOwed _ _ _ s hl.1 hl.2.1 h)

/-- A pulse takes an owed trim one toward 0 (R67). -/
theorem Core.trimPulse (c : Nat) (s : State) (h : P s) {t : State} (ht : execTrimPulse c s = .next t) : P t := by
  obtain rfl := Host.Outcome.next.inj ht
  split
  · exact h
  · dsimp only
    split
    next => exact h
    next hl =>
      push Not at hl
      have hi : s.wtb.line ≠ .idle := fun hi => by simpa [hi] using hl.2
      have hf : s.wtb.line ≠ .fault := fun hf => by simpa [hf] using hl.2
      split
      · refine hP.rlu s _ (.onChannel fun ho => ?_) h
        obtain ⟨h1, h2, -⟩ := ho
        exact .of_bounds (by simp [Config.owedLimit] at *; omega) (by simp [Config.owedLimit] at *; omega) hi hf
      · refine hP.rlu s _ (.onChannel fun ho => ?_) h
        obtain ⟨h1, h2, -⟩ := ho
        exact .of_bounds (by simp [Config.owedLimit] at *; omega) (by simp [Config.owedLimit] at *; omega) hi hf
end

section
variable {P : State → Prop} (hP : Closed P)
include hP

theorem Closed.latchCause (c : StopCause) (s : State) (h : P s) : P (latchCause c s) := by
  have hn : P (Machine.notice .stopCause c.code s.wtb.line.code
      (s.onWtb (fun w => { w with latched := w.latched.put c true }))) :=
    hP.notice _ _ _ _ (hP.wtb s _ rfl (.of_eq rfl rfl rfl rfl rfl) h)
  unfold Machine.latchCause
  split
  · exact h
  · dsimp only
    split
    case h_4 => exact hn
    case h_5 => exact hn
    all_goals exact hP.fault _ (by simp [*]) hn

theorem Closed.releaseWatchExpiry (s : State) (h : P s) {t : State}
    (ht : execReleaseWatchExpiry s = .next t) : P t := by
  obtain rfl := Host.Outcome.next.inj ht
  split
  · split
    · exact hP.latchCause _ _ (hP.embossBeside _ s h)
    · exact hP.nipSeenOpen s h
  · exact h

/-! ### The Web Timebase -/

theorem Closed.readEst (s : State) (h : P s) : P (readEst s) := by
  unfold Machine.readEst
  split
  · exact hP.latchCause _ s h
  · exact h
end

/-- A forward count moves WP and HW together where no track can run behind it (R3). -/
theorem Wtb.Coherent.forward {w : Wtb} (h : w.Coherent) : w.forward.Coherent := by
  obtain ⟨h1, h2, h3⟩ := h
  unfold Wtb.forward
  cases hl : w.line <;> simp_all [Wtb.Coherent] <;> split <;> simp_all

theorem Wtb.forward_line (w : Wtb) : w.forward.line = w.line := by
  unfold Wtb.forward
  cases hl : w.line <;> simp only <;> split <;> simp_all

theorem Wtb.Coherent.backward {w : Wtb} (h : w.Coherent) : w.backward.Coherent := by
  obtain ⟨h1, h2, h3⟩ := h
  unfold Wtb.backward
  cases hl : w.line <;> simp_all [Wtb.Coherent]

theorem Wtb.backward_line (w : Wtb) : w.backward.line = w.line := by
  unfold Wtb.backward
  cases hl : w.line <;> simp_all

section
variable {P : State → Prop} (hP : Core P)
include hP

theorem Core.reverseExcursion (s : State) (h : P s) : P (reverseExcursion s) := by
  have hr := hP.raise .reverse 0 s.wtb.hw.toNat _
    (hP.wtb s (fun w => { w with excursion := true }) rfl (.of_eq rfl rfl rfl rfl rfl) h)
  unfold Machine.reverseExcursion
  dsimp only
  split
  next hl => exact hP.noticeLineState _ _ (hP.hold _ _ hl hr)
  next => exact hP.disarm _ hr
  all_goals exact hr

theorem Core.encoderCount (c : EncChannel) (s : State) (h : P s) {t : State}
    (ht : execEncoderCount c s = .next t) : P t := by
  obtain rfl := Host.Outcome.next.inj ht
  have hp : P (s.onPins (fun p => p.toggle c)) := hP.pins s _ h
  split
  · exact hP.wtb _ _ (Wtb.forward_line _) .forward hp
  · have hb := hP.wtb _ _ (Wtb.backward_line _) .backward hp
    dsimp only
    split
    · exact hP.reverseExcursion _ hb
    · exact hb

theorem Core.lineSet (tag : Byte) (c : Nat) (a : Coded Bool) (s : State) (h : P s) {t : State}
    (ht : execLineSet tag c a s = .next t) : P t := by
  obtain rfl := Host.Outcome.next.inj ht
  split
  · exact hP.answer _ _ _ _ s h
  · split
    · exact hP.answer _ _ _ _ s h
    · exact hP.answer _ _ _ _ _ (hP.wtb s _ rfl (.of_eq rfl rfl rfl rfl rfl) h)

theorem Core.stopAck (tag : Byte) (c : Nat) (s : State) (h : P s) {t : State}
    (ht : execStopAck tag c s = .next t) : P t := by
  obtain rfl := Host.Outcome.next.inj ht
  split
  · exact hP.answer _ _ _ _ s h
  · exact hP.answer _ _ _ _ _ (hP.wtb s _ rfl (.of_eq rfl rfl rfl rfl rfl) h)

theorem Core.jobHold (tag : Byte) (s : State) (h : P s) {t : State} (ht : execJobHold tag s = .next t) : P t := by
  obtain rfl := Host.Outcome.next.inj ht
  split
  next hl => exact hP.noticeLineState _ _ (hP.hold _ _ (by simpa using hl) (hP.answer _ _ _ _ s h))
  next => exact hP.disarm _ (hP.answer _ _ _ _ s h)
  all_goals exact hP.answer _ _ _ _ s h

theorem Core.jobResume (tag : Byte) (s : State) (h : P s) {t : State}
    (ht : execJobResume tag s = .next t) : P t := by
  obtain rfl := Host.Outcome.next.inj ht
  split
  next hl => exact hP.wtb _ _ rfl (fun ⟨_, h2, h3⟩ => ⟨fun _ => by simpa using hl, h2, h3⟩) (hP.answer _ _ _ _ s h)
  next => exact hP.answer _ _ _ _ s h
end

section
variable {P : State → Prop} (hP : Closed P)
include hP

theorem Closed.speedSample (s : State) (h : P s) {t : State} (ht : execSpeedSample s = .next t) : P t := by
  obtain rfl := Host.Outcome.next.inj ht
  have hw : P (s.onWtb Wtb.sample) := hP.wtb s _ rfl (.of_eq rfl rfl rfl rfl rfl) h
  split
  next hl =>
    split
    · exact hP.noticeLineState _ _ (hP.hold _ _ hl hw)
    · exact hw
  next hl =>
    split
    · exact hP.actOnReengage _ (hP.run _ _ hl hw)
    · exact hw
  all_goals exact hw

theorem Closed.jobOpen (tag : Byte) (s : State) (h : P s) {t : State} (ht : execJobOpen tag s = .next t) : P t := by
  obtain rfl := Host.Outcome.next.inj ht
  split
  next => exact hP.answer _ _ _ _ s h
  next hl =>
    split
    · exact hP.answer _ _ _ _ s h
    · exact hP.opened _ (by simpa using hl) (hP.answer _ _ _ _ s h)

theorem Closed.jobStart (tag : Byte) (s : State) (h : P s) {t : State}
    (ht : execJobStart tag s = .next t) : P t := by
  obtain rfl := Host.Outcome.next.inj ht
  split
  next => exact hP.answer _ _ _ _ s h
  next hl =>
    split
    · exact hP.answer _ _ _ _ s h
    · exact hP.started _ (by simpa using hl) (hP.answer _ _ _ _ s h)

theorem Closed.jobStop (tag : Byte) (s : State) (h : P s) {t : State} (ht : execJobStop tag s = .next t) : P t := by
  obtain rfl := Host.Outcome.next.inj ht
  split
  next hr => exact hP.stopped _ (by simpa [State.running] using hr) (hP.answer _ _ _ _ s h)
  next => exact hP.answer _ _ _ _ s h

theorem Closed.jobEnd (tag : Byte) (s : State) (h : P s) {t : State} (ht : execJobEnd tag s = .next t) : P t := by
  obtain rfl := Host.Outcome.next.inj ht
  split
  next hl => exact hP.ended _ (by simpa using hl) (hP.answer _ _ _ _ s h)
  next => exact hP.answer _ _ _ _ s h

theorem Closed.recover (tag : Byte) (s : State) (h : P s) {t : State} (ht : execRecover tag s = .next t) : P t := by
  obtain rfl := Host.Outcome.next.inj ht
  split
  next => exact hP.answer _ _ _ _ s h
  next hl =>
    split
    · exact hP.answer _ _ _ _ s h
    · exact hP.recovered _ (by simpa using hl) (hP.answer _ _ _ _ s h)
end
end Sys2Proof.Machine
end

section
/-! The Track Unit, the crossings and the creation of a record. -/

namespace Sys2Proof.Machine

/-! ### Harmless changes of the track -/

/-- The order of the track is a matter of its numbers: those of the records stand, and none joins the departed. -/
theorem Tku.Ordered.of_numbers {t t' : Tku} (ht : t'.track.map (·.number) = t.track.map (·.number))
    (hd : ∀ d' ∈ t'.departed, ∃ d ∈ t.departed, d.number = d'.number)
    (hn : t'.nextRepeat = t.nextRepeat) (hc : t'.cursors = t.cursors) (h : t.Ordered) : t'.Ordered := by
  obtain ⟨h1, h2, h3, h4⟩ := h
  have hmem : ∀ r' ∈ t'.track, ∃ r ∈ t.track, r.number = r'.number := fun r' hr' => by
    simpa using (ht ▸ List.mem_map_of_mem (f := (·.number)) hr' : r'.number ∈ t.track.map (·.number))
  have hmem' : ∀ r ∈ t.track, ∃ r' ∈ t'.track, r'.number = r.number := fun r hr => by
    simpa using (ht ▸ List.mem_map_of_mem (f := (·.number)) hr : r.number ∈ t'.track.map (·.number))
  refine ⟨?_, fun r' hr' => ?_, fun d' hd' r' hr' => ?_, fun c hc' n hn' => ?_⟩
  · have := List.pairwise_map.2 h1
    rw [← ht] at this
    exact List.pairwise_map.1 this
  · rw [hn]
    obtain hr' | hr' := List.mem_append.1 hr'
    · obtain ⟨d, hd, he⟩ := hd r' hr'
      exact he ▸ h2 d (List.mem_append_left _ hd)
    · obtain ⟨r, hr, he⟩ := hmem r' hr'
      exact he ▸ h2 r (List.mem_append_right _ hr)
  · obtain ⟨d, hd, hde⟩ := hd d' hd'
    obtain ⟨r, hr, hre⟩ := hmem r' hr'
    rw [← hde, ← hre]
    exact h3 d hd r hr
  · rw [hc] at hc'
    obtain ⟨r, hr, he⟩ := h4 c hc' n hn'
    obtain ⟨r', hr', he'⟩ := hmem' r hr
    exact ⟨r', hr', he'.trans he⟩

/-- A change that keeps the numbers on the track, beside the cursors, the counter, the splices and the scanner. -/
theorem TkuMove.of_numbers {running : Bool} {t t' : Tku} (ht : t'.track.map (·.number) = t.track.map (·.number))
    (hd : ∀ d' ∈ t'.departed, ∃ d ∈ t.departed, d.number = d'.number)
    (hn : t'.nextRepeat = t.nextRepeat) (hc : t'.cursors = t.cursors) (hs : t'.splices = t.splices)
    (hu : t.Unscanned → t'.Unscanned) : TkuMove running t t' where
  ordered := .of_numbers ht hd hn hc
  emptied _ h := by
    have htk : t.track = [] ∧ t.departed = [] := by simpa [Tku.blocks, and_comm] using h.1
    have ht' : t'.track = [] := by simpa [htk.1] using ht
    have hd' : t'.departed = [] := List.eq_nil_iff_forall_not_mem.2 fun d hd' => by simpa [htk.2] using hd d hd'
    exact ⟨by simp [Tku.blocks, ht', hd'], hs ▸ h.2⟩
  unscanned _ := hu
  nextRepeat := hn
  length := by simpa using (congrArg List.length ht).le
  splices h := by rwa [hs]

theorem TkuMove.trans {running : Bool} {t u v : Tku} (h : TkuMove running t u) (h' : TkuMove running u v) :
    TkuMove running t v where
  ordered ht := h'.ordered (h.ordered ht)
  emptied hr ht := h'.emptied hr (h.emptied hr ht)
  unscanned hr ht := h'.unscanned hr (h.unscanned hr ht)
  nextRepeat := h'.nextRepeat.trans h.nextRepeat
  length := h'.length.trans h.length
  splices ht := h'.splices (h.splices ht)

/-- A change of one record that keeps its number keeps the numbers of the track. -/
theorem Tku.onRecord_numbers (t : Tku) (n : Nat) {f : RepeatRecord → RepeatRecord}
    (hf : ∀ r, (f r).number = r.number) :
    (t.onRecord n f).track.map (·.number) = t.track.map (·.number) := by
  simp only [Tku.onRecord, List.map_map]
  refine List.map_congr_left fun r _ => ?_
  simp only [Function.comp_apply]
  split
  · exact hf r
  · rfl

theorem TkuMove.onRecord {running : Bool} {t : Tku} {n : Nat} {f : RepeatRecord → RepeatRecord}
    (hf : ∀ r, (f r).number = r.number) : TkuMove running t (t.onRecord n f) :=
  .of_numbers (t.onRecord_numbers n hf) (fun d hd => ⟨d, hd, rfl⟩) rfl rfl rfl id

theorem TkuMove.forget {running : Bool} {t : Tku} : TkuMove running t t.forget :=
  .of_numbers rfl (fun d hd => ⟨d, (List.mem_filter.1 hd).1, rfl⟩) rfl rfl rfl id

theorem TkuMove.onWindow {running : Bool} {t : Tku} {n : Nat} {k : Fin 8} {f : Window → Window} :
    TkuMove running t (t.onWindow n k f) := by
  unfold Tku.onWindow
  refine TkuMove.trans ?_ .forget
  refine .of_numbers (t.onRecord_numbers n fun _ => rfl) (fun d' hd' => ?_) rfl rfl rfl id
  obtain ⟨d, hd, rfl⟩ := List.mem_map.1 hd'
  refine ⟨d, hd, ?_⟩
  split <;> rfl

/-- Cursors may change where each stands on a record of the track. -/
theorem TkuMove.cursors {running : Bool} {t : Tku} {c : Cursors}
    (hc : t.Ordered → ∀ x ∈ [c.emboss, c.shade, c.knifeA, c.knifeB], ∀ n ∈ x, ∃ r ∈ t.track, r.number = n) :
    TkuMove running t { t with cursors := c } where
  ordered h := ⟨h.1, h.2.1, h.2.2.1, hc h⟩
  emptied _ := id
  unscanned _ := id
  nextRepeat := rfl
  length := le_rfl
  splices := id

/-- The record after another stands on the track. -/
theorem Tku.after_mem {t : Tku} {n m : Nat} (h : m ∈ t.after n) : ∃ r ∈ t.track, r.number = m ∧ n < m := by
  obtain ⟨r, hr, rfl⟩ := Option.map_eq_some_iff.1 h
  exact ⟨r, List.mem_of_find?_eq_some hr, rfl, by simpa using List.find?_some hr⟩

/-- A record leaves the track with every cursor moved on (R43). -/
theorem TkuMove.release {running : Bool} {t : Tku} {n : Nat} : TkuMove running t (t.release n) := by
  unfold Tku.release
  refine TkuMove.trans ?_ .forget
  refine ⟨fun ⟨h1, h2, h3, h4⟩ => ⟨h1.filter _, fun r hr => ?_, fun d hd r hr => ?_, ?_⟩, fun _ h => ?_,
    fun _ => id, rfl, List.length_filter_le .., id⟩
  · simp only [Tku.blocks, List.mem_append, List.mem_filter] at hr
    obtain (hr | hr) | hr := hr
    · exact h2 r (List.mem_append_left _ hr)
    · exact h2 r (List.mem_append_right _ hr.1)
    · exact h2 r (List.mem_append_right _ hr.1)
  · simp only [List.mem_append, List.mem_filter, beq_iff_eq, bne_iff_ne] at hd hr
    obtain hd | ⟨-, rfl⟩ := hd
    · exact h3 d hd r hr.1
    · exact hr.2.symm
  · have hmove : ∀ o : Option Nat, (∀ m ∈ o, ∃ r ∈ t.track, r.number = m) →
        ∀ m ∈ (if o = some n then t.after n else o), ∃ r ∈ t.track.filter (fun r => r.number != n), r.number = m := by
      intro o ho m hm
      split at hm
      next =>
        obtain ⟨r, hr, rfl, hlt⟩ := Tku.after_mem hm
        exact ⟨r, List.mem_filter.2 ⟨hr, by simpa using hlt.ne'⟩, rfl⟩
      next hne =>
        obtain ⟨r, hr, rfl⟩ := ho m hm
        refine ⟨r, List.mem_filter.2 ⟨hr, ?_⟩, rfl⟩
        have : o = some r.number := hm
        simpa [this] using hne
    simp only [List.mem_cons, List.not_mem_nil, or_false, forall_eq_or_imp, forall_eq, Cursors.leave] at h4 ⊢
    exact ⟨hmove _ h4.1, hmove _ h4.2.1, hmove _ h4.2.2.1, hmove _ h4.2.2.2⟩
  · simp_all [Tku.Emptied, Tku.blocks]

section
variable {P : State → Prop} (hP : Core P)
include hP

/-! ### Records and windows -/

theorem Core.onRecord (n : Nat) (f : RepeatRecord → RepeatRecord) (s : State) (h : P s)
    (hf : ∀ r, (f r).number = r.number := by exact fun _ => rfl) : P (s.onTku (fun t => t.onRecord n f)) :=
  hP.tku s _ (.onRecord hf) h

/-- A change of the track beside its records, its cursors, its splices and its scanner. -/
theorem Core.trackBeside (f : Tku → Tku) (s : State) (h : P s) (ht : (f s.tku).track = s.tku.track := by rfl)
    (hd : (f s.tku).departed = s.tku.departed := by rfl) (hn : (f s.tku).nextRepeat = s.tku.nextRepeat := by rfl)
    (hc : (f s.tku).cursors = s.tku.cursors := by rfl) (hs : (f s.tku).splices = s.tku.splices := by rfl)
    (hu : s.running = false → s.tku.Unscanned → (f s.tku).Unscanned := by exact fun _ h => h) : P (s.onTku f) :=
  hP.tku s f (.of_eq ht hd hn hc hs hu) h

theorem Core.registerEntry (k : Fin 8) (n : Nat) (coasted : Bool) (rd : RegReading) (s : State) (h : P s) :
    P (registerEntry k n coasted rd s) := by
  have hw : P (writeRegEntry k n rd s) := hP.onRecord n _ s h
  unfold Machine.registerEntry
  dsimp only
  split
  · exact hw
  · exact hP.stationLoop _ _ _ _ (hP.countMissing _ _ _ _ (hP.countOutOfTolerance _ _ _ _ hw))

theorem Core.strayMark (s : State) (h : P s) : P (strayMark s) := hP.trackBeside _ s h

theorem Core.offerMark (p : Pos) (s : State) (h : P s) : P (offerMark p s) := by
  unfold Machine.offerMark
  split
  · exact hP.strayMark s h
  · exact hP.registerEntry _ _ _ _ _ (hP.tku s _ .onWindow h)

theorem Core.closeWindow (n : Nat) (k : Fin 8) (s : State) (h : P s) : P (closeWindow n k s) := by
  have hs : P (s.onTku (fun t => t.onWindow n k (fun w => { w with closed := true }))) := hP.tku s _ .onWindow h
  obtain ⟨-, he⟩ | ⟨r, w, -, ⟨-, he⟩ | ⟨-, he⟩⟩ := closeWindow_cases n k s
  · rwa [he]
  · rwa [he]
  · rw [he]
    exact hP.registerEntry _ _ _ _ _ (hP.raise _ _ _ _ hs)

theorem Core.closeWindows (p : RepeatRecord → Window → Bool) (s : State) (h : P s) : P (closeWindows p s) := by
  unfold Machine.closeWindows
  generalize openWindows p s.tku.blocks = l
  induction l generalizing s with
  | nil => exact h
  | cons x l ih => exact ih _ (hP.closeWindow _ _ s h)

/-! ### The span close -/

theorem Core.writeLength (n : Nat) (m : Int) (rejected : Bool) (s : State) (h : P s) :
    P (writeLength n m rejected s) := hP.onRecord n _ s h

theorem Core.closeLength (old : RepeatRecord) (origin : Pos) (b : Birth) (s : State) (h : P s) :
    P (closeLength old origin b s) := by
  unfold Machine.closeLength
  dsimp only
  split
  · exact hP.writeLength _ _ _ s h
  · split
    · exact hP.writeLength _ _ _ s h
    · split
      · exact hP.raise _ _ _ _ (hP.writeLength _ _ _ s h)
      · exact hP.trackBeside _ _ (hP.writeLength _ _ _ s h)

theorem Core.settleSplice (old : RepeatRecord) (s : State) (q : Pos) (h : P s) : P (settleSplice old s q) := by
  unfold Machine.settleSplice
  split
  · exact hP.onRecord _ _ s h
  · exact hP.raise _ _ _ s h

theorem Core.closeSplices (old : RepeatRecord) (origin : Pos) (s : State) (h : P s) :
    P (closeSplices old origin s) := by
  have hFold : ∀ (qs : List Pos) (t : State), P t → P (qs.foldl (Machine.settleSplice old) t) := by
    intro qs
    induction qs with
    | nil => exact fun t ht => ht
    | cons q qs ih => exact fun t ht => ih _ (hP.settleSplice old t q ht)
  refine hFold _ _ (hP.tku s _ ⟨.of_eq rfl rfl rfl rfl, fun _ h => ?_, fun _ => id, rfl, le_rfl, fun h => ?_⟩ h)
  · exact ⟨h.1, by simp [h.2]⟩
  · exact (List.length_filter_le ..).trans h

theorem Core.closeSpan (old : RepeatRecord) (origin : Pos) (b : Birth) (s : State) (h : P s) :
    P (closeSpan old origin b s) := hP.closeSplices _ _ _ (hP.closeLength _ _ _ s h)

omit hP in
/-- The close of a span keeps the numbers on the track and the cursors. -/
theorem closeSpan_numbers (old : RepeatRecord) (origin : Pos) (b : Birth) (s : State) :
    (closeSpan old origin b s).tku.track.map (·.number) = s.tku.track.map (·.number) ∧
      (closeSpan old origin b s).tku.cursors = s.tku.cursors := by
  have hLength : (closeLength old origin b s).tku.track.map (·.number) = s.tku.track.map (·.number) ∧
      (closeLength old origin b s).tku.cursors = s.tku.cursors := by
    unfold closeLength
    dsimp only
    split
    · exact ⟨s.tku.onRecord_numbers _ fun _ => rfl, rfl⟩
    · split
      · exact ⟨s.tku.onRecord_numbers _ fun _ => rfl, rfl⟩
      · split
        · rw [raise_tku]
          exact ⟨s.tku.onRecord_numbers _ fun _ => rfl, rfl⟩
        · exact ⟨s.tku.onRecord_numbers _ fun _ => rfl, rfl⟩
  have hFold : ∀ (qs : List Pos) (t : State),
      (qs.foldl (settleSplice old) t).tku.track.map (·.number) = t.tku.track.map (·.number) ∧
      (qs.foldl (settleSplice old) t).tku.cursors = t.tku.cursors := by
    intro qs
    induction qs with
    | nil => exact fun t => ⟨rfl, rfl⟩
    | cons q qs ih =>
      intro t
      rw [List.foldl_cons, (ih _).1, (ih _).2]
      unfold settleSplice
      split
      · exact ⟨t.tku.onRecord_numbers _ fun _ => rfl, rfl⟩
      · simp
  unfold closeSpan closeSplices
  exact ⟨(hFold _ _).1.trans hLength.1, (hFold _ _).2.trans hLength.2⟩

/-! ### The crossings -/

theorem Core.embossCrossing (n : Nat) (s : State) (h : P s) : P (embossCrossing n s) := hP.onRecord n _ s h

theorem Core.moveCursor (p : Point) (n : Nat) (s : State) (h : P s) : P (moveCursor p n s) := by
  refine hP.tku s _ (.cursors fun ho => ?_) h
  have ha : ∀ m ∈ s.tku.after n, ∃ r ∈ s.tku.track, r.number = m := fun m hm => by
    obtain ⟨r, hr, he, -⟩ := Tku.after_mem hm
    exact ⟨r, hr, he⟩
  have hc := ho.2.2.2
  simp only [List.mem_cons, List.not_mem_nil, or_false, forall_eq_or_imp, forall_eq] at hc ⊢
  obtain ⟨h1, h2, h3, h4⟩ := hc
  match p with
  | .emboss => exact ⟨ha, h2, h3, h4⟩
  | .shade => exact ⟨h1, ha, h3, h4⟩
  | .knife .a => exact ⟨h1, h2, ha, h4⟩
  | .knife .b => exact ⟨h1, h2, h3, ha⟩

theorem Core.retire (n : Nat) (s : State) (h : P s) : P (retire n s) := by
  obtain ⟨he, -⟩ | ⟨he, -⟩ := retire_cases n s
  · rw [he]
    exact hP.tku s _ .release h
  · rwa [he]

/-! ### The track's requests and the line-side rows -/

theorem Core.markLeadingEdge (s : State) (h : P s) {t : State} (ht : execMarkLeadingEdge s = .next t) : P t := by
  obtain rfl := Host.Outcome.next.inj ht
  have hp : P (s.onPins (fun p => { p with scn := !s.wtb.polarity.scn })) := hP.pins s _ h
  split
  next hs =>
    refine hP.trackBeside _ _ hp (hu := fun hr => ?_)
    have : s.running = false := hr
    simp_all [State.scans, State.advancing, State.running]
  next => exact hp

theorem Core.windowClose (n k : Nat) (s : State) (h : P s) {t : State} (ht : execWindowClose n k s = .next t) :
    P t := by
  obtain rfl := Host.Outcome.next.inj ht
  split
  · exact h
  · split
    · exact h
    · split
      · exact hP.closeWindow _ _ s h
      · exact h

theorem Core.splEdge (e : Bool) (s : State) (h : P s) {t : State} (ht : execSplEdge e s = .next t) : P t := by
  obtain rfl := Host.Outcome.next.inj ht
  split
  next hr =>
    split
    next hl =>
      refine hP.raise _ _ _ _ (hP.tku s _ ⟨.of_eq rfl rfl rfl rfl, fun h => ?_, fun _ => id, rfl, le_rfl, fun _ => ?_⟩ h)
      · simp [hr.2] at h
      · simp [Config.spliceCapacity] at hl ⊢
        omega
    next => exact hP.raise _ _ _ s h
  next => exact h

theorem Core.seedEstimate (s : State) (h : P s) : P (seedEstimate s) := hP.trackBeside _ s h

theorem Core.writeRepeat (f : RepeatParams) (s : State) (h : P s) : P (writeRepeat f s) := by
  have h1 : P (noteOvertaken f.n s) := by
    unfold noteOvertaken
    split
    · exact h
    · exact hP.trackBeside _ s h
  have h2 : P ((noteOvertaken f.n s).onTku (fun t => { t with params := f })) := hP.trackBeside _ _ h1
  unfold Machine.writeRepeat
  dsimp only
  split
  · split
    · exact hP.loadAutoSettles _ h2
    · exact h2
  · split
    · exact hP.loadAutoSettles _ (hP.seedEstimate _ h2)
    · exact hP.seedEstimate _ h2

theorem Core.repeatSet (tag : Byte) (f : RepeatParams) (s : State) (h : P s) {t : State}
    (ht : execRepeatSet tag f s = .next t) : P t := by
  obtain rfl := Host.Outcome.next.inj ht
  split
  · exact hP.answer _ _ _ _ s h
  · split
    · exact hP.answer _ _ _ _ s h
    · exact hP.answer _ _ _ _ _ (hP.writeRepeat f s h)

theorem Core.pathSet (tag : Byte) (f : PathTable) (s : State) (h : P s) {t : State}
    (ht : execPathSet tag f s = .next t) : P t := by
  obtain rfl := Host.Outcome.next.inj ht
  split
  · exact hP.answer _ _ _ _ s h
  · split
    · exact hP.answer _ _ _ _ s h
    · exact hP.answer _ _ _ _ _ (hP.trackBeside _ s h)

theorem Core.trackSeek (tag : Byte) (x : Coded SeekTarget) (s : State) (h : P s) {t : State}
    (ht : execTrackSeek tag x s = .next t) : P t := by
  obtain rfl := Host.Outcome.next.inj ht
  split
  · exact hP.answer _ _ _ _ s h
  · exact hP.answer _ _ _ _ _ (hP.trackBeside _ s h)

theorem Core.trackRead (tag : Byte) (c : Nat) (s : State) (h : P s) {t : State}
    (ht : execTrackRead tag c s = .next t) : P t := by
  obtain rfl := Host.Outcome.next.inj ht
  split
  · exact hP.answer _ _ _ _ s h
  · exact hP.answer _ _ _ _ _ (hP.trackBeside _ s h)
end

section
variable {P : State → Prop} (hP : Closed P)
include hP

/-- A change of polarity takes the present levels without an edge. -/
theorem Closed.applyPolarity (p : Polarity) (s : State) (h : P s) : P (applyPolarity p s) := by
  have h1 : P (s.onWtb (fun w => { w with polarity := p })) := hP.wtb s _ rfl (.of_eq rfl rfl rfl rfl rfl) h
  unfold Machine.applyPolarity
  refine hP.readEst _ ?_
  have h2 : P (if p.scn = s.wtb.polarity.scn then s.onWtb (fun w => { w with polarity := p })
      else (s.onWtb (fun w => { w with polarity := p })).onTku (fun t => { t with
        scnPrev := (s.onWtb (fun w => { w with polarity := p })).scnActive, halfSeen := none })) := by
    split
    · exact h1
    · exact hP.trackBeside _ _ h1 (hu := fun _ hu => ⟨hu.1, rfl, hu.2.2⟩)
  split
  · exact h2
  · exact hP.embossBeside _ _ h2

theorem Closed.inputSet (tag : Byte) (f : InputFields) (s : State) (h : P s) {t : State}
    (ht : execInputSet tag f s = .next t) : P t := by
  obtain rfl := Host.Outcome.next.inj ht
  split
  · exact hP.answer _ _ _ _ s h
  · split
    · exact hP.answer _ _ _ _ s h
    · split
      · exact hP.answer _ _ _ _ s h
      · exact hP.applyPolarity _ _ (hP.answer _ _ _ _ s h)
end

section
variable {P : State → Prop} (hP : Work P)
include hP

theorem Work.shadeCrossing (n : Nat) (s : State) (h : P s) : P (shadeCrossing n s) := by
  have hb : P (bindSpots n s) := hP.smu s _ (.mapContexts _) h
  unfold Machine.shadeCrossing
  dsimp only
  split
  · exact hb
  · exact hP.smu _ _ (.of_eq rfl rfl rfl) (hP.onRecord n _ _ (hP.head.settleScan _ hb))
end
end Sys2Proof.Machine
end

section
/-! The batch table, the label port and the finalising of a roll, over `RollClosed`: what a property has to allow so
that they keep it. -/

namespace Sys2Proof.Machine

/-- A property kept by an occurrence, the harmless changes of the batch table and of the label port, a new batch, and
every change of the roll history. -/
structure RollClosed (P : State → Prop) : Prop where
  raise : ∀ ev p1 p2 t, P t → P (raise ev p1 p2 t)
  btu : ∀ t f, BtuMove t.btu (f t.btu) → P t → P (t.onBtu f)
  lbp : ∀ t f, LbpMove t.lbp (f t.lbp) → P t → P (t.onLbp f)
  append : ∀ c t, t.btu.sequence ≤ 999 → P t → P (appendBatch c (displaceBatch t))
  history : ∀ t f, (f t.rku).laneA = t.rku.laneA → (f t.rku).laneB = t.rku.laneB →
    (t.rku.history.length ≤ 64 → (f t.rku).history.length ≤ 64) → P t → P (t.onRku f)

theorem Work.roll {P : State → Prop} (hP : Work P) : RollClosed P where
  raise := hP.toCore.raise
  btu := hP.btu
  lbp := hP.lbp
  append := hP.append
  history t f ha hb hh := hP.rku t f ⟨fun h => by rwa [Rku.LanesOk, ha, hb], hh⟩

/-! ### Harmless changes of the batch table and of the label port -/

/-- Entries of the table change beside their sequence, their rolls growing. -/
theorem BtuMove.map {b : Btu} (f : Batch → Batch) (hs : ∀ x, (f x).sequence = x.sequence)
    (hr : ∀ x, x.rolls ≤ (f x).rolls) : BtuMove b { b with batches := b.batches.map f } where
  ordered h := by
    obtain ⟨h1, h2, h3⟩ := h
    refine ⟨List.pairwise_map.2 (h1.imp fun {x y} h => by rwa [hs, hs]), fun x hx => ?_, h3⟩
    obtain ⟨y, hy, rfl⟩ := List.mem_map.1 hx
    obtain ⟨h4, h5, h6⟩ := h2 y hy
    exact ⟨(hs y).symm ▸ h4, (hs y).symm ▸ h5, h6.trans (hr y)⟩
  length := by simp

/-- A change beside the lists, the job in flight, the PRINT being sent and the timer is harmless. -/
theorem LbpMove.of_eq {b b' : Lbp} (ha : b'.listA = b.listA) (hb : b'.listB = b.listB) (hf : b'.inFlight = b.inFlight)
    (hp : b'.printing = b.printing) (ht : b'.timer = b.timer) : LbpMove b b' where
  granted h := by simpa [Lbp.Granted, ha, hb, hf, hp, ht] using h
  listA h := by rwa [ha]
  listB h := by rwa [hb]

/-- Jobs that lose their history link stay where they are. -/
theorem LbpMove.unlink {b : Lbp} (p : LabelJob → Bool) : LbpMove b (b.unlink p) where
  granted h := by simpa [Lbp.Granted, Lbp.unlink] using h
  listA h := by simpa [Lbp.unlink] using h
  listB h := by simpa [Lbp.unlink] using h

/-- Jobs that leave their lists are harmless. -/
theorem LbpMove.filter {b : Lbp} (p : LabelJob → Bool) :
    LbpMove b { b with listA := b.listA.filter p, listB := b.listB.filter p } where
  granted h := ⟨fun hf => by simp [h.1 hf], h.2⟩
  listA h := (List.length_filter_le ..).trans h
  listB h := (List.length_filter_le ..).trans h

/-- PRINT goes out for a job in flight. -/
theorem LbpMove.sendPrint {b : Lbp} (f : InFlight) : LbpMove b (b.sendPrint f) where
  granted _ := ⟨fun h => by simp [Lbp.sendPrint] at h, fun _ => rfl⟩
  listA := id
  listB := id

/-! ### The grant -/

/-- What the grant does to the label port (R168). -/
def Lbp.granting (b : Lbp) : Lbp :=
  match b.inFlight, b.grantLane with
  | none, some l => match b.list l with
    | [] => b
    | j :: js => { (b.putList l js).sendPrint ⟨j, 1⟩ with lastGranted := l }
  | _, _ => b

/-- A label state written through a job's link changes history entries one by one (R165). -/
theorem writeLabel_eq (j : LabelJob) (st : LabelState) (s : State) :
    ∃ g : RollRecord → RollRecord,
      writeLabel j st s = s.onRku (fun r => { r with history := r.history.map g }) := by
  unfold writeLabel
  split
  · exact ⟨_, rfl⟩
  · exact ⟨id, by simp [State.onRku]⟩

/-- The grant changes the label port, and label states of the history. -/
theorem grant_eq (s : State) : ∃ g : RollRecord → RollRecord,
    grant s = (s.onLbp Lbp.granting).onRku (fun r => { r with history := r.history.map g }) := by
  have hsame : ∀ b, s.lbp = b → Lbp.granting b = b →
      s = (s.onLbp Lbp.granting).onRku (fun r => { r with history := r.history.map id }) := by
    rintro _ rfl hg
    simp [State.onLbp, State.onRku, hg]
  unfold grant
  split
  next l hf hl =>
    unfold grantTo
    split
    next hn => exact ⟨id, hsame _ rfl (by simp [Lbp.granting, hf, hl, hn])⟩
    next j js hj =>
      obtain ⟨g, hg⟩ := writeLabel_eq j .printing
        (s.onLbp (fun b => { (b.putList l js).sendPrint ⟨j, 1⟩ with lastGranted := l }))
      refine ⟨g, hg.trans ?_⟩
      simp [State.onLbp, State.onRku, Lbp.granting, hf, hl, hj]
  next hc => exact ⟨id, hsame _ rfl (by
    unfold Lbp.granting
    split
    next hf hl => exact absurd hl (by simpa using hc _ hf)
    next => rfl)⟩

/-- The grant goes to no lane where both lists are empty. -/
theorem Lbp.grantLane_eq_none (b : Lbp) : b.grantLane = none ↔ b.listA = [] ∧ b.listB = [] := by
  cases hg : b.lastGranted <;> cases ha : b.listA <;> cases hb : b.listB <;>
    simp [Lbp.grantLane, otherLane, Lbp.list, hg, ha, hb]

/-- After a grant an idle link leaves no job waiting (R168). -/
theorem Lbp.granted_granting {b : Lbp} (hi : b.inFlight = none → b.printing = none ∧ b.timer = none)
    (hp : b.printing.isSome = true → b.timer = none) : b.granting.Granted := by
  unfold Lbp.granting
  split
  next l hf hl =>
    split
    next hn =>
      simp only [Lbp.grantLane] at hl
      split at hl
      · simp_all
      · split at hl <;> simp_all
    next => exact ⟨fun h => by simp [Lbp.sendPrint] at h, fun _ => rfl⟩
  next hc =>
    refine ⟨fun hf => ?_, hp⟩
    have hn : b.grantLane = none := by
      cases hl : b.grantLane with
      | none => rfl
      | some l => exact absurd hl (by simpa using hc l hf)
    obtain ⟨ha, hb⟩ := b.grantLane_eq_none.1 hn
    exact ⟨ha, hb, hi hf⟩

/-- A grant takes at most a job out of a list. -/
theorem Lbp.granting_lists (b : Lbp) :
    b.granting.listA.length ≤ b.listA.length ∧ b.granting.listB.length ≤ b.listB.length := by
  unfold Lbp.granting
  split
  next l _ _ =>
    split
    next => exact ⟨le_rfl, le_rfl⟩
    next hj => cases l <;> simp_all [Lbp.list, Lbp.sendPrint, Lbp.putList]
  next => exact ⟨le_rfl, le_rfl⟩

/-- A job that joins a list of fewer than four before the grant acts (R167). -/
theorem LbpMove.join {b : Lbp} (j : LabelJob) (hl : (b.list j.lane).length < 4) :
    LbpMove b (b.putList j.lane (b.list j.lane ++ [j])).granting where
  granted h := by
    refine Lbp.granted_granting (fun hf => ?_) ?_
    all_goals cases hj : j.lane <;> simp_all [Lbp.putList, Lbp.Granted]
  listA h := by
    refine (Lbp.granting_lists _).1.trans ?_
    cases hj : j.lane <;> simp_all [Lbp.putList, Lbp.list]
  listB h := by
    refine (Lbp.granting_lists _).2.trans ?_
    cases hj : j.lane <;> simp_all [Lbp.putList, Lbp.list]

/-- The job in flight has ended, and the grant acts (R169). -/
theorem LbpMove.endJob {b : Lbp} :
    LbpMove b { b with inFlight := none, printing := none, timer := none }.granting where
  granted _ := Lbp.granted_granting (fun _ => ⟨rfl, rfl⟩) (fun _ => rfl)
  listA h := (Lbp.granting_lists _).1.trans h
  listB h := (Lbp.granting_lists _).2.trans h

section
variable {P : State → Prop} (hP : RollClosed P)
include hP

/-! ### The batch table -/

theorem RollClosed.closeBatch (r : CloseReason) (n : Nat) (s : State) (h : P s) : P (closeBatch r n s) :=
  hP.raise _ _ _ _ (hP.btu s _ (.filter _) h)

theorem RollClosed.closeIfFull (n : Nat) (s : State) (h : P s) : P (closeIfFull n s) := by
  unfold Machine.closeIfFull
  split
  · exact h
  · split
    · exact hP.closeBatch _ _ s h
    · exact h

theorem RollClosed.joinBatch (b : Batch) (c : Candidate) (s : State) (h : P s) : P (joinBatch b c s).state := by
  refine hP.closeIfFull _ _ (hP.btu s _ (.map _ (fun x => ?_) fun x => ?_) h)
  · split <;> rfl
  · split
    · simp [Batch.join]
    · exact le_rfl

theorem RollClosed.openBatch (c : Candidate) (s : State) (h : P s) : P (openBatch c s).state := by
  unfold Machine.openBatch
  split
  next => exact h
  next hs => exact hP.closeIfFull _ _ (hP.raise _ _ _ _ (hP.append c s (by simpa [Config.lastSequence] using hs) h))

theorem RollClosed.takeCandidate (c : Candidate) (s : State) (h : P s) : P (takeCandidate c s).state := by
  have ht : P (s.onBtu (fun b => { b with takes := b.takes + 1 })) := hP.btu s _ ⟨id, le_rfl⟩ h
  unfold Machine.takeCandidate
  dsimp only
  split
  · exact hP.openBatch c _ ht
  · split
    · exact hP.joinBatch _ c _ ht
    · exact hP.openBatch c _ ht

/-! ### Labels -/

theorem RollClosed.writeLabel (j : LabelJob) (st : LabelState) (s : State) (h : P s) : P (writeLabel j st s) := by
  obtain ⟨g, hg⟩ := writeLabel_eq j st s
  rw [hg]
  exact hP.history s _ rfl rfl (by simp) h

theorem RollClosed.joinLabel (j : LabelJob) (s : State) (hl : (s.lbp.list j.lane).length < 4) (h : P s) :
    P (joinLabel j s) := by
  obtain ⟨g, hg⟩ := writeLabel_eq j .queued (s.onLbp (fun b => b.putList j.lane (b.list j.lane ++ [j])))
  obtain ⟨g', hg'⟩ := grant_eq (Machine.writeLabel j .queued (s.onLbp (fun b => b.putList j.lane (b.list j.lane ++ [j]))))
  unfold Machine.joinLabel
  rw [hg', hg]
  exact hP.history _ (fun r => { r with history := (r.history.map g).map g' }) rfl rfl (by simp)
    (hP.lbp s (fun b => (b.putList j.lane (b.list j.lane ++ [j])).granting) (.join j hl) h)

theorem RollClosed.offerLabel (j : LabelJob) (s : State) (h : P s) : P (offerLabel j s) := by
  unfold Machine.offerLabel
  split
  next hl => exact hP.joinLabel j s hl h
  next => exact hP.raise _ _ _ _ (hP.writeLabel _ _ s h)

theorem RollClosed.endJob (f : InFlight) (st : LabelState) (ev : Event) (s : State) (h : P s) :
    P (endJob f st ev s) := by
  have hr := hP.raise ev f.job.lane.code f.job.roll _ (hP.writeLabel f.job st s h)
  have he := hP.lbp _ (fun b => Lbp.granting { b with inFlight := none, printing := none, timer := none }) .endJob hr
  obtain ⟨g, hg⟩ := grant_eq ((Machine.raise ev f.job.lane.code f.job.roll (Machine.writeLabel f.job st s)).onLbp
    (fun b => { b with inFlight := none, printing := none, timer := none }))
  unfold Machine.endJob
  rw [hg]
  exact hP.history _ _ rfl rfl (by simp) he

/-! ### Finalising -/

theorem RollClosed.enterHistory (r : RollRecord) (s : State) (h : P s) : P (enterHistory r s) := by
  unfold Machine.enterHistory
  split
  next hl =>
    refine hP.history s _ rfl rfl (fun _ => ?_) h
    simp only [List.length_append, List.length_singleton, Config.historyCapacity] at hl ⊢
    omega
  next =>
    split
    next old rest hr => exact hP.lbp _ _ (.unlink _) (hP.history s _ rfl rfl (by simp [hr]) h)
    next => exact h

theorem RollClosed.dispose (how : Closing) (l : Lane) (r : OpenRoll) (n : Int) (s : State) (h : P s) :
    P (dispose how l r n s).1 := by
  unfold Machine.dispose
  split
  · exact h
  · exact hP.takeCandidate _ s h

theorem RollClosed.finalise (how : Closing) (l : Lane) (r : OpenRoll) (p : Pos) (s : State) (h : P s) :
    P (finalise how l r p s) := by
  have hr := fun x => hP.raise .rollDone l.code r.number _ (hP.enterHistory x _ (hP.dispose how l r (sdiff p r.opening) s h))
  unfold Machine.finalise
  dsimp only
  split
  · exact hP.offerLabel _ _ (hr _)
  · exact hr _

/-! ### The commands of the batch table and of the label port -/

theorem RollClosed.failAttempt (f : InFlight) (c : Byte) (s : State) (h : P s) : P (failAttempt f c s) := by
  have hc : P (s.onLbp (fun b => { b with lastFailure := c })) := hP.lbp s _ (.of_eq rfl rfl rfl rfl rfl) h
  unfold Machine.failAttempt
  dsimp only
  split
  · exact hP.lbp _ _ (.sendPrint _) hc
  · exact hP.endJob _ _ _ _ hc

theorem RollClosed.printerDone (fr : List Byte) (s : State) (h : P s) {t : State}
    (ht : execPrinterDone fr s = .next t) : P t := by
  obtain rfl := Host.Outcome.next.inj ht
  split
  · split
    · exact hP.endJob _ _ _ s h
    · exact h
  · exact h

theorem RollClosed.printerFault (fr : List Byte) (s : State) (h : P s) {t : State}
    (ht : execPrinterFault fr s = .next t) : P t := by
  obtain rfl := Host.Outcome.next.inj ht
  split
  · split
    · exact hP.failAttempt _ _ s h
    · exact h
  · exact h

theorem RollClosed.labelTimeout (s : State) (h : P s) {t : State} (ht : execLabelTimeout s = .next t) : P t := by
  obtain rfl := Host.Outcome.next.inj ht
  split
  · exact hP.failAttempt _ _ s h
  · exact h

theorem RollClosed.printSent (s : State) (h : P s) {t : State} (ht : execPrintSent s = .next t) : P t := by
  obtain rfl := Host.Outcome.next.inj ht
  split
  next hp =>
    refine hP.lbp s _ ⟨fun hg => ⟨fun hf => ?_, by simp⟩, id, id⟩ h
    simp [(hg.1 hf).2.2.1] at hp
  next => exact h

theorem RollClosed.discardJobs (roll : Nat) (s : State) (h : P s) : P (discardJobs roll s) := by
  have hFold : ∀ (js : List LabelJob) (t : State), P t →
      P (js.foldl (fun t j => Machine.writeLabel j .discarded t) t) := by
    intro js
    induction js with
    | nil => exact fun t ht => ht
    | cons j js ih => exact fun t ht => ih _ (hP.writeLabel j _ t ht)
  exact hFold _ _ (hP.lbp s _ (.filter _) h)
end

section
variable {P : State → Prop} (hP : Closed P)
include hP

theorem Closed.batchSet (tag : Byte) (f : BatchFields) (s : State) (h : P s) {t : State}
    (ht : execBatchSet tag f s = .next t) : P t := by
  obtain rfl := Host.Outcome.next.inj ht
  split
  · exact hP.answer _ _ _ _ s h
  · dsimp only
    split
    · exact hP.answer _ _ _ _ s h
    · exact hP.answer _ _ _ _ _ (hP.btu s _ ⟨id, le_rfl⟩ h)

theorem Closed.batchClose (tag : Byte) (c : List Byte) (s : State) (h : P s) {t : State}
    (ht : execBatchClose tag c s = .next t) : P t := by
  obtain rfl := Host.Outcome.next.inj ht
  split
  · exact hP.answer _ _ _ _ s h
  · split
    · exact hP.answer _ _ _ _ s h
    · exact hP.answer _ _ _ _ _ (hP.roll.closeBatch _ _ s h)

theorem Closed.batchBreak (tag : Byte) (s : State) (h : P s) {t : State}
    (ht : execBatchBreak tag s = .next t) : P t := by
  obtain rfl := Host.Outcome.next.inj ht
  split
  · exact hP.answer _ _ _ _ s h
  · exact hP.answer _ _ _ _ _ (hP.setBreak s h)

theorem Closed.labelSet (tag : Byte) (f : LabelFields) (s : State) (h : P s) {t : State}
    (ht : execLabelSet tag f s = .next t) : P t := by
  obtain rfl := Host.Outcome.next.inj ht
  split
  · exact hP.answer _ _ _ _ s h
  · exact hP.answer _ _ _ _ _ (hP.lbp s _ (.of_eq rfl rfl rfl rfl rfl) h)

theorem Closed.labelReprint (tag : Byte) (n : Nat) (s : State) (h : P s) {t : State}
    (ht : execLabelReprint tag n s = .next t) : P t := by
  obtain rfl := Host.Outcome.next.inj ht
  split
  · exact hP.answer _ _ _ _ s h
  · split
    · exact hP.answer _ _ _ _ s h
    · split
      next => exact hP.answer _ _ _ _ s h
      next hl =>
        exact hP.answer _ _ _ _ _ (hP.roll.joinLabel _ s (by simpa [buildJob, Config.labelCapacity] using hl) h)

theorem Closed.labelDiscard (tag : Byte) (n : Nat) (s : State) (h : P s) {t : State}
    (ht : execLabelDiscard tag n s = .next t) : P t := by
  obtain rfl := Host.Outcome.next.inj ht
  split
  · exact hP.answer _ _ _ _ s h
  · split
    · exact hP.answer _ _ _ _ _ (hP.roll.discardJobs _ s h)
    · split <;> exact hP.answer _ _ _ _ s h
end
end Sys2Proof.Machine
end

section
/-! The lanes: counting, firing, deferring and arming, the knife crossings, the turret and the lane requests. -/

namespace Sys2Proof.Machine

/-! ### Harmless changes of a lane -/

@[simp] theorem Rku.lane_onLane (r : Rku) (l : Lane) (f : LaneControl → LaneControl) :
    (r.onLane l f).lane l = f (r.lane l) := by cases l <;> rfl

@[simp] theorem Rku.lane_onLane_other (r : Rku) (l : Lane) (f : LaneControl → LaneControl) :
    (r.onLane l f).lane (otherLane l) = r.lane (otherLane l) := by cases l <;> rfl

theorem Rku.lanesOk_iff (r : Rku) (running : Bool) (l : Lane) :
    r.LanesOk running ↔ (r.lane l).coherent running ∧ (r.lane (otherLane l)).coherent running := by
  cases l
  · exact Iff.rfl
  · exact And.comm

/-- A change of the unit by which one lane stays coherent, the other and the history as they were. -/
theorem RkuMove.of_lane {running : Bool} {r r' : Rku} (l : Lane)
    (h : (r.lane l).coherent running → (r'.lane l).coherent running)
    (ho : r'.lane (otherLane l) = r.lane (otherLane l)) (hh : r'.history = r.history) : RkuMove running r r' where
  lanes hl := by
    rw [Rku.lanesOk_iff _ _ l] at hl ⊢
    exact ⟨h hl.1, ho ▸ hl.2⟩
  history hl := by rwa [hh]

/-- A change of the rolls that keeps whether one is open, beside state, cut, flag and enable. -/
theorem LaneControl.coherent_of_eq {k k' : LaneControl} {running : Bool} (hs : k'.state = k.state)
    (hr : k'.roll.isSome = k.roll.isSome) (hc : k'.cut.isSome = k.cut.isSome) (hf : k'.force = k.force)
    (he : k'.params.enabled = k.params.enabled) (h : k.coherent running) : k'.coherent running := by
  have hn : k'.roll = none ↔ k.roll = none := by
    rw [← Option.isSome_eq_false_iff.trans Option.isNone_iff_eq_none, hr,
      Option.isSome_eq_false_iff.trans Option.isNone_iff_eq_none]
  simpa only [LaneControl.coherent, hs, hr, hc, hf, he, hn] using h

/-- Where a cut stands the track runs, in LEADER or ARMED, and the lane is enabled with the force flag clear. -/
theorem LaneControl.coherent.of_cut {k : LaneControl} {running : Bool} (h : k.coherent running)
    (hc : k.cut.isSome = true) :
    (k.state = .leader ∨ k.state = .armed) ∧ running = true ∧ k.params.enabled = true ∧ k.force = false := by
  obtain ⟨-, -, h3, -, h5, h6⟩ := h
  obtain ⟨hs, hr⟩ := h3 hc
  refine ⟨hs, hr, ?_, ?_⟩
  · by_contra he
    have := h6 (by simpa using he)
    simp [this] at hs
  · by_contra hf
    have := h5 (by simpa using hf)
    simp [this] at hs

section
variable {P : State → Prop} (hP : Core P)
include hP

/-- A change of a lane beside its state, its cut, its flag and its enable, which keeps whether a roll is open. -/
theorem Core.laneBeside (l : Lane) (f : LaneControl → LaneControl) (s : State) (h : P s)
    (hr : (f (s.lane l)).roll.isSome = (s.lane l).roll.isSome := by rfl)
    (hs : (f (s.lane l)).state = (s.lane l).state := by rfl)
    (hc : (f (s.lane l)).cut.isSome = (s.lane l).cut.isSome := by rfl)
    (hf : (f (s.lane l)).force = (s.lane l).force := by rfl)
    (he : (f (s.lane l)).params.enabled = (s.lane l).params.enabled := by rfl) : P (s.onLane l f) :=
  hP.lane l f s (LaneControl.coherent_of_eq hs hr hc hf he) h

theorem Core.countRecord (l : Lane) (r : RepeatRecord) (s : State) (h : P s) : P (countRecord l r s) := by
  unfold Machine.countRecord
  split
  next => exact h
  next o ho =>
    exact hP.onRecord _ _ _ (hP.laneBeside l _ s h (hr := by simp [ho])) (by intro x; cases l <;> rfl)

/-- A cut fires: INDEXING with a new roll open (R133, R135). -/
theorem Core.openAtCut (l : Lane) (p : Pos) (s : State) (hc : (s.lane l).cut.isSome = true) (h : P s) :
    P (openRoll l p (s.onLane l (fun k => { k with
      pulses := k.pulses + 1, turret := some k.params.turretTimeout, cut := none, state := .indexing }))) := by
  have hm := hP.rku s (fun _ => (openRoll l p (s.onLane l (fun k => { k with
      pulses := k.pulses + 1, turret := some k.params.turretTimeout, cut := none, state := .indexing }))).rku)
    (.of_lane l (fun hk => ?_) ?_ ?_) h
  · exact hm
  · obtain ⟨-, -, he, hf⟩ := hk.of_cut hc
    cases l <;> simp_all [LaneControl.coherent, openRoll, State.onLane, State.onRku, Rku.onLane, Rku.lane, State.lane]
  · cases l <;> rfl
  · cases l <;> rfl
end

section
variable {P : State → Prop} (hP : Work P)
include hP

/-! ### Cut attempts -/

theorem Work.fireCut (l : Lane) (c : ArmedCut) (s : State) (hc : (s.lane l).cut.isSome = true) (h : P s) :
    P (fireCut l c s) := by
  have hr := fun n => hP.toCore.raise .cutDone l.code n _ (hP.openAtCut l c.reference s hc h)
  unfold Machine.fireCut
  dsimp only
  split
  · exact hP.roll.finalise _ _ _ _ _ (hr _)
  · exact hr _

theorem Work.deferRoll (l : Lane) (r : OpenRoll) (s : State) (hr : (s.lane l).roll = some r) (h : P s) :
    P (deferRoll l r s) := by
  have hd := hP.toCore.raise .cutDeferred l.code r.number _ (hP.laneBeside l
    (fun k => { k.wait with roll := some { r with deferrals := satInc 255 r.deferrals } }) s h
    (hr := by simp [hr]) (hc := by simp [LaneControl.wait]))
  unfold Machine.deferRoll
  dsimp only
  split
  · exact hP.toCore.raise _ _ _ _ (hP.laneBeside l _ _ hd (hr := by simp))
  · exact hd

theorem Work.attemptCut (l : Lane) (winder : Bool) (s : State) (h : P s) : P (attemptCut l winder s) := by
  unfold Machine.attemptCut
  split
  next => exact h
  next c hc =>
    split
    · exact hP.fireCut l c s (by simp [hc]) h
    · split
      next hr => exact hP.deferRoll l _ s hr h
      next => exact hP.toCore.raise _ _ _ _ (hP.laneBeside l _ s h (hc := by simp [LaneControl.wait]))

/-- A cut is armed where one stands already, or in LEADER while the track runs. -/
theorem Work.armCut (l : Lane) (n : Nat) (p : Pos) (winder : Bool) (s : State)
    (hs : P (s.onLane l (fun k => { k with cut := some (s.cutAt l n p) }))) : P (armCut l n p winder s) := by
  unfold Machine.armCut
  dsimp only
  split
  · split
    · exact hP.attemptCut _ _ _ (hP.laneBeside l _ _ hs (hr := by simp))
    · exact hP.attemptCut _ _ _ hs
  · exact hs

/-- A leader cut joins a LEADER lane while the track runs (R131). -/
theorem Work.leaderArming (l : Lane) (r : RepeatRecord) (winder : Bool) (s : State) (hr : s.running = true)
    (hl : (s.lane l).state = .leader) (h : P s) : P (leaderArming l r winder s) := by
  unfold Machine.leaderArming
  split
  · exact h
  · refine hP.armCut _ _ _ _ _ (hP.lane l _ s (fun ⟨h1, h2, _, h4, h5, h6⟩ => ?_) h)
    exact ⟨h1, h2, fun _ => ⟨.inl hl, hr⟩, fun _ => rfl, h5, h6⟩

/-- A roll cut arms a WINDING lane while the track runs (R132). -/
theorem Work.armingTest (l : Lane) (r : RepeatRecord) (winder : Bool) (s : State) (hr : s.running = true)
    (hl : (s.lane l).state = .winding) (h : P s) : P (armingTest l r winder s) := by
  unfold Machine.armingTest
  split
  next n x o _ ho =>
    split
    · refine hP.armCut _ _ _ _ _ ?_
      have hm := hP.lane l (fun k => { k with
          state := .armed, force := false
          cut := some ((s.onLane l (fun k => { k with state := .armed, force := false })).cutAt l n x) }) s
        (fun hk => ?_) h
      · cases l <;> exact hm
      · obtain ⟨-, -, -, -, -, h6⟩ := hk
        have he : (s.lane l).params.enabled = true := by
          by_contra he
          simp [h6 (by simpa using he)] at hl
        simp [LaneControl.coherent, ho, hr, he]
    · exact h
  next => exact h

theorem Work.cutRecordTest (l : Lane) (r : RepeatRecord) (winder : Bool) (s : State) (h : P s) :
    P (cutRecordTest l r winder s) := by
  unfold Machine.cutRecordTest
  split
  · split
    · exact hP.attemptCut _ _ s h
    · exact h
  · exact h

theorem Work.rearm (l : Lane) (r : RepeatRecord) (winder : Bool) (s : State) (h : P s) : P (rearm l r winder s) := by
  unfold Machine.rearm
  split
  next c hc =>
    split
    · split
      · exact hP.armCut _ _ _ _ _ (hP.laneBeside l _ s h (hc := by simp [hc]))
      · exact hP.laneBeside l _ s h (hc := by simp [hc])
    · exact h
  next => exact h

omit hP in
/-- Counting a record leaves the lane's state. -/
theorem countRecord_lane_state (l : Lane) (r : RepeatRecord) (s : State) :
    ((countRecord l r s).lane l).state = (s.lane l).state ∧ (countRecord l r s).running = s.running := by
  unfold Machine.countRecord
  split
  · exact ⟨rfl, rfl⟩
  · cases l <;> exact ⟨rfl, rfl⟩

theorem Work.laneCrossing (l : Lane) (r : RepeatRecord) (winder : Bool) (s : State) (hr : s.running = true)
    (h : P s) : P (laneCrossing l r winder s) := by
  unfold Machine.laneCrossing
  split
  next => exact h
  next hl =>
    split
    · exact hP.leaderArming l r winder s hr hl h
    · dsimp only
      split
      · exact hP.rearm _ _ _ _ (hP.cutRecordTest _ _ _ s h)
      · exact hP.countRecord _ _ _ (hP.cutRecordTest _ _ _ s h)
  next hl =>
    obtain ⟨hs, hr'⟩ := countRecord_lane_state l r s
    exact hP.armingTest l r winder _ (hr'.trans hr) (hs.trans hl) (hP.countRecord l r s h)
  next => exact hP.rearm _ _ _ _ (hP.countRecord _ _ _ (hP.cutRecordTest _ _ _ s h))
  next => exact hP.countRecord _ _ s h

theorem Work.knifeCrossing (l : Lane) (r : RepeatRecord) (winder : Bool) (s : State) (hr : s.running = true)
    (h : P s) : P (knifeCrossing l r winder s) := by
  unfold Machine.knifeCrossing
  dsimp only
  split
  · exact hP.toCore.raise _ _ _ _ (hP.laneCrossing _ _ _ s hr h)
  · exact hP.laneCrossing _ _ _ s hr h
end
end Sys2Proof.Machine
end

section
/-! The crossings of a point, and the commands of the roll unit, the measurement unit, the event unit and the link. -/

namespace Sys2Proof.Machine

/-! ### Whether a track runs, through the work of a crossing -/

/-- A change of the measurement unit beside its contexts, its held stops, its run and its counts. -/
structure SmuBeside (m m' : Smu) : Prop where
  contexts : m'.contexts = m.contexts
  standing : m'.standing = m.standing
  heldStops : m'.heldStops = m.heldStops
  calRun : m'.calRun = m.calRun
  faults : m'.faults = m.faults
  drops : m'.drops = m.drops
  results : m.results.length ≤ 4 → m'.results.length ≤ 4

/-- What the abandoning of a spot keeps: `P` until the held replies leave, and `Q` from there (R92, R117). -/
theorem abandonSpot_keeps {P Q : State → Prop} (hraise : ∀ ev p1 p2 t, P t → P (raise ev p1 p2 t))
    (hsmu : ∀ t f, SmuBeside t.smu (f t.smu) → P t → P (t.onSmu f))
    (hheld : ∀ t, P t → Q (t.onSmu (fun m => { m with heldStops := [] })))
    (hreply : ∀ r t, Q t → Q (pushReply r t)) (c : SpotContext) (s : State) (h : P s) : Q (abandonSpot c s) := by
  have hb : P (dropBus s) := hsmu s _ ⟨rfl, rfl, rfl, rfl, rfl, rfl, id⟩ h
  have ho : P (endSpot c .abandoned (dropBus s)) := by
    unfold endSpot offerResult
    refine hraise _ _ _ _ ?_
    split
    next hl =>
      exact hsmu _ _ ⟨rfl, rfl, rfl, rfl, rfl, rfl, fun _ => by simp [Config.resultCapacity] at hl ⊢; omega⟩ hb
    next =>
      split
      · split
        next old rest hr => exact hraise _ _ _ _ (hsmu _ _ ⟨rfl, rfl, rfl, rfl, rfl, rfl, by simp [hr]⟩ hb)
        next => exact hb
      · exact hraise _ _ _ _ hb
  have ha : P (applyStaged c.slot (endSpot c .abandoned (dropBus s))) := by
    unfold applyStaged
    split
    · exact ho
    · exact hsmu _ _ ⟨rfl, rfl, rfl, rfl, rfl, rfl, id⟩ ho
  exact releaseStops_keeps Q _ hreply (hheld _ ha)

/-- What Work allows never starts or stops the track. -/
theorem work_running (b : Bool) : Work (fun t => t.running = b) where
  notice ev p1 p2 t h := by simpa [State.running] using h
  reply r t h := by simpa [State.running] using h
  hold armed t hl h := by simpa [State.running, hl] using h
  wtb t f hl _ h := by simpa [State.running, hl] using h
  tku t f _ h := h
  rlu t f _ h := h
  epu t f _ h := h
  smu t f _ h := h
  rku t f _ h := h
  btu t f _ h := h
  lbp t f _ h := h
  evu t f _ h := h
  svl t f _ h := h
  pins t f h := h
  abandon c t _ h := abandonSpot_keeps (P := fun t => t.running = b) (Q := fun t => t.running = b)
    (fun _ _ _ _ h => by simpa using h) (fun _ _ _ h => h) (fun _ h => h)
    (fun _ _ h => by simpa [State.running] using h) c t h
  append c t _ h := by
    show (displaceBatch t).running = b
    unfold displaceBatch
    split
    · exact h
    · split
      · exact h
      · rw [closeBatch, raise_running]
        exact h

section
variable {P : State → Prop} (hP : Work P)
include hP

/-! ### The crossings -/

theorem Work.knifePoint (l : Lane) (n : Nat) (winder : Bool) (s : State) (hr : s.running = true) (h : P s) :
    P (knifePoint l n winder s) := by
  unfold Machine.knifePoint
  dsimp only
  split
  · exact hP.knifeCrossing _ _ _ _ ((work_running true).head.shadeAtKnife n s hr) (hP.head.shadeAtKnife n s h)
  · exact hP.head.shadeAtKnife n s h

theorem Work.handOff (p : Point) (n : Nat) (winder : Bool) (s : State) (hr : s.running = true) (h : P s) :
    P (handOff p n winder s) :=
  match p with
  | .emboss => hP.embossCrossing n s h
  | .shade => hP.shadeCrossing n s h
  | .knife l => hP.knifePoint l n winder s hr h

theorem Work.crossOne (p : Point) (n : Nat) (winder : Bool) (s : State) (hr : s.running = true) (h : P s) :
    P (crossOne p n winder s) := by
  have hm := hP.moveCursor p n _ (hP.handOff p n winder s hr h)
  cases p with
  | knife l => exact hP.retire n _ hm
  | emboss => exact hm
  | shade => exact hm

theorem Work.crossAll (p : Point) (winder : Bool) (fuel : Nat) (s : State) (hr : s.running = true) (h : P s) :
    P (crossAll p winder fuel s) := by
  induction fuel generalizing s with
  | zero => exact h
  | succ n ih =>
    unfold Machine.crossAll
    split
    · exact h
    · exact ih _ ((work_running true).crossOne p _ winder s hr hr) (hP.crossOne p _ winder s hr h)

theorem Work.pointCrossing (p : Point) (winder : Bool) (s : State) (h : P s) {t : State}
    (ht : execPointCrossing p winder s = .next t) : P t := by
  obtain rfl := Host.Outcome.next.inj ht
  split
  next hc =>
    have hr : s.running = true := by simp_all [State.advancing]
    exact hP.crossAll _ _ _ s hr h
  next => exact h

theorem Work.firePosition (l : Lane) (winder : Bool) (s : State) (h : P s) {t : State}
    (ht : execFirePosition l winder s = .next t) : P t := by
  obtain rfl := Host.Outcome.next.inj ht
  split
  · split
    · exact hP.attemptCut _ _ s h
    · exact h
  · exact h

end

section
variable {P : State → Prop} (hP : Core P)
include hP

/-! ### The turret and the lane requests -/

/-- The turret ends INDEXING in WINDING, its roll open (R139). -/
theorem Core.endIndexing (l : Lane) (s : State) (hl : (s.lane l).state = .indexing) (h : P s) :
    P (s.onLane l (fun k => { k with state := .winding, turret := none })) := by
  refine hP.lane l _ s (fun ⟨h1, _, h3, _, _, h6⟩ => ?_) h
  have hc : (s.lane l).cut = none := by
    by_contra hc
    simpa [hl] using (h3 (by simpa [Option.isSome_iff_ne_none] using hc)).1
  have he : (s.lane l).params.enabled = true := by
    by_contra he
    simp [h6 (by simpa using he)] at hl
  simp [LaneControl.coherent, hc, he, h1 (.inr (.inr hl))]

theorem Core.turretDone (l : Lane) (e : Bool) (s : State) (h : P s) {t : State}
    (ht : execTurretDone l e s = .next t) : P t := by
  obtain rfl := Host.Outcome.next.inj ht
  cases l
  all_goals
    dsimp only
    split
    · split
      next hl => exact hP.endIndexing _ s hl h
      next => exact hP.laneBeside _ _ s h
      all_goals exact h
    · exact h

omit hP in
/-- A lane whose enable clears has no roll, no cut and no flag left (R127). -/
theorem LaneControl.coherent_write {k : LaneControl} {running : Bool} (p : LaneParams)
    (hr : p.enabled ≠ k.params.enabled → running = false)
    (hb : k.params.enabled = true → p.enabled = false → k.roll = none) (h : k.coherent running) :
    (writeLane p k).coherent running := by
  unfold writeLane
  split
  next hc =>
    obtain ⟨h1, h2, h3, h4, h5, h6⟩ := h
    have hroll := hb hc.1 hc.2
    have hrun : running = false := hr (by simp [hc.1, hc.2])
    have hcut : k.cut = none := by
      by_contra hn
      simpa [hrun] using (h3 (by simpa [Option.isSome_iff_ne_none] using hn)).2
    have hforce : k.force = false := by
      by_contra hf
      simpa [hroll] using h1 (.inl (h5 (by simpa using hf)))
    simp [LaneControl.coherent, hroll, hcut, hforce]
  next hc =>
    obtain ⟨h1, h2, h3, h4, h5, h6⟩ := h
    refine ⟨h1, h2, h3, h4, h5, fun hp => h6 ?_⟩
    by_contra he
    exact hc ⟨by simpa using he, hp⟩

theorem Core.laneSet (tag : Byte) (l : Coded Lane) (f : LaneFields) (s : State) (h : P s) {t : State}
    (ht : execLaneSet tag l f s = .next t) : P t := by
  obtain rfl := Host.Outcome.next.inj ht
  split
  · exact hP.answer _ _ _ _ s h
  next l =>
    split
    · exact hP.answer _ _ _ _ s h
    next p _ =>
      split
      · exact hP.answer _ _ _ _ s h
      · split
        next => exact hP.answer _ _ _ _ s h
        next hn =>
          simp only [laneRefusal] at hn
          split at hn
          next => simp at hn
          next h1 =>
            split at hn
            next => simp at hn
            next h2 =>
              push Not at h1 h2
              refine hP.answer _ _ _ _ _ (hP.lane l _ s (LaneControl.coherent_write p (fun hne => ?_) fun he hp => ?_) h)
              · by_contra hr
                have hl := h1 (.inl hne)
                cases hs : s.wtb.line <;> simp_all [State.running]
              · simpa using h2 he hp

theorem Core.cut (tag : Byte) (l : Coded Lane) (s : State) (h : P s) {t : State}
    (ht : execCut tag l s = .next t) : P t := by
  obtain rfl := Host.Outcome.next.inj ht
  split
  · exact hP.answer _ _ _ _ s h
  · split
    · exact hP.answer _ _ _ _ s h
    · exact hP.answer _ _ _ _ s h
    · exact hP.answer _ _ _ _ _ (hP.cutLane _ s h)

/-- The read cursor of the history moves. -/
theorem Core.rollCursor (n : Option Nat) (s : State) (h : P s) :
    P (s.onRku (fun k => { k with readCursor := n })) := hP.rku s _ (.of_eq rfl rfl le_rfl) h

theorem Core.rollSeek (tag : Byte) (x : Coded SeekTarget) (s : State) (h : P s) {t : State}
    (ht : execRollSeek tag x s = .next t) : P t := by
  obtain rfl := Host.Outcome.next.inj ht
  split
  · exact hP.answer _ _ _ _ s h
  · exact hP.answer _ _ _ _ _ (hP.rollCursor _ s h)

theorem Core.rollRead (tag : Byte) (c : Nat) (s : State) (h : P s) {t : State}
    (ht : execRollRead tag c s = .next t) : P t := by
  obtain rfl := Host.Outcome.next.inj ht
  split
  · exact hP.answer _ _ _ _ s h
  · exact hP.answer _ _ _ _ _ (hP.rollCursor _ s h)

/-! ### The requests of the measurement unit -/

theorem Core.shadeSet (tag : Byte) (f : ShadeFields) (s : State) (h : P s) {t : State}
    (ht : execShadeSet tag f s = .next t) : P t := by
  obtain rfl := Host.Outcome.next.inj ht
  split
  · exact hP.answer _ _ _ _ s h
  · split
    · exact hP.answer _ _ _ _ s h
    · refine hP.answer _ _ _ _ _ (hP.smu s _ ⟨⟨id, id⟩, fun ⟨h1, h2, h3, h4, h5⟩ => ⟨fun hs => h1 ?_, h2, h3, h4, h5⟩⟩ h)
      simp only [Smu.write] at hs
      split at hs
      · simp at hs
      · exact hs

theorem Core.slotEnable (tag mask : Byte) (s : State) (h : P s) {t : State}
    (ht : execSlotEnable tag mask s = .next t) : P t := by
  obtain rfl := Host.Outcome.next.inj ht
  refine hP.answer _ _ _ _ _ (hP.smu s _ (.of_eq rfl rfl rfl (hf := fun i hi => ?_)) h)
  simp only [Smu.enable, Fin.getElem_fin, Vector.getElem_ofFn]
  split
  · decide
  · exact hi

theorem Core.guardSet (tag : Byte) (c : Coded Colour) (f : GuardFields) (s : State) (h : P s) {t : State}
    (ht : execGuardSet tag c f s = .next t) : P t := by
  obtain rfl := Host.Outcome.next.inj ht
  split
  next c g _ => exact hP.answer _ _ _ _ _ (hP.smu s _ (by cases c <;> exact .of_eq rfl rfl rfl) h)
  next => exact hP.answer _ _ _ _ s h

theorem Core.spotTriggerRequest (tag : Byte) (s : State) (h : P s) {t : State}
    (ht : execSpotTrigger tag s = .next t) : P t := by
  obtain rfl := Host.Outcome.next.inj ht
  split
  case h_4 => exact hP.answer _ _ _ _ _ (hP.spotTrigger _ s h)
  case h_5 => exact hP.answer _ _ _ _ _ (hP.spotTrigger _ s h)
  all_goals exact hP.answer _ _ _ _ s h

/-- SPOT STOP empties the queue; its reply is held only behind a spot in progress (R117). -/
theorem Core.spotStop (tag : Byte) (s : State) (h : P s) {t : State} (ht : execSpotStop tag s = .next t) : P t := by
  obtain rfl := Host.Outcome.next.inj ht
  split
  next c hc =>
    exact hP.smu s (fun m => { m with
        contexts := [], standing := none, heldStops := m.heldStops ++ [⟨tag, s.smu.contexts.length⟩] })
      ⟨⟨by simp, id⟩, fun ⟨_, _, h3, h4, h5⟩ => ⟨by simp, fun _ => ⟨by
        show (Smu.spotInProgress _).isSome = true
        have : s.smu.spotInProgress.isSome = true := by simp [hc]
        exact this, rfl⟩, h3, h4, h5⟩⟩ h
  next =>
    exact hP.reply _ _ (hP.smu s _
      ⟨⟨by simp, id⟩, fun ⟨_, h2, h3, h4, h5⟩ => ⟨by simp, fun hh => ⟨(h2 hh).1, rfl⟩, h3, h4, h5⟩⟩ h)

theorem Core.spotRead (tag : Byte) (c : Nat) (s : State) (h : P s) {t : State}
    (ht : execSpotRead tag c s = .next t) : P t := by
  obtain rfl := Host.Outcome.next.inj ht
  split
  · exact hP.answer _ _ _ _ s h
  · refine hP.answer _ _ _ _ _ (hP.smu s _ (.of_eq rfl rfl rfl (fun hr => ?_)) h)
    simp only [List.length_drop]
    omega

theorem Core.calWrite (tag : Byte) (i : Nat) (f : Factors) (s : State) (h : P s) {t : State}
    (ht : execCalWrite tag i f s = .next t) : P t := by
  obtain rfl := Host.Outcome.next.inj ht
  split
  · exact hP.answer _ _ _ _ s h
  · split
    · exact hP.answer _ _ _ _ s h
    · split <;> exact hP.answer _ _ _ _ _ (hP.smu s _ (.of_eq rfl rfl rfl) h)

theorem Core.calRead (tag : Byte) (i : Nat) (s : State) (h : P s) {t : State}
    (ht : execCalRead tag i s = .next t) : P t := by
  obtain rfl := Host.Outcome.next.inj ht
  split <;> exact hP.answer _ _ _ _ s h

/-- A calibration run begins outside RUN and FAULT with a slot to do (R122). -/
theorem Core.calibrate (tag mask : Byte) (s : State) (h : P s) {t : State}
    (ht : execCalibrate tag mask s = .next t) : P t := by
  obtain rfl := Host.Outcome.next.inj ht
  split
  next => exact hP.answer _ _ _ _ s h
  next hm =>
    split
    next => exact hP.answer _ _ _ _ s h
    next hl =>
      push Not at hl
      split
      · exact hP.answer _ _ _ _ s h
      · split
        · exact hP.answer _ _ _ _ s h
        · refine hP.answer _ _ _ _ _ (hP.smu s _ ⟨⟨id, id⟩, fun ⟨h1, h2, _, h4, h5⟩ => ⟨h1, h2, ?_, h4, h5⟩⟩ h)
          rintro _ ⟨⟩
          exact ⟨hm, hl⟩

/-! ### The requests of the event unit -/

theorem Core.eventLevel (tag : Byte) (c l : Nat) (s : State) (h : P s) {t : State}
    (ht : execEventLevel tag c l s = .next t) : P t := by
  obtain rfl := Host.Outcome.next.inj ht
  split
  next => exact hP.answer _ _ _ _ s h
  next ev _ =>
    split
    next => exact hP.answer _ _ _ _ s h
    next hl =>
      refine hP.answer _ _ _ _ _ (hP.evu s _ ⟨fun ⟨h1, h2, h3, h4⟩ => ⟨h1, h2, fun i => ?_, h4⟩, rfl, rfl⟩ h)
      simp only [Fin.getElem_fin, Vector.getElem_set]
      split
      · simp [within] at hl
        exact hl
      · exact h3 i

theorem Core.routeBind (tag : Byte) (i c : Nat) (a : Coded RouteAction) (n : Nat) (s : State) (h : P s) {t : State}
    (ht : execRouteBind tag i c a n s = .next t) : P t := by
  obtain rfl := Host.Outcome.next.inj ht
  split
  · split
    next => exact hP.answer _ _ _ _ s h
    next hn =>
      refine hP.answer _ _ _ _ _ (hP.evu s _ (.setRoute _ _ ?_) h)
      rintro - _ ⟨⟩
      simp [within] at hn ⊢
      omega
  · exact hP.answer _ _ _ _ s h

theorem Core.routeUnbind (tag : Byte) (i : Nat) (s : State) (h : P s) {t : State}
    (ht : execRouteUnbind tag i s = .next t) : P t := by
  obtain rfl := Host.Outcome.next.inj ht
  split
  · exact hP.answer _ _ _ _ s h
  · exact hP.answer _ _ _ _ _ (hP.evu s _ (.setRoute _ _ (by simp)) h)

theorem Core.routeFire (tag : Byte) (i : Nat) (s : State) (h : P s) {t : State}
    (ht : execRouteFire tag i s = .next t) : P t := by
  obtain rfl := Host.Outcome.next.inj ht
  split
  · exact hP.answer _ _ _ _ s h
  · split
    · exact hP.answer _ _ _ _ s h
    · refine hP.answer _ _ _ _ _ ?_
      split
      · exact hP.finishAction _ _ _ (hP.runAction _ _ _ s h)
      · exact hP.runAction _ _ _ s h

/-! ### The receiver -/

/-- A change of the link beside its queues and its sender. -/
theorem Core.linkBeside (f : Svl → Svl) (s : State) (h : P s) (hr : (f s.svl).replies = s.svl.replies := by rfl)
    (hs : (f s.svl).sending = s.svl.sending := by rfl) (hp : (f s.svl).replied = s.svl.replied := by rfl)
    (hi : (f s.svl).input = s.svl.input := by rfl) : P (s.onSvl f) :=
  hP.svl s f ⟨hr, hs, hp, fun h => by rwa [hi]⟩ h

theorem Core.discardFrame (s : State) (h : P s) : P (discardFrame s) := hP.linkBeside _ s h

theorem Core.enqueue (f : RequestFrame) (s : State) (h : P s) : P (enqueue f s) := by
  have hr : P (s.onSvl (fun v => { v with receiver := none })) := hP.linkBeside _ s h
  unfold Machine.enqueue
  dsimp only
  split
  next hl =>
    refine hP.svl _ _ ⟨rfl, rfl, rfl, fun _ => ?_⟩ hr
    simp [Config.inputCapacity] at hl ⊢
    omega
  next =>
    split
    · exact hP.discardFrame _ hr
    · exact hP.reply _ _ hr

theorem Core.receiveByte (s : State) (b : Byte) (h : P s) : P (receiveByte s b) := by
  unfold Machine.receiveByte
  split
  · split
    · exact hP.linkBeside _ s h
    · exact h
  · unfold receiveMore
    dsimp only
    split
    · exact hP.linkBeside _ s h
    · split
      · exact hP.discardFrame s h
      · split
        · exact hP.linkBeside _ s h
        · unfold judgeFrame
          dsimp only
          split
          · exact hP.enqueue _ s h
          · exact hP.discardFrame s h

theorem Core.frameReceived (bs : List Byte) (s : State) (h : P s) {t : State}
    (ht : execFrameReceived bs s = .next t) : P t := by
  obtain rfl := Host.Outcome.next.inj ht
  induction bs generalizing s with
  | nil => exact h
  | cons b bs ih => exact ih _ (hP.receiveByte s b h) rfl

theorem Core.interByteTimeout (s : State) (h : P s) {t : State} (ht : execInterByteTimeout s = .next t) : P t := by
  obtain rfl := Host.Outcome.next.inj ht
  split
  · exact hP.discardFrame s h
  · exact h
end
end Sys2Proof.Machine
end

section
/-! The frame slots of the head bus, the spots and parking of the heads, the creation of a record, and every command:
`exec_keeps`. -/

namespace Sys2Proof.Machine

/-! ### The frame slots -/

/-- The spot in progress after the bus has passed to a measurement for the same user. -/
theorem SmuMove.sameUser {line : LineState} {m : Smu} {b b' : Measurement} (hb : m.bus = some b)
    (hu : b'.user = b.user) : SmuMove line m { m with bus := some b' } :=
  .of_eq rfl rfl rfl (hp := by simp [Smu.spotInProgress, hb, hu])

/-- Without a held SPOT STOP the bus may be freed of any user. -/
theorem SmuMove.dropBus_of_unheld {line : LineState} {m : Smu} (h : m.heldStops = []) :
    SmuMove line m { m with bus := none } where
  contexts := id
  results := id
  head hm := ⟨hm.1, fun hh => absurd h hh, hm.2.2⟩

@[simp] theorem applyStaged_calRun (slot : Fin 6) (s : State) : (applyStaged slot s).smu.calRun = s.smu.calRun := by
  unfold applyStaged
  split <;> rfl

@[simp] theorem Measurement.settle_user (b : Measurement) (e : Exchange) : (b.settle e).user = b.user := by
  unfold Measurement.settle
  split <;> rfl

section
variable {P : State → Prop} (hP : Work P)
include hP

theorem Work.raiseGuard (slot : Fin 6) (rd : ShadeReading) (n : Option Nat) (s : State) (h : P s) :
    P (raiseGuard slot rd n s) := by
  unfold Machine.raiseGuard
  split
  · exact hP.toCore.raise _ _ _ s h
  all_goals exact h

omit hP in
/-- A shade entry leaves a record its number. -/
theorem RepeatRecord.addShade_number (r : RepeatRecord) (slot : Fin 6) (rd : ShadeReading) :
    (r.addShade slot rd).number = r.number := by
  unfold RepeatRecord.addShade
  dsimp only
  split <;> rfl

theorem Work.writeShade (slot : Fin 6) (rd : ShadeReading) (n : Option Nat) (s : State) (h : P s) :
    P (writeShade slot rd n s) := by
  unfold Machine.writeShade
  split
  · exact hP.onRecord _ _ s h (fun r => r.addShade_number slot rd)
  · exact h

/-- A head fault count stays below the limit: the eighth INVALID in a row takes it to 0 (R94). -/
theorem Work.countFault (slot : Fin 6) (rd : ShadeReading) (n : Option Nat) (s : State) (h : P s) :
    P (countFault slot rd n s) := by
  have hset : ∀ x : Nat, x < Config.headFaultLimit → ∀ i : Fin 6, s.smu.faults[i] < Config.headFaultLimit →
      (s.smu.faults.set slot x)[i] < Config.headFaultLimit := by
    intro x hx i hi
    simp only [Fin.getElem_fin, Vector.getElem_set]
    split
    · exact hx
    · exact hi
  unfold Machine.countFault
  split
  · exact hP.smu s _ (.of_eq rfl rfl rfl (hf := hset 0 (by decide))) h
  · exact hP.smu s _ (.of_eq rfl rfl rfl (hf := hset 0 (by decide))) h
  · split
    next hl => exact hP.smu s _ (.of_eq rfl rfl rfl (hf := hset _ hl)) h
    next => exact hP.toCore.raise _ _ _ _ (hP.smu s _ (.of_eq rfl rfl rfl (hf := hset 0 (by decide))) h)

theorem Work.completeShade (b : Measurement) (rd : ShadeReading) (n : Option Nat) (s : State) (h : P s) :
    P (completeShade b rd n s) :=
  hP.countFault _ _ _ _ (hP.writeShade _ _ _ _ (hP.raiseGuard _ _ _ s h))

theorem Work.advanceScan (r p : Nat) (s : State) (h : P s) : P (advanceScan r p s) := by
  have hp : P (s.onSmu (fun m => { m with pointer := nextPosition m.params.scanList.length p })) :=
    hP.smu s _ (.of_eq rfl rfl rfl) h
  unfold Machine.advanceScan
  dsimp only
  split
  · split
    · exact hP.head.raiseOverrun _ _ _ (hP.smu _ _ (.of_eq rfl rfl rfl) hp)
    · exact hp
  · split
    · split
      · exact hP.smu _ _ (.of_eq rfl rfl rfl) hp
      · exact hp
    · exact hp

theorem Work.completeScan (b : Measurement) (r p : Nat) (s : State) (hs : s.smu.spotInProgress = none) (h : P s) :
    P (completeScan b r p s) :=
  hP.head.applyStaged _ _ (hP.advanceScan _ _ _ (hP.completeShade _ _ _ _ (hP.head.dropBus s hs h)))

theorem Work.completeSpot (b : Measurement) (c : SpotContext) (s : State) (hh : s.smu.heldStops = []) (h : P s) :
    P (completeSpot b c s) :=
  hP.head.applyStaged _ _ (hP.head.offerResult _ _ (hP.completeShade _ _ _ _
    (hP.smu s _ (.dropBus_of_unheld hh) h)))

/-- The run goes on while slots are left, and leaves with the last (R123). -/
theorem Work.nextCalibration (c c' : CalRun) (s : State) (hc : s.smu.calRun = some c) (h : P s) :
    P (nextCalibration c' s) := by
  unfold Machine.nextCalibration
  split
  next => exact hP.toCore.raise _ _ _ _ (hP.smu s _ (.of_eq rfl rfl rfl (hcal := by simp)) h)
  next ht =>
    refine hP.smu s _ ⟨⟨id, id⟩, fun ⟨h1, h2, h3, h4⟩ => ⟨h1, h2, ?_, h4⟩⟩ h
    rintro _ ⟨⟩
    exact ⟨by simp [ht], (h3 c hc).2⟩

theorem Work.completeCalibration (b : Measurement) (s : State) (hs : s.smu.spotInProgress = none) (h : P s) :
    P (completeCalibration b s) := by
  have hb := hP.head.dropBus s hs h
  unfold Machine.completeCalibration
  split
  next => exact hP.head.applyStaged _ _ hb
  next c hc =>
    dsimp only
    split
    · exact hP.nextCalibration c _ _ (by rw [applyStaged_calRun]; exact hc)
        (hP.head.applyStaged _ _ (hP.smu _ _ (.of_eq rfl rfl rfl) hb))
    · exact hP.nextCalibration c _ _ (by rw [applyStaged_calRun]; exact hc) (hP.head.applyStaged _ _ hb)

/-- A settled sample, of the measurement that holds the bus. -/
theorem Work.afterSample (b : Measurement) (b₀ : Measurement) (s : State) (hb : s.smu.bus = some b₀)
    (hu : b.user = b₀.user) (h : P s) : P (afterSample b s) := by
  unfold Machine.afterSample
  split
  next c _ _ hc _ => exact hP.abandon c s (by simp [Smu.spotInProgress, hb, ← hu, hc]) h
  next hn =>
    split
    · unfold completeMeasurement
      split
      next r p hs => exact hP.completeScan _ _ _ s (Smu.spotInProgress_of_scan hb (hu ▸ hs)) h
      next c hs =>
        refine hP.completeSpot _ _ s ?_ h
        cases hh : s.smu.heldStops with
        | nil => rfl
        | cons x xs => exact absurd hh (hn c x xs hs)
      next hs => exact hP.completeCalibration _ s (Smu.spotInProgress_of_cal hb (hu ▸ hs)) h
    · exact hP.smu s _ (.sameUser hb hu) h

theorem Work.frameSlotEnd (s : State) (h : P s) {t : State} (ht : execFrameSlotEnd s = .next t) : P t := by
  obtain rfl := Host.Outcome.next.inj ht
  split
  next b hb =>
    split
    · exact hP.afterSample _ b s hb (Measurement.settle_user ..) h
    · exact h
  next => exact h

theorem Work.headAnswer (fr : List Byte) (s : State) (h : P s) {t : State}
    (ht : execHeadAnswer fr s = .next t) : P t := by
  obtain rfl := Host.Outcome.next.inj ht
  split
  next b hb =>
    split
    · exact hP.smu s _ (.sameUser hb rfl) h
    · exact h
  next => exact h

theorem Work.frameSlotStart (s : State) (h : P s) {t : State} (ht : execFrameSlotStart s = .next t) : P t := by
  obtain rfl := Host.Outcome.next.inj ht
  split
  next hb => exact hP.head.arbitrate s hb h
  next b hb =>
    split
    · refine hP.smu s _ (.sendSample b fun hs => ?_) h
      cases hu : b.user with
      | spot c => exact ⟨c, rfl⟩
      | scan r p => simp [Smu.spotInProgress, hb, hu] at hs
      | cal => simp [Smu.spotInProgress, hb, hu] at hs
    · exact h

/-! ### Parking and spots -/

theorem Work.prkActive (s : State) (h : P s) {t : State} (ht : execPrkActive s = .next t) : P t := by
  obtain rfl := Host.Outcome.next.inj ht
  exact hP.head.abandonSpotIf _ _ (hP.head.abandonScans _ (hP.pins s _ h))

theorem Work.prkInactive (s : State) (h : P s) {t : State} (ht : execPrkInactive s = .next t) : P t := by
  obtain rfl := Host.Outcome.next.inj ht
  exact hP.head.endCalibrationEarly _ (hP.pins s _ h)

theorem Work.spot (tag : Byte) (i k : Nat) (x : Coded SpotTarget) (g : Nat) (s : State) (h : P s) {t : State}
    (ht : execSpot tag i k x g s = .next t) : P t := by
  obtain rfl := Host.Outcome.next.inj ht
  split
  · split
    · exact hP.answer _ _ _ _ s h
    · split
      · exact hP.answer _ _ _ _ s h
      · exact hP.answer _ _ _ _ s h
      next hr =>
        obtain ⟨hh, hl⟩ := spotRefusal_none hr
        have hj := fun c => hP.joinSpot c _ (by simpa using hh) (by simpa using hl)
          (hP.answer tag 0x2B#8 .ok [] s h)
        unfold missIfPassed
        dsimp only
        split
        · split
          · exact hP.head.endSpot _ _ _ (hP.smu _ _ (.consume (by simp [Machine.joinSpot])
              (by simp)) (hj _))
          · exact hj _
        all_goals exact hj _
  · exact hP.answer _ _ _ _ s h
end

section
variable {P : State → Prop} (hP : Closed P)
include hP

/-! ### What is left of the line side and of the link -/

theorem Closed.turretTimeout (l : Lane) (s : State) (h : P s) {t : State}
    (ht : execTurretTimeout l s = .next t) : P t := by
  obtain rfl := Host.Outcome.next.inj ht
  split
  · exact hP.latchCause _ _ (hP.laneBeside l _ s h)
  · exact h

theorem Closed.noticeFloor (tag : Byte) (n : Nat) (s : State) (h : P s) {t : State}
    (ht : execNoticeFloor tag n s = .next t) : P t := by
  obtain rfl := Host.Outcome.next.inj ht
  split
  next => exact hP.answer _ _ _ _ s h
  next hn => exact hP.lowered _ _ n s (by simpa [within] using hn) h

theorem Closed.noticeClear (tag : Byte) (c : Nat) (s : State) (h : P s) {t : State}
    (ht : execNoticeClear tag c s = .next t) : P t := by
  obtain rfl := Host.Outcome.next.inj ht
  split
  · exact hP.answer _ _ _ _ s h
  · exact hP.cleared _ _ _ s h

theorem Closed.frameSent (s : State) (h : P s) {t : State} (ht : execFrameSent s = .next t) : P t := by
  obtain rfl := Host.Outcome.next.inj ht
  split
  · exact h
  · split
    · exact hP.returned s h
    · exact hP.sent s h

theorem Closed.powerOnRow (s : State) (h : P s) {t : State} (ht : execPowerOn s = .next t) : P t := by
  obtain rfl := Host.Outcome.next.inj ht
  exact hP.powerOn s h
end

/-! ### The creation of a record -/

/-- A property `P` of the state before a record joins, and `Q` of the state after. -/
structure Joining (P Q : State → Prop) : Prop where
  before : Work P
  after : Work Q
  join : ∀ origin birth t, t.running = true → t.trackFull = false → P t → Q (joinTrack origin birth t)

/-- A pair of properties that every command takes from `P` to `Q`. -/
structure Creating (P Q : State → Prop) : Prop where
  before : Closed P
  after : Closed Q
  weaken : ∀ t, P t → Q t
  join : ∀ origin birth t, t.running = true → t.trackFull = false → P t → Q (joinTrack origin birth t)

theorem Creating.joining {P Q : State → Prop} (h : Creating P Q) : Joining P Q :=
  ⟨h.before.toWork, h.after.toWork, h.join⟩

/-- A record that joins neither starts nor stops the track. -/
theorem joining_running (b : Bool) : Joining (fun t => t.running = b) (fun t => t.running = b) :=
  ⟨work_running b, work_running b, fun _ _ _ _ _ h => h⟩

/-- The track once the new record has joined and the span before it has closed (R29, steps 2 and 3). -/
def joinAndClose (origin : Pos) (birth : Birth) (s : State) : State :=
  match s.tku.newest with
  | some r => closeSpan r origin birth (joinTrack origin birth s)
  | none => joinTrack origin birth s

/-- The new record gets its windows, and the empty cursors move onto it (R29, steps 4 and 5). -/
def fitRecord (n : Nat) (s : State) : State :=
  s.onTku (fun t => Tku.forget
    { t.onRecord n (fun r => { r with windows := s.newWindows }) with cursors := s.cursorsWith n })

theorem addRecord_eq (origin : Pos) (birth : Birth) (s : State) : addRecord origin birth s =
    if birth = .acquired then
      fitRecord (closeWindows (fun _ _ => true) s).tku.nextRepeat
        (joinAndClose origin birth (closeWindows (fun _ _ => true) s))
    else fitRecord s.tku.nextRepeat (joinAndClose origin birth s) := by
  unfold addRecord
  split <;> rfl

/-- The new record stands on the track once it has joined. -/
theorem mem_joinAndClose (origin : Pos) (birth : Birth) (s : State) :
    s.tku.nextRepeat ∈ (joinAndClose origin birth s).tku.track.map (·.number) := by
  have hn : s.tku.nextRepeat ∈ (joinTrack origin birth s).tku.track.map (·.number) := by
    simp [joinTrack, newRecord]
  unfold joinAndClose
  split
  · rwa [(closeSpan_numbers ..).1]
  · exact hn

/-- A cursor that was empty may move onto a record of the track. -/
theorem TkuMove.fit {running : Bool} (n : Nat) (s : State) (h : n ∈ s.tku.track.map (·.number)) :
    TkuMove running s.tku (fitRecord n s).tku := by
  unfold fitRecord
  refine TkuMove.trans ?_ .forget
  refine TkuMove.trans (u := s.tku.onRecord n (fun r => { r with windows := s.newWindows })) (.onRecord fun _ => rfl) ?_
  refine .cursors fun ho => ?_
  obtain ⟨-, -, -, hc⟩ := ho
  rw [← s.tku.onRecord_numbers n (f := fun r => { r with windows := s.newWindows }) fun _ => rfl] at h
  have hcur : (s.tku.onRecord n (fun r => { r with windows := s.newWindows })).cursors = s.tku.cursors := rfl
  generalize s.tku.onRecord n (fun r => { r with windows := s.newWindows }) = u at h hc hcur
  rw [hcur] at hc
  have hfill : ∀ (o : Option Nat) (e : Bool), (∀ m ∈ o, ∃ r ∈ u.track, r.number = m) →
      ∀ m ∈ (match o with | some m => some m | none => if e then some n else none), ∃ r ∈ u.track, r.number = m := by
    rintro (_ | m) e ho m' hm
    · cases e <;> simp at hm
      subst hm
      simpa using h
    · exact ho m' hm
  simp only [List.mem_cons, List.not_mem_nil, or_false, forall_eq_or_imp, forall_eq] at hc ⊢
  exact ⟨hfill _ _ hc.1, hfill _ _ hc.2.1, hfill _ _ hc.2.2.1, hfill _ _ hc.2.2.2⟩

section
variable {P Q : State → Prop} (hC : Joining P Q)
include hC

theorem Joining.joinAndFit (origin : Pos) (b : Birth) (s : State) (hr : s.running = true)
    (hf : s.trackFull = false) (h : P s) : Q (fitRecord s.tku.nextRepeat (joinAndClose origin b s)) := by
  have hj := hC.join origin b s hr hf h
  have hc : Q (joinAndClose origin b s) := by
    unfold joinAndClose
    split
    · exact hC.after.closeSpan _ _ _ _ hj
    · exact hj
  exact hC.after.tku _ _ (.fit _ _ (mem_joinAndClose origin b s)) hc

omit hC in
/-- The close of windows leaves as many records on the track. -/
theorem closeWindows_trackLength (p : RepeatRecord → Window → Bool) (s : State) :
    (closeWindows p s).tku.track.length = s.tku.track.length := by
  have hOnRecord : ∀ (t : Tku) n f, (t.onRecord n f).track.length = t.track.length := fun t n f => by simp [Tku.onRecord]
  have hOne : ∀ n k (t : State), (closeWindow n k t).tku.track.length = t.tku.track.length := by
    intro n k t
    obtain ⟨-, he⟩ | ⟨r, w, -, ⟨-, he⟩ | ⟨-, he⟩⟩ := closeWindow_cases n k t
    · rw [he]
    · rw [he]
      exact hOnRecord _ _ _
    · rw [he, registerEntry_tku]
      refine (hOnRecord _ _ _).trans ?_
      rw [raise_tku]
      exact hOnRecord _ _ _
  unfold closeWindows
  generalize openWindows p s.tku.blocks = l
  induction l generalizing s with
  | nil => rfl
  | cons x l ih => rw [List.foldl_cons, ih, hOne]

theorem Joining.addRecord (origin : Pos) (b : Birth) (s : State) (hr : s.running = true)
    (hf : s.trackFull = false) (h : P s) : Q (addRecord origin b s) := by
  rw [addRecord_eq]
  split
  · refine hC.joinAndFit _ _ _ (by rwa [closeWindows_running]) ?_ (hC.before.closeWindows _ s h)
    rwa [State.trackFull, closeWindows_trackLength]
  · exact hC.joinAndFit _ _ s hr hf h
end

/-- The scanner of a running track changes its state and its coast count. -/
theorem TkuMove.scanner {t : Tku} (x : ScannerState) (c : Nat) :
    TkuMove true t { t with scanner := x, coastCount := c } := .of_eq rfl rfl rfl rfl rfl (by simp)

section
variable {P Q : State → Prop} (hC : Creating P Q)
include hC

theorem Creating.createSeen (origin : Pos) (b : Birth) (s : State) (hr : s.running = true) (h : P s) :
    Q (createSeen origin b s) := by
  unfold Machine.createSeen
  split
  next => exact hC.weaken _ (hC.before.latchCause _ s h)
  next hf =>
    replace hf : s.trackFull = false := by simpa using hf
    have har := (joining_running true).addRecord origin b s hr hf hr
    exact hC.after.tku _ _ (har ▸ .scanner _ _) (hC.joining.addRecord origin b s hr hf h)

theorem Creating.createCoasted (origin : Pos) (s : State) (hr : s.running = true) (h : P s) :
    Q (createCoasted origin s) := by
  have key : ∀ {R R' : State → Prop}, Joining R R' → s.trackFull = false → R s →
      R' (Machine.raise .masterCoast
        ((Machine.addRecord origin .coasted s).onTku (fun t => { t with coastCount := t.coastCount + 1 })).tku.coastCount
        s.tku.nextRepeat
        ((Machine.addRecord origin .coasted s).onTku (fun t => { t with coastCount := t.coastCount + 1 }))) := by
    intro R R' hJ hf h
    refine hJ.after.toCore.raise _ _ _ _ (hJ.after.trackBeside _ _ (hJ.addRecord origin _ s hr hf h) (hu := fun hn => ?_))
    rw [(joining_running true).addRecord origin _ s hr hf hr] at hn
    simp at hn
  unfold Machine.createCoasted
  split
  next => exact hC.weaken _ (hC.before.latchCause _ s h)
  next hf =>
    replace hf : s.trackFull = false := by simpa using hf
    have hk := key hC.joining hf h
    have hkr := key (joining_running true) hf hr
    dsimp only
    split
    · have hd := hC.after.dropAllAuto _ (hC.after.toCore.raise .masterLost 0 s.tku.nextRepeat _ hk)
      refine hC.after.tku _ _ ?_ hd
      have : (dropAllAuto (Machine.raise .masterLost 0 s.tku.nextRepeat _)).running = true :=
        (raise_running ..).trans hkr
      exact this ▸ .scanner _ _
    · exact hk

/-! ### Marks -/

/-- A mark that has ended creates at most one record: where it created one, no repeat waits (R27). -/
theorem Creating.settleMark (p : Pos) (s : State) (hr : s.running = true) (h : P s) : Q (settleMark p s) := by
  have hHeld : ∀ {R : State → Prop}, Core R → ∀ t, R t → R (closeHeldWindows p t) := by
    intro R hR t ht
    unfold closeHeldWindows
    split
    · exact hR.closeWindows _ t ht
    · exact ht
  have hCoast : ∀ t, P t → Q (coastAfterMark p false t) := by
    intro t ht
    unfold coastAfterMark
    split
    next => exact hC.weaken _ ht
    next hn =>
      have htr : t.running = true := by
        by_contra hc
        simp [hc] at hn
      split
      · split
        · exact hC.createCoasted _ t htr ht
        · exact hC.weaken _ ht
      · exact hC.weaken _ ht
  have hDone : ∀ t, Q t → Q (coastAfterMark p true t) := fun t ht => by simpa [coastAfterMark] using ht
  unfold Machine.settleMark
  dsimp only
  cases hs : s.tku.scanner with
  | off =>
    simp only [marksRecord, hs, Bool.and_false]
    exact hCoast _ (hHeld hC.before.toCore s h)
  | acquire =>
    simp only [marksRecord, hs]
    cases hcls : classify s.tku.params (sdiff s.wtb.wp p) with
    | master => exact hDone _ (hHeld hC.after.toCore _ (hC.createSeen _ _ s hr h))
    | station => exact hCoast _ (hHeld hC.before.toCore _ (hC.before.offerMark p s h))
    | stray => exact hCoast _ (hHeld hC.before.toCore _ (hC.before.strayMark s h))
  | tracking =>
    simp only [marksRecord, hs]
    cases hcls : classify s.tku.params (sdiff s.wtb.wp p) with
    | master =>
      simp only [markInTracking]
      cases he : s.tku.expected with
      | none => exact hCoast _ (hHeld hC.before.toCore _ (hC.before.strayMark s h))
      | some e =>
        cases hw : s.tku.inMasterWindow e p with
        | true =>
          simp only [Option.map_some, Option.getD_some, hw, beq_self_eq_true, Bool.and_self, if_true]
          exact hDone _ (hHeld hC.after.toCore _ (hC.createSeen _ _ s hr h))
        | false =>
          simp only [Option.map_some, Option.getD_some, hw, Bool.and_false]
          exact hCoast _ (hHeld hC.before.toCore _ (hC.before.strayMark s h))
    | station => exact hCoast _ (hHeld hC.before.toCore _ (hC.before.offerMark p s h))
    | stray => exact hCoast _ (hHeld hC.before.toCore _ (hC.before.strayMark s h))

theorem Creating.markTrailingEdge (s : State) (h : P s) {t : State} (ht : execMarkTrailingEdge s = .next t) :
    Q t := by
  obtain rfl := Host.Outcome.next.inj ht
  have hp : P (s.onPins (fun p => { p with scn := s.wtb.polarity.scn })) := hC.before.pins s _ h
  split
  next hs =>
    have hr : s.running = true := by
      by_contra hc
      have : (s.onPins (fun p => { p with scn := s.wtb.polarity.scn })).running = s.running := rfl
      simp [State.scans, State.advancing, this, hc] at hs
    have hn := hC.before.trackBeside (fun t => { t with scnPrev := false, halfSeen := none }) _ hp
      (hu := fun _ hu => ⟨hu.1, rfl, hu.2.2⟩)
    dsimp only
    split
    · split
      · exact hC.weaken _ hn
      · exact hC.settleMark _ _ hr hn
    · exact hC.weaken _ hn
  next => exact hC.weaken _ hp

theorem Creating.masterCoast (s : State) (h : P s) {t : State} (ht : execMasterCoast s = .next t) : Q t := by
  obtain rfl := Host.Outcome.next.inj ht
  split
  · exact hC.weaken _ h
  · split
    next hs => exact hC.createCoasted _ s (by simp_all [State.advancing]) h
    next => exact hC.weaken _ h
end

/-! ### Every command -/

/-- A request is kept by its owner, whether the request taker delivers it or it is taken at once (R186). -/
theorem Closed.deliver {P : State → Prop} (hP : Closed P) (i : Instr) (s : State) (h : P s) {t : State}
    (ht : deliver i s = .next t) : P t := by
  cases i with
  | jobOpen tag => exact hP.jobOpen tag s h ht
  | jobStart tag => exact hP.jobStart tag s h ht
  | jobHold tag => exact hP.jobHold tag s h ht
  | jobResume tag => exact hP.jobResume tag s h ht
  | jobStop tag => exact hP.jobStop tag s h ht
  | jobEnd tag => exact hP.jobEnd tag s h ht
  | recover tag => exact hP.recover tag s h ht
  | stopAck tag c => exact hP.stopAck tag c s h ht
  | inputSet tag f => exact hP.inputSet tag f s h ht
  | lineSet tag c a => exact hP.lineSet tag c a s h ht
  | repeatSet tag f => exact hP.repeatSet tag f s h ht
  | pathSet tag f => exact hP.pathSet tag f s h ht
  | trackSeek tag x => exact hP.trackSeek tag x s h ht
  | trackRead tag c => exact hP.trackRead tag c s h ht
  | stationSet tag k f => exact hP.stationSet tag k f s h ht
  | stationMode tag k m => exact hP.stationMode tag k m s h ht
  | trim tag c n => exact hP.trim tag c n s h ht
  | embossSet tag f => exact hP.embossSet tag f s h ht
  | embossEngage tag => exact hP.embossEngage tag s h ht
  | embossRelease tag => exact hP.embossRelease tag s h ht
  | shadeSet tag f => exact hP.shadeSet tag f s h ht
  | slotEnable tag m => exact hP.slotEnable tag m s h ht
  | guardSet tag c f => exact hP.guardSet tag c f s h ht
  | spot tag i k x g => exact hP.spot tag i k x g s h ht
  | spotTrigger tag => exact hP.spotTriggerRequest tag s h ht
  | spotStop tag => exact hP.spotStop tag s h ht
  | spotRead tag c => exact hP.spotRead tag c s h ht
  | calWrite tag i f => exact hP.calWrite tag i f s h ht
  | calRead tag i => exact hP.calRead tag i s h ht
  | calibrate tag m => exact hP.calibrate tag m s h ht
  | laneSet tag l f => exact hP.laneSet tag l f s h ht
  | cut tag l => exact hP.cut tag l s h ht
  | rollSeek tag x => exact hP.rollSeek tag x s h ht
  | rollRead tag c => exact hP.rollRead tag c s h ht
  | batchSet tag f => exact hP.batchSet tag f s h ht
  | batchList tag => exact Host.Outcome.next.inj ht ▸ hP.answer _ _ _ _ s h
  | batchClose tag c => exact hP.batchClose tag c s h ht
  | batchBreak tag => exact hP.batchBreak tag s h ht
  | labelSet tag f => exact hP.labelSet tag f s h ht
  | labelReprint tag n => exact hP.labelReprint tag n s h ht
  | labelDiscard tag n => exact hP.labelDiscard tag n s h ht
  | eventLevel tag c l => exact hP.eventLevel tag c l s h ht
  | noticeFloor tag n => exact hP.noticeFloor tag n s h ht
  | noticeClear tag c => exact hP.noticeClear tag c s h ht
  | routeBind tag i c a n => exact hP.routeBind tag i c a n s h ht
  | routeUnbind tag i => exact hP.routeUnbind tag i s h ht
  | routeFire tag i => exact hP.routeFire tag i s h ht
  | identify tag => exact Host.Outcome.next.inj ht ▸ hP.answer _ _ _ _ s h
  | status tag => exact Host.Outcome.next.inj ht ▸ hP.answer _ _ _ _ s h
  | reset tag => exact Host.Outcome.next.inj ht ▸ hP.reply _ s h
  | _ => exact Host.Outcome.next.inj ht ▸ h

theorem Closed.requestTake {P : State → Prop} (hP : Closed P) (s : State) (h : P s) {t : State}
    (ht : execRequestTake s = .next t) : P t := by
  unfold execRequestTake at ht
  split at ht
  next => exact Host.Outcome.next.inj ht ▸ h
  next f rest hi =>
    split at ht
    · exact Host.Outcome.next.inj ht ▸ h
    · have hr : P (s.onSvl (fun v => { v with input := rest })) :=
        hP.svl s _ ⟨rfl, rfl, rfl, fun hl => by simp [hi] at hl ⊢; omega⟩ h
      dsimp only at ht
      split at ht
      · exact Host.Outcome.next.inj ht ▸ hP.answer _ _ _ _ _ hr
      · exact Host.Outcome.next.inj ht ▸ hP.answer _ _ _ _ _ hr
      · exact hP.deliver _ _ hr ht

/-- Every command takes `P` to `Q`. -/
theorem Creating.exec {P Q : State → Prop} (hC : Creating P Q) (i : Instr) (s : State) (h : P s) {t : State}
    (ht : exec i s = .next t) : Q t := by
  have hP := hC.before
  have hDeliver : ∀ j, Machine.exec j s = .next t → Machine.exec j s = Machine.deliver j s → Q t :=
    fun j hj he => hC.weaken _ (hP.deliver j s h (he ▸ hj))
  cases i with
  | markTrailingEdge => exact hC.markTrailingEdge s h ht
  | masterCoast => exact hC.masterCoast s h ht
  | powerOn => exact hC.weaken _ (hP.powerOnRow s h ht)
  | frameReceived bs => exact hC.weaken _ (hP.frameReceived bs s h ht)
  | interByteTimeout => exact hC.weaken _ (hP.interByteTimeout s h ht)
  | requestTake => exact hC.weaken _ (hP.requestTake s h ht)
  | frameSent => exact hC.weaken _ (hP.frameSent s h ht)
  | encoderCount c => exact hC.weaken _ (hP.encoderCount c s h ht)
  | illegalTransition =>
    exact hC.weaken _ (Host.Outcome.next.inj ht ▸ hP.latchCause .encoder _ (hP.pins s _ h))
  | speedSample => exact hC.weaken _ (hP.speedSample s h ht)
  | estActive e => exact hC.weaken _ (Host.Outcome.next.inj ht ▸ hP.readEst _ (hP.pins s _ h))
  | markLeadingEdge => exact hC.weaken _ (hP.markLeadingEdge s h ht)
  | windowClose n k => exact hC.weaken _ (hP.windowClose n k s h ht)
  | splEdge e => exact hC.weaken _ (hP.splEdge e s h ht)
  | pointCrossing p w => exact hC.weaken _ (hP.pointCrossing p w s h ht)
  | embossIndex e => exact hC.weaken _ (Host.Outcome.next.inj ht ▸ hP.readEix e s h)
  | indexLost e => exact hC.weaken _ (Host.Outcome.next.inj ht ▸ hP.lossTest _ (hP.readEix e s h))
  | npfClosed => exact hC.weaken _ (hP.npfClosed s h ht)
  | npfOpen => exact hC.weaken _ (hP.npfOpen s h ht)
  | closeTimerExpiry e => exact hC.weaken _ (hP.closeTimerExpiry e s h ht)
  | releaseWatchExpiry => exact hC.weaken _ (hP.releaseWatchExpiry s h ht)
  | trimPulse c => exact hC.weaken _ (hP.trimPulse c s h ht)
  | frameSlotStart => exact hC.weaken _ (hP.frameSlotStart s h ht)
  | headAnswer f => exact hC.weaken _ (hP.headAnswer f s h ht)
  | frameSlotEnd => exact hC.weaken _ (hP.frameSlotEnd s h ht)
  | prkActive => exact hC.weaken _ (hP.prkActive s h ht)
  | prkInactive => exact hC.weaken _ (hP.prkInactive s h ht)
  | firePosition l w => exact hC.weaken _ (hP.firePosition l w s h ht)
  | turretDone l e => exact hC.weaken _ (hP.turretDone l e s h ht)
  | turretTimeout l => exact hC.weaken _ (hP.turretTimeout l s h ht)
  | printerDone f => exact hC.weaken _ (hP.roll.printerDone f s h ht)
  | printerFault f => exact hC.weaken _ (hP.roll.printerFault f s h ht)
  | labelTimeout => exact hC.weaken _ (hP.roll.labelTimeout s h ht)
  | printSent => exact hC.weaken _ (hP.roll.printSent s h ht)
  | _ => exact hDeliver _ ht rfl

/-- Every step takes `P` to `Q`, both blind to the queue of waiting commands. -/
theorem Creating.step {P Q : State → Prop} (hC : Creating P Q)
    (hp : ∀ (s : State) cs, P s → P { s with pending := cs }) {s t : State} (h : P s)
    (ht : Machine.step s = .next t) : Q t := by
  unfold Machine.step at ht
  split at ht
  · exact Host.Outcome.next.inj ht ▸ hC.weaken _ h
  · exact hC.exec _ _ (hp s _ h) ht

/-- A property that every command keeps, a new record included, every step keeps. -/
theorem Closed.step {P : State → Prop} (hP : Closed P)
    (hj : ∀ origin birth t, t.running = true → t.trackFull = false → P t → P (joinTrack origin birth t))
    (hp : ∀ (s : State) cs, P s → P { s with pending := cs }) {s t : State} (h : P s)
    (ht : Machine.step s = .next t) : P t :=
  Creating.step ⟨hP, hP, fun _ => id, hj⟩ hp h ht
end Sys2Proof.Machine
end

section
/-! The invariants that do not speak of the line: the queues, the batch table, the event unit, the sender and the
printer. `Plain` is what such a property has to allow. -/

namespace Sys2Proof.Machine

/-- A property of the queues, the tables and the output: whatever line state, track, emboss state or head work does. -/
structure Plain (P : State → Prop) : Prop where
  notice : ∀ ev p1 p2 t, P t → P (notice ev p1 p2 t)
  reply : ∀ r t, P t → P (pushReply r t)
  wtb : ∀ t f, P t → P (t.onWtb f)
  tku : ∀ t f, (f t.tku).track.length ≤ t.tku.track.length →
    (t.tku.splices.length ≤ 4 → (f t.tku).splices.length ≤ 4) → P t → P (t.onTku f)
  rlu : ∀ t f, P t → P (t.onRlu f)
  epu : ∀ t f, P t → P (t.onEpu f)
  smu : ∀ t f, SmuBounded t.smu (f t.smu) → P t → P (t.onSmu f)
  rku : ∀ t f, (t.rku.history.length ≤ 64 → (f t.rku).history.length ≤ 64) → P t → P (t.onRku f)
  btu : ∀ t f, BtuMove t.btu (f t.btu) → P t → P (t.onBtu f)
  lbp : ∀ t f, LbpMove t.lbp (f t.lbp) → P t → P (t.onLbp f)
  evu : ∀ t f, EvuMove t.evu (f t.evu) → P t → P (t.onEvu f)
  svl : ∀ t f, SvlMove t.svl (f t.svl) → P t → P (t.onSvl f)
  pins : ∀ t f, P t → P (t.onPins f)
  append : ∀ c t, t.btu.sequence ≤ 999 → P t → P (displaceBatch t) → P (appendBatch c (displaceBatch t))
  powerOn : ∀ t, P (powerOnState t)
  returned : ∀ t, P (resetReturn t)
  sent : ∀ t, P t → P (pump (t.onSvl (fun v => { v with sending := none })))
  lowered : ∀ tag fs n t, n ≤ 7 → P t →
    P (pump (answer tag 0x51#8 .ok fs (t.onEvu (fun e => { e with floor := n }))))
  cleared : ∀ tag fs p t, P t →
    P (answer tag 0x52#8 .ok fs (t.onEvu (fun e => { e with notices := e.notices.filter p })))

section
variable {P : State → Prop} (hP : Plain P)
include hP

theorem Plain.leaveStep (s : State) (h : P s) : P (leaveStep s) := by
  unfold Machine.leaveStep
  split
  · exact hP.epu _ _ h
  · unfold enterReleasing
    split
    · exact hP.epu _ _ h
    · unfold actOnReengage
      split
      · split <;> exact hP.epu _ _ (hP.epu _ _ h)
      · exact hP.epu _ _ h
  all_goals exact h

theorem Plain.core : Core P where
  notice := hP.notice
  reply := hP.reply
  hold _ t _ h := hP.leaveStep _ (hP.epu _ _ (hP.wtb t _ h))
  wtb t f _ _ h := hP.wtb t f h
  tku t f hm h := hP.tku t f hm.length hm.splices h
  rlu t f _ h := hP.rlu t f h
  epu t f _ h := hP.epu t f h
  smu t f hm h := hP.smu t f hm.toSmuBounded h
  rku t f hm h := hP.rku t f hm.history h
  btu := hP.btu
  lbp := hP.lbp
  evu := hP.evu
  svl := hP.svl
  pins := hP.pins

theorem Plain.work : Work P where
  toCore := hP.core
  abandon c t _ h := abandonSpot_keeps hP.core.raise
    (fun t f hb h => hP.smu t f ⟨fun hl => by rwa [hb.contexts], hb.results⟩ h)
    (fun t h => hP.smu t _ ⟨id, id⟩ h) hP.reply c t h
  append c t hs h := hP.append c t hs h (hP.core.displaceBatch t h)

theorem Plain.emptyTrack (s : State) (h : P s) : P (emptyTrack s) :=
  hP.tku _ _ (by simp) (by simp) (hP.tku s _ le_rfl id h)

theorem Plain.enterRun (r : Reason) (s : State) (h : P s) : P (enterRun r s) :=
  hP.work.head.endCalibrationEarly _ (hP.core.noticeLineState _ _ (hP.wtb s _ h))

theorem Plain.startTrack (s : State) (h : P s) : P (startTrack s) := by
  unfold Machine.startTrack seedEstimate loadAutoSettles
  refine hP.rku _ _ id (hP.smu _ _ ⟨id, id⟩ (hP.epu _ _ (hP.rlu _ _ (hP.rlu _ _ ?_))))
  exact hP.tku _ _ le_rfl id (hP.tku _ _ le_rfl id (hP.wtb s _ h))

theorem Plain.openBlocks (s : State) (h : P s) : P (openBlocks s) := by
  unfold Machine.openBlocks seedEstimate
  refine hP.lbp _ _ (.unlink _) (hP.btu _ _ ⟨fun _ => ⟨by simp, by simp, by simp, by simp⟩, by simp⟩ ?_)
  refine hP.rku _ _ (by simp) (hP.smu _ _ ⟨id, by simp⟩ (hP.epu _ _ (hP.rlu _ _ ?_)))
  exact hP.tku _ _ le_rfl id (hP.tku s _ le_rfl id h)

theorem Plain.endRoll (l : Lane) (s : State) (h : P s) : P (endRoll l s) := by
  unfold Machine.endRoll
  split
  · exact hP.work.roll.finalise _ _ _ _ _ (hP.rku s _ (by cases l <;> exact id) h)
  · exact h

/-- The table of batches is emptied and the routes unbound at the end of a job. -/
theorem Plain.endBlocks (s : State) (h : P s) : P (endBlocks s) := by
  unfold Machine.endBlocks rollsAtEnd embossAtEnd zeroTrims
  refine hP.evu _ _ ⟨fun ⟨h1, h2, h3, h4, h5, _⟩ => ⟨h1, h2, h3, h4, h5, by simp⟩, rfl, rfl⟩ ?_
  refine hP.btu _ _ ⟨fun hb => ⟨by simp, by simp, hb.2.2⟩, by simp⟩ (hP.rku _ _ id ?_)
  exact hP.endRoll .b _ (hP.endRoll .a _ (hP.work.head.shadeAtEnd _ (hP.epu _ _ (hP.rlu s _ h))))

theorem Plain.gapLanes (s : State) (h : P s) : P (gapLanes s) := hP.rku _ _ id h

theorem Plain.enterThread (s : State) (h : P s) : P (enterThread s) :=
  hP.core.noticeLineState _ _ (hP.wtb s _ h)

theorem Plain.enterFault (s : State) (h : P s) : P (enterFault s) := by
  unfold Machine.enterFault disarmLanes zeroTrims scannerOff
  refine hP.rku _ _ id (hP.work.head.shadeAtFault _ (hP.core.embossAtStop _ (hP.rlu _ _ (hP.tku _ _ le_rfl id ?_))))
  exact hP.core.noticeLineState _ _ (hP.wtb s _ h)

/-- A plain property is kept by every command. -/
theorem Plain.closed : Closed P where
  toWork := hP.work
  fault t _ h := hP.enterFault t h
  run r t _ h := hP.enterRun r t h
  opened t _ h := hP.openBlocks _ (hP.enterThread t h)
  started t _ h := by
    unfold enterRunning
    split
    · exact hP.enterRun _ _ (hP.startTrack t h)
    · exact hP.core.noticeLineState _ _ (hP.wtb _ _ (hP.startTrack t h))
  stopped t _ h := hP.gapLanes _ (hP.work.head.shadeAtStop _ (hP.core.embossAtStop _
    (hP.emptyTrack _ (hP.enterThread t h))))
  ended t _ h := hP.endBlocks _ (hP.core.noticeLineState _ _ (hP.wtb t _ h))
  recovered t _ h := hP.gapLanes _ (hP.work.head.shadeAtRecover _ (hP.epu _ _ (hP.emptyTrack _ (hP.enterThread t h))))
  powerOn t _ := hP.powerOn t
  returned t _ := hP.returned t
  sent := hP.sent
  lowered := hP.lowered
  cleared := hP.cleared
end

/-! ### The notice queue -/

/-- What a notice that takes its place leaves in the queue. -/
theorem mem_insertNotice {n m : Notice} {q : List Notice} : m ∈ insertNotice n q ↔ m = n ∨ m ∈ q := by
  induction q with
  | nil => simp [insertNotice]
  | cons x q ih =>
    unfold insertNotice
    split
    · simp only [List.mem_cons, ih]
      tauto
    · simp

@[simp] theorem insertNotice_length (n : Notice) (q : List Notice) :
    (insertNotice n q).length = q.length + 1 := by
  induction q with
  | nil => rfl
  | cons x q ih =>
    unfold insertNotice
    split <;> simp [ih]

/-- The queue stays in order (R180). -/
theorem insertNotice_pairwise {n : Notice} {q : List Notice} (h : q.Pairwise (fun a b => b.level ≤ a.level)) :
    (insertNotice n q).Pairwise (fun a b => b.level ≤ a.level) := by
  induction q with
  | nil => simp [insertNotice]
  | cons x q ih =>
    obtain ⟨hx, hq⟩ := List.pairwise_cons.1 h
    unfold insertNotice
    split
    next hl =>
      refine List.pairwise_cons.2 ⟨fun m hm => ?_, ih hq⟩
      obtain rfl | hm := mem_insertNotice.1 hm
      · exact hl
      · exact hx m hm
    next hl =>
      refine List.pairwise_cons.2 ⟨fun m hm => ?_, h⟩
      obtain rfl | hm := List.mem_cons.1 hm
      · omega
      · have := hx m hm
        omega

theorem Evu.Coherent.enter {e : Evu} (n : Notice) (hn : 1 ≤ n.level ∧ n.level ≤ 7) (h : e.Coherent) :
    (e.enter n).Coherent := by
  obtain ⟨h1, h2, h3, h4, h5, h6⟩ := h
  unfold Evu.enter
  split
  · refine ⟨insertNotice_pairwise h1, fun m hm => ?_, h3, h4, h5, h6⟩
    obtain rfl | hm := mem_insertNotice.1 hm
    · exact hn
    · exact h2 m hm
  · split
    · exact ⟨h1, h2, h3, h4, satInc_le .., h6⟩
    · refine ⟨insertNotice_pairwise (h1.sublist (List.dropLast_sublist _)), fun m hm => ?_, h3, h4, satInc_le .., h6⟩
      obtain rfl | hm := mem_insertNotice.1 hm
      · exact hn
      · exact h2 m (List.mem_of_mem_dropLast hm)

theorem Evu.Coherent.pump {s : State} (h : s.evu.Coherent) : (pump s).evu.Coherent := by
  obtain he | ⟨-, r, rs, -, he⟩ | ⟨-, -, n, ns, hn, -, he⟩ := pump_cases s
  · rwa [he]
  · rw [he]
    exact h
  · rw [he]
    obtain ⟨h1, h2, h3, h4, -, h6⟩ := h
    rw [hn] at h1 h2
    exact ⟨(List.pairwise_cons.1 h1).2, fun m hm => h2 m (List.mem_cons_of_mem _ hm), h3, h4, by simp, h6⟩

theorem Evu.Coherent.notice {s : State} (ev : Event) (p1 p2 : Nat) (h : s.evu.Coherent) :
    (notice ev p1 p2 s).evu.Coherent := by
  obtain ⟨-, he⟩ | ⟨hl, he⟩ := notice_cases ev p1 p2 s
  · rwa [he]
  · rw [he]
    refine Evu.Coherent.pump (h.enter _ ⟨?_, h.2.2.1 _⟩)
    show 1 ≤ s.evu.level ev
    omega

/-! ### After reset -/

theorem evuReset_coherent : Evu.reset.Coherent := by
  refine ⟨by simp [Evu.reset], by simp [Evu.reset], by decide, by decide, by decide, fun i r h => ?_⟩
  simp [Evu.reset] at h

theorem tkuReset_ordered : Tku.reset.Ordered := by simp [Tku.Ordered, Tku.blocks, Tku.reset]

theorem smuReset_headOk (line : LineState) : Smu.reset.HeadOk line :=
  ⟨by simp [Smu.reset], by simp [Smu.reset], by simp [Smu.reset], by decide, by decide⟩

/-- Settles O52. -/
theorem invariantsHoldAtReset : Obligations.InvariantsHoldAtReset := by
  refine ⟨by simp [LineCoherent, State.reset, Wtb.reset], ?_, ?_, by simp [NipSafe, State.reset, Epu.reset], ?_, ?_,
    ?_, evuReset_coherent, by simp [SenderNeverIdles, State.reset, Svl.reset, Evu.reset], smuReset_headOk _,
    by simp [PrinterGranted, State.reset, Lbp.reset]⟩
  · exact (trackCoherent_iff _).2 ⟨tkuReset_ordered, fun _ => ⟨rfl, rfl⟩, fun _ => ⟨rfl, rfl, rfl⟩⟩
  · exact (trimsBounded_iff _).2 fun c => by simpa [State.reset, Rlu.reset] using owedOk_zero _
  · simp [LanesCoherent, LaneControl.coherent, State.reset, Rku.reset, LaneControl.reset]
  · simp [QueuesBounded, State.reset, Tku.reset, Smu.reset, Rku.reset, Btu.reset, Lbp.reset, Evu.reset, Svl.reset]
  · simp [BatchesOrdered, State.reset, Btu.reset]

/-! ### Notices, sender, printer and batches -/

theorem events_plain : Plain EventsCoherent where
  notice ev p1 p2 _ h := Evu.Coherent.notice ev p1 p2 h
  reply _ _ h := Evu.Coherent.pump h
  wtb _ _ h := h
  tku _ _ _ _ h := h
  rlu _ _ h := h
  epu _ _ h := h
  smu _ _ _ h := h
  rku _ _ _ h := h
  btu _ _ _ h := h
  lbp _ _ _ h := h
  evu _ _ hm h := hm.coherent h
  svl _ _ _ h := h
  pins _ _ h := h
  append _ _ _ _ h := h
  powerOn _ := evuReset_coherent
  returned _ := evuReset_coherent
  sent _ h := Evu.Coherent.pump h
  lowered _ _ _ _ hn h := Evu.Coherent.pump (Evu.Coherent.pump ⟨h.1, h.2.1, h.2.2.1, hn, h.2.2.2.2⟩)
  cleared _ _ _ _ h := Evu.Coherent.pump ⟨h.1.filter _, fun m hm => h.2.1 m (List.mem_filter.1 hm).1, h.2.2⟩

/-- Whatever it finds, the sender does not idle once it has been offered the output. -/
theorem senderNeverIdles_pump (s : State) : SenderNeverIdles (pump s) := by
  unfold pump
  split
  next hs => simp [SenderNeverIdles, hs]
  next => simp [SenderNeverIdles]
  next hs hr hn =>
    split
    next => simp [SenderNeverIdles]
    next hf =>
      refine fun _ => ⟨hr, fun hp n hh => ?_⟩
      obtain rfl : _ = n := by simpa [hn] using hh
      push Not at hf
      exact hf hp
  next hr hn => exact fun _ => ⟨hr, by simp [hn]⟩

theorem sender_plain : Plain SenderNeverIdles where
  notice ev p1 p2 t h := by
    obtain ⟨-, he⟩ | ⟨-, he⟩ := notice_cases ev p1 p2 t
    · rwa [he]
    · exact he ▸ senderNeverIdles_pump _
  reply _ _ _ := senderNeverIdles_pump _
  wtb _ _ h := h
  tku _ _ _ _ h := h
  rlu _ _ h := h
  epu _ _ h := h
  smu _ _ _ h := h
  rku _ _ _ h := h
  btu _ _ _ h := h
  lbp _ _ _ h := h
  evu t f hm h := by
    simpa [SenderNeverIdles, hm.notices, hm.floor] using h
  svl t f hm h := by
    simpa [SenderNeverIdles, hm.sending, hm.replies, hm.replied] using h
  pins _ _ h := h
  append _ _ _ _ h := h
  powerOn _ := fun _ => ⟨rfl, by simp [powerOnState, State.reset, Svl.reset]⟩
  returned _ := fun _ => ⟨rfl, by simp [resetReturn, powerOnState, State.reset, Evu.reset]⟩
  sent _ _ := senderNeverIdles_pump _
  lowered _ _ _ _ _ _ := senderNeverIdles_pump _
  cleared _ _ _ _ _ := senderNeverIdles_pump _

theorem printer_plain : Plain PrinterGranted where
  notice ev p1 p2 t h := by simpa [PrinterGranted] using h
  reply _ _ h := by simpa [PrinterGranted] using h
  wtb _ _ h := h
  tku _ _ _ _ h := h
  rlu _ _ h := h
  epu _ _ h := h
  smu _ _ _ h := h
  rku _ _ _ h := h
  btu _ _ _ h := h
  lbp _ _ hm h := hm.granted h
  evu _ _ _ h := h
  svl _ _ _ h := h
  pins _ _ h := h
  append _ _ _ _ h := h
  powerOn _ := ⟨fun _ => ⟨rfl, rfl, rfl, rfl⟩, fun _ => rfl⟩
  returned _ := ⟨fun _ => ⟨rfl, rfl, rfl, rfl⟩, fun _ => rfl⟩
  sent _ h := by simpa [PrinterGranted] using h
  lowered _ _ _ _ _ h := by simpa [PrinterGranted] using h
  cleared _ _ _ _ h := by simpa [PrinterGranted] using h

@[simp] theorem displaceBatch_sequence (s : State) : (displaceBatch s).btu.sequence = s.btu.sequence := by
  unfold displaceBatch
  split
  · rfl
  · split
    · rfl
    · simp [closeBatch]

/-- A batch joins behind the others, with the sequence that the counter then leaves behind (R157). -/
theorem Btu.Ordered.append {s : State} (c : Candidate) (hs : s.btu.sequence ≤ 999) (h : s.btu.Ordered) :
    (appendBatch c s).btu.Ordered := by
  obtain ⟨h1, h2, h3, h4⟩ := h
  refine ⟨?_, fun x hx => ?_, by simp [appendBatch], by simp [appendBatch]; omega⟩
  · refine List.pairwise_append.2 ⟨h1, by simp, fun x hx y hy => ?_⟩
    obtain rfl : y = firstEntry c s.btu := by simpa using hy
    exact (h2 x hx).2.1
  · obtain hx | hx := List.mem_append.1 hx
    · obtain ⟨h5, h6, h7⟩ := h2 x hx
      exact ⟨h5, by simp [appendBatch]; omega, h7⟩
    · obtain rfl : x = firstEntry c s.btu := by simpa using hx
      exact ⟨h3, by simp [appendBatch, firstEntry], by simp [firstEntry]⟩

theorem batches_plain : Plain BatchesOrdered where
  notice ev p1 p2 t h := by simpa [BatchesOrdered] using h
  reply _ _ h := by simpa [BatchesOrdered] using h
  wtb _ _ h := h
  tku _ _ _ _ h := h
  rlu _ _ h := h
  epu _ _ h := h
  smu _ _ _ h := h
  rku _ _ _ h := h
  btu _ _ hm h := hm.ordered h
  lbp _ _ _ h := h
  evu _ _ _ h := h
  svl _ _ _ h := h
  pins _ _ h := h
  append c t hs _ h := Btu.Ordered.append c (by simpa using hs) h
  powerOn _ := by simp [BatchesOrdered, powerOnState, State.reset, Btu.reset]
  returned _ := by simp [BatchesOrdered, resetReturn, powerOnState, State.reset, Btu.reset]
  sent _ h := by simpa [BatchesOrdered] using h
  lowered _ _ _ _ _ h := by simpa [BatchesOrdered] using h
  cleared _ _ _ _ h := by simpa [BatchesOrdered] using h

/-! ### The bounds of the queues -/

theorem pump_notices_length (s : State) : (pump s).evu.notices.length ≤ s.evu.notices.length := by
  obtain he | ⟨-, r, rs, -, he⟩ | ⟨-, -, n, ns, hn, -, he⟩ := pump_cases s
  · rw [he]
  · rw [he]
    exact le_rfl
  · rw [he]
    simp [hn]

theorem Evu.enter_length {e : Evu} (n : Notice) (h : e.notices.length ≤ 32) : (e.enter n).notices.length ≤ 32 := by
  unfold Evu.enter
  split
  next hl => simpa [Config.noticeCapacity] using hl
  next =>
    split
    · exact h
    · simp only [insertNotice_length, List.length_dropLast]
      omega

theorem notice_notices_length (ev : Event) (p1 p2 : Nat) {s : State} (h : s.evu.notices.length ≤ 32) :
    (notice ev p1 p2 s).evu.notices.length ≤ 32 := by
  obtain ⟨-, he⟩ | ⟨-, he⟩ := notice_cases ev p1 p2 s
  · rwa [he]
  · rw [he]
    exact (pump_notices_length _).trans (Evu.enter_length _ h)

/-- A fold that takes each element or keeps its choice ends with a choice from the list. -/
theorem foldl_choice {α : Type} {f : Option α → α → Option α} (hf : ∀ o a, f o a = some a ∨ (f o a = o ∧ o ≠ none))
    (l : List α) (o : Option α) (h : o ≠ none ∨ l ≠ []) : ∃ a, l.foldl f o = some a ∧ (a ∈ l ∨ o = some a) := by
  induction l generalizing o with
  | nil =>
    obtain ⟨a, ha⟩ := Option.ne_none_iff_exists'.1 (h.resolve_right (by simp))
    exact ⟨a, ha, .inr ha⟩
  | cons x xs ih =>
    obtain hx | ⟨hx, ho⟩ := hf o x
    · obtain ⟨a, ha, hm⟩ := ih (f o x) (.inl (by simp [hx]))
      refine ⟨a, ha, .inl ?_⟩
      obtain hm | hm := hm
      · exact List.mem_cons_of_mem _ hm
      · rw [hx] at hm
        exact Option.some.inj hm ▸ List.mem_cons_self
    · obtain ⟨a, ha, hm⟩ := ih (f o x) (.inl (by rwa [hx]))
      exact ⟨a, ha, hm.imp (List.mem_cons_of_mem _) (hx ▸ ·)⟩

/-- Of a table that is not empty one batch went longest without a roll. -/
theorem leastRecent_mem {bs : List Batch} (h : bs ≠ []) : ∃ b ∈ bs, leastRecent bs = some b := by
  obtain ⟨b, hb, hm⟩ := foldl_choice (f := fun best b => match best with
    | none => some b
    | some a => if b.lastTake.toNat < a.lastTake.toNat then some b else best) (fun o a => by
      cases o with
      | none => exact .inl rfl
      | some x =>
        dsimp only
        split
        · exact .inl rfl
        · exact .inr ⟨rfl, by simp⟩) bs none (.inr h)
  exact ⟨b, hm.resolve_right (by simp), hb⟩

/-- Of a full table one batch leaves, so that there is room for the new one (R157, R158). -/
theorem displaceBatch_length {s : State} (h : s.btu.batches.length ≤ 16) :
    (displaceBatch s).btu.batches.length < 16 := by
  unfold displaceBatch
  split
  next hl => exact hl
  next hl =>
    obtain ⟨b, hm, hb⟩ := leastRecent_mem (bs := s.btu.batches) fun hn => by simp [hn, Config.batchCapacity] at hl
    rw [hb]
    simp only [closeBatch, raise_btu_batches, State.onBtu_btu]
    exact lt_of_lt_of_le (List.length_filter_lt_length_iff_exists.2 ⟨b, hm, by simp⟩) h

theorem queues_plain : Plain QueuesBounded where
  notice ev p1 p2 t h := by
    obtain ⟨h1, h2, h3, h4, h5, h6, h7, h8, h9, h10⟩ := h
    exact ⟨by simpa, by simpa, by simpa, by simpa, by simpa, by simpa, by simpa, by simpa,
      notice_notices_length ev p1 p2 h9, by simpa⟩
  reply r t h := by
    obtain ⟨h1, h2, h3, h4, h5, h6, h7, h8, h9, h10⟩ := h
    exact ⟨by simpa, by simpa, by simpa, by simpa, by simpa, by simpa, by simpa, by simpa,
      (pump_notices_length _).trans h9, by simpa⟩
  wtb _ _ h := h
  tku _ _ hl hs h := ⟨hl.trans h.1, hs h.2.1, h.2.2⟩
  rlu _ _ h := h
  epu _ _ h := h
  smu _ _ hm h := ⟨h.1, h.2.1, hm.contexts h.2.2.1, hm.results h.2.2.2.1, h.2.2.2.2⟩
  rku t f hm h := by
    obtain ⟨h1, h2, h3, h4, h5, h6⟩ := h
    exact ⟨h1, h2, h3, h4, hm h5, h6⟩
  btu t f hm h := by
    obtain ⟨h1, h2, h3, h4, h5, h6, h7⟩ := h
    exact ⟨h1, h2, h3, h4, h5, hm.length.trans h6, h7⟩
  lbp t f hm h := by
    obtain ⟨h1, h2, h3, h4, h5, h6, h7, h8, h9⟩ := h
    exact ⟨h1, h2, h3, h4, h5, h6, hm.listA h7, hm.listB h8, h9⟩
  evu t f hm h := by
    obtain ⟨h1, h2, h3, h4, h5, h6, h7, h8, h9, h10⟩ := h
    exact ⟨h1, h2, h3, h4, h5, h6, h7, h8, by rwa [State.onEvu_evu, hm.notices], h10⟩
  svl t f hm h := by
    obtain ⟨h1, h2, h3, h4, h5, h6, h7, h8, h9, h10⟩ := h
    exact ⟨h1, h2, h3, h4, h5, h6, h7, h8, h9, hm.input h10⟩
  pins _ _ h := h
  append c t _ ht h := by
    obtain ⟨h1, h2, h3, h4, h5, -, h7⟩ := h
    have hl := displaceBatch_length ht.2.2.2.2.2.1
    exact ⟨h1, h2, h3, h4, h5, by simpa [appendBatch] using hl, h7⟩
  powerOn _ := by
    simp [QueuesBounded, powerOnState, State.reset, Tku.reset, Smu.reset, Rku.reset, Btu.reset, Lbp.reset, Evu.reset,
      Svl.reset]
  returned _ := by
    simp [QueuesBounded, resetReturn, powerOnState, State.reset, Tku.reset, Smu.reset, Rku.reset, Btu.reset, Lbp.reset,
      Evu.reset, Svl.reset]
  sent t h := by
    obtain ⟨h1, h2, h3, h4, h5, h6, h7, h8, h9, h10⟩ := h
    exact ⟨by simpa, by simpa, by simpa, by simpa, by simpa, by simpa, by simpa, by simpa,
      (pump_notices_length _).trans h9, by simpa⟩
  lowered _ _ _ t _ h := by
    obtain ⟨h1, h2, h3, h4, h5, h6, h7, h8, h9, h10⟩ := h
    exact ⟨by simpa, by simpa, by simpa, by simpa, by simpa, by simpa, by simpa, by simpa,
      (pump_notices_length _).trans ((pump_notices_length _).trans h9), by simpa⟩
  cleared _ _ _ t h := by
    obtain ⟨h1, h2, h3, h4, h5, h6, h7, h8, h9, h10⟩ := h
    exact ⟨by simpa, by simpa, by simpa, by simpa, by simpa, by simpa, by simpa, by simpa,
      (pump_notices_length _).trans ((List.length_filter_le ..).trans h9), by simpa⟩

/-! ### Every step -/

/-- Settles O58. -/
theorem queuesStayBounded : Obligations.QueuesStayBounded := by
  refine ⟨fun s t h ht => queues_plain.closed.step (fun _ _ u _ hf h => ?_) (fun _ _ h => h) h ht,
    fun s t h ht => batches_plain.closed.step (fun _ _ _ _ _ h => h) (fun _ _ h => h) h ht⟩
  refine ⟨?_, h.2⟩
  replace hf := of_decide_eq_false hf
  simp only [Config.trackCapacity, not_le] at hf
  simpa [joinTrack] using hf

/-- Settles O59. -/
theorem outputStaysCoherent : Obligations.OutputStaysCoherent :=
  ⟨fun _ _ h ht => events_plain.closed.step (fun _ _ _ _ _ h => h) (fun _ _ h => h) h ht,
    fun _ _ h ht => sender_plain.closed.step (fun _ _ _ _ _ h => h) (fun _ _ h => h) h ht⟩

end Sys2Proof.Machine
end

section
/-! The invariants that speak of the line: what the blocks' changes at a transition keep, and the line, the trims, the
nip and the track. -/

namespace Sys2Proof.Machine

/-! ### What the blocks keep, from the state a transition leaves to them -/

/-- A disarmed lane is coherent whether a track runs or not (R146). -/
theorem LaneControl.coherent_disarm {k : LaneControl} {b b' : Bool} (h : k.coherent b) : k.disarm.coherent b' := by
  obtain ⟨h1, h2, -, -, -, h6⟩ := h
  unfold LaneControl.disarm
  cases hs : k.state <;> simp_all [LaneControl.coherent]

theorem LaneControl.coherent_gap {k : LaneControl} {b : Bool} (h : k.coherent b) : k.gap.coherent b :=
  coherent_of_eq (k := k) rfl (by simp [gap]) rfl rfl rfl h

/-- An enabled lane starts in LEADER without a cut (R148). -/
theorem LaneControl.coherent_start {k : LaneControl} {b : Bool} (h : k.coherent b) : k.start.coherent b := by
  unfold LaneControl.start
  split
  next he => simp [LaneControl.coherent, he]
  next => exact h

/-- The scanner goes OFF without harm. -/
theorem TkuMove.scannerOff {running : Bool} (s : State) : TkuMove running s.tku (scannerOff s).tku :=
  .of_eq rfl rfl rfl rfl rfl fun _ _ => ⟨rfl, rfl, rfl⟩

/-- The track is emptied without harm. -/
theorem TkuMove.emptyTrack {running : Bool} (s : State) : TkuMove running s.tku (emptyTrack s).tku where
  ordered _ := by simp [Tku.Ordered, Tku.blocks, Machine.emptyTrack]
  emptied _ _ := ⟨rfl, rfl⟩
  unscanned _ _ := ⟨rfl, rfl, rfl⟩
  nextRepeat := rfl
  length := by simp [Machine.emptyTrack]
  splices _ := by simp [Machine.emptyTrack]

theorem scannerOff_eq (s : State) : scannerOff s = s.onTku (fun _ => (scannerOff s).tku) := rfl
theorem emptyTrack_eq (s : State) : emptyTrack s = s.onTku (fun _ => (emptyTrack s).tku) := rfl

section
variable {P : State → Prop} (hP : Core P)
include hP

theorem Core.scannerOff (s : State) (h : P s) : P (scannerOff s) := hP.tku s (fun _ => _) (.scannerOff s) h

theorem Core.emptyTrack (s : State) (h : P s) : P (emptyTrack s) := hP.tku s (fun _ => _) (.emptyTrack s) h

theorem Core.disarmLanes (s : State) (h : P s) : P (disarmLanes s) :=
  hP.rku s _ ⟨fun ⟨ha, hb⟩ => ⟨LaneControl.coherent_disarm ha, LaneControl.coherent_disarm hb⟩, id⟩ h

theorem Core.gapLanes (s : State) (h : P s) : P (gapLanes s) :=
  hP.rku s _ ⟨fun ⟨ha, hb⟩ => ⟨LaneControl.coherent_gap (LaneControl.coherent_disarm ha),
    LaneControl.coherent_gap (LaneControl.coherent_disarm hb)⟩, id⟩ h

/-- What a property of one unit needs beside Core: it does not look at the measurement unit and the batch table. -/
theorem Core.toWork (hs : ∀ t f, P t → P (t.onSmu f)) (hb : ∀ t f, P t → P (t.onBtu f)) : Work P where
  toCore := hP
  abandon c t _ h := abandonSpot_keeps hP.raise (fun t f _ h => hs t f h) (fun t h => hs t _ h) hP.reply c t h
  append _ t _ h := hb _ _ (hP.displaceBatch t h)

end

section
variable {P : State → Prop} (hP : Work P)
include hP

/-- The entry into FAULT, from the blocks' changes on. -/
theorem Work.faultBlocks (s : State)
    (h : P (embossAtStop (zeroTrims (scannerOff (noticeLineState .stopCause
      (s.onWtb (fun w => { w with line := .fault, resumeArmed := false }))))))) : P (enterFault s) :=
  hP.disarmLanes _ (hP.head.shadeAtFault _ h)

/-- The stop changes, from the nip on. -/
theorem Work.stopBlocks (s : State) (h : P (embossAtStop (emptyTrack s))) : P (stopBlocks s) :=
  hP.gapLanes _ (hP.head.shadeAtStop _ h)

/-- The recover changes: a releasing unit enters OPEN (R86). -/
theorem Work.recoverBlocks (s : State) (h : P (emptyTrack s)) : P (recoverBlocks s) := by
  refine hP.gapLanes _ (hP.head.shadeAtRecover _ ?_)
  refine hP.epu _ _ (fun hn => ?_) h
  split
  next hr =>
    obtain ⟨h1, h2⟩ := hn.closed (by rw [hr]; decide)
    exact .of_open h1 h2 (by simp) (by simp)
  next => exact .of_eq rfl rfl rfl rfl hn

/-- The job-open changes in THREAD, once the counters of the track have gone back to 1. -/
theorem Work.openBlocks (s : State) (hl : s.wtb.line = .thread)
    (h : P (s.onTku (fun t => { t with nextRepeat := 1, readCursor := 1 }))) : P (openBlocks s) := by
  unfold Machine.openBlocks
  refine hP.lbp _ _ (.unlink _) (hP.btu _ _ ⟨fun _ => ⟨by simp, by simp, by simp, by simp⟩, by simp⟩ ?_)
  refine hP.rku _ _ (.of_eq rfl rfl (by simp)) (hP.smu _ _ (.of_eq rfl rfl rfl (by simp) (hd := by simp)) ?_)
  refine hP.epu _ _ (fun hn => ?_) (hP.rlu _ _ (fun c hc => by simpa using hc) (hP.seedEstimate _ h))
  have hs : ¬(s.epu.state = .syncing ∨ s.epu.state = .engaged) := fun hs => by simpa [hl, seedEstimate] using hn.2.1 hs
  obtain ⟨h1, h2⟩ := hn.closed (fun hs' => hs (.inr hs'))
  split <;> exact .of_open h1 h2 (by simp) (by simp)

/-- The changes as the track starts, for a property that does not look at the track. -/
theorem Work.startTrack (ht : ∀ t f, P t → P (t.onTku f)) (s : State) (h : P s) : P (startTrack s) := by
  unfold Machine.startTrack
  refine hP.rku _ _ ⟨fun ⟨ha, hb⟩ => ⟨LaneControl.coherent_start ha, LaneControl.coherent_start hb⟩, id⟩ ?_
  refine hP.smu _ _ (.of_eq rfl rfl rfl) (hP.embossBeside _ _ (hP.loadAutoSettles _ (hP.stations _ _ ?_ ?_)))
  · rfl
  · exact ht _ _ (ht _ _ (hP.wtb s _ rfl (.of_eq rfl rfl rfl rfl rfl) h))

/-- The job-end changes after the trims, for a property that does not look at the lanes. -/
theorem Work.endBlocks (hr : ∀ t f, P t → P (t.onRku f)) (s : State) (h : P (zeroTrims s)) : P (endBlocks s) := by
  have hRoll : ∀ l t, P t → P (endRoll l t) := by
    intro l t h
    unfold endRoll
    split
    · exact hP.roll.finalise _ _ _ _ _ (hr t _ h)
    · exact h
  unfold Machine.endBlocks
  refine hP.evu _ _ ⟨fun ⟨h1, h2, h3, h4, h5, _⟩ => ⟨h1, h2, h3, h4, h5, by simp⟩, rfl, rfl⟩ ?_
  refine hP.btu _ _ ⟨fun hb => ⟨by simp, by simp, hb.2.2⟩, by simp⟩ (hr _ _ (hRoll .b _ (hRoll .a _ ?_)))
  exact hP.head.shadeAtEnd _ (hP.epu _ _ (fun _ => .of_open rfl rfl (by simp) (by simp)) h)
end

/-! ### The line -/

theorem line_core : Core LineCoherent where
  notice ev p1 p2 t h := by simpa [LineCoherent] using h
  reply r t h := by simpa [LineCoherent] using h
  hold armed t hl h := by simpa [LineCoherent, hl] using h.2.2
  wtb t f _ hc h := hc h
  tku _ _ _ h := h
  rlu _ _ _ h := h
  epu _ _ _ h := h
  smu _ _ _ h := h
  rku _ _ _ h := h
  btu _ _ _ h := h
  lbp _ _ _ h := h
  evu _ _ _ h := h
  svl _ _ _ h := h
  pins _ _ h := h

theorem line_work : Work LineCoherent := line_core.toWork (fun _ _ h => h) (fun _ _ h => h)

/-- THREAD is entered with HW at WP (R3). -/
theorem LineCoherent.enterThread (s : State) : LineCoherent (enterThread s) := by
  simp [LineCoherent, Machine.enterThread]

theorem line_closed : Closed LineCoherent where
  toWork := line_work
  fault t _ h := line_work.faultBlocks t (line_core.embossAtStop _ (line_core.zeroTrims _ (line_core.scannerOff _
    (line_core.noticeLineState _ _ ⟨by simp, by simp, h.2.2⟩))))
  run r t _ h := line_work.head.endCalibrationEarly _ (line_core.noticeLineState _ _ ⟨by simp, by simp, h.2.2⟩)
  opened t _ _ := line_work.openBlocks _ (by simp [Machine.enterThread]) (LineCoherent.enterThread t)
  started t _ h := by
    have hs := line_work.startTrack (fun _ _ h => h) t h
    unfold enterRunning
    split
    · exact line_work.head.endCalibrationEarly _ (line_core.noticeLineState _ _ ⟨by simp, by simp, hs.2.2⟩)
    · exact line_core.noticeLineState _ _ ⟨by simp, by simp, hs.2.2⟩
  stopped t _ _ := line_work.stopBlocks _ (line_core.embossAtStop _ (line_core.emptyTrack _ (.enterThread t)))
  ended t hl h := line_work.endBlocks (fun _ _ h => h) _ (line_core.zeroTrims _ (line_core.noticeLineState _ _
    ⟨by simp, fun _ => h.2.1 (.inr hl), h.2.2⟩))
  recovered t _ _ := line_work.recoverBlocks _ (line_core.emptyTrack _ (.enterThread t))
  powerOn _ _ := invariantsHoldAtReset.1
  returned _ _ := invariantsHoldAtReset.1
  sent t h := by simpa [LineCoherent] using h
  lowered _ _ _ t _ h := by simpa [LineCoherent] using h
  cleared _ _ _ t h := by simpa [LineCoherent] using h

/-- Settles O53. -/
theorem lineStaysCoherent : Obligations.LineStaysCoherent :=
  fun _ _ h ht => line_closed.step (fun _ _ _ _ _ h => h) (fun _ _ h => h) h ht

/-! ### The trims -/

theorem trims_core : Core TrimsBounded where
  notice ev p1 p2 t h := by simpa [TrimsBounded] using h
  reply r t h := by simpa [TrimsBounded] using h
  hold armed t hl h := by
    intro c
    obtain ⟨h1, h2, -⟩ := h c
    exact ⟨by simpa using h1, by simpa using h2, by simp⟩
  wtb t f hl _ h c := by simpa [hl] using h c
  tku _ _ _ h := h
  rlu t f hm h c := hm c (h c)
  epu _ _ _ h := h
  smu _ _ _ h := h
  rku _ _ _ h := h
  btu _ _ _ h := h
  lbp _ _ _ h := h
  evu _ _ _ h := h
  svl _ _ _ h := h
  pins _ _ h := h

theorem trims_work : Work TrimsBounded := trims_core.toWork (fun _ _ h => h) (fun _ _ h => h)

/-- With every owed trim 0 the trims are in order in every line state (R66). -/
theorem TrimsBounded.zeroTrims (s : State) : TrimsBounded (zeroTrims s) := by
  refine (trimsBounded_iff _).2 fun c => ?_
  simpa [Machine.zeroTrims] using owedOk_zero _

/-- A change of the line state to THREAD, RUN or HOLD asks no more of the trims. -/
theorem TrimsBounded.of_line {s : State} (f : Wtb → Wtb) (hi : (f s.wtb).line ≠ .idle) (hf : (f s.wtb).line ≠ .fault)
    (h : TrimsBounded s) : TrimsBounded (s.onWtb f) := fun c => OwedOk.of_bounds (h c).1 (h c).2.1 hi hf

theorem TrimsBounded.enterThread (s : State) (h : TrimsBounded s) : TrimsBounded (enterThread s) :=
  trims_core.noticeLineState _ _ (.of_line _ (by simp) (by simp) h)

theorem trims_closed : Closed TrimsBounded where
  toWork := trims_work
  fault t _ _ := trims_work.faultBlocks t (trims_core.embossAtStop _ (.zeroTrims _))
  run r t _ h := trims_work.head.endCalibrationEarly _ (trims_core.noticeLineState _ _
    (.of_line _ (by simp) (by simp) h))
  opened t _ h := trims_work.openBlocks _ (by simp [Machine.enterThread]) (TrimsBounded.enterThread t h)
  started t _ h := by
    have hs := trims_work.startTrack (fun _ _ h => h) t h
    unfold enterRunning
    split
    · exact trims_work.head.endCalibrationEarly _ (trims_core.noticeLineState _ _ (.of_line _ (by simp) (by simp) hs))
    · exact trims_core.noticeLineState _ _ (.of_line _ (by simp) (by simp) hs)
  stopped t _ h := trims_work.stopBlocks _ (trims_core.embossAtStop _ (trims_core.emptyTrack _ (.enterThread t h)))
  ended t _ _ := trims_work.endBlocks (fun _ _ h => h) _ (.zeroTrims _)
  recovered t _ h := trims_work.recoverBlocks _ (trims_core.emptyTrack _ (.enterThread t h))
  powerOn _ _ := invariantsHoldAtReset.2.2.1
  returned _ _ := invariantsHoldAtReset.2.2.1
  sent t h := by simpa [TrimsBounded] using h
  lowered _ _ _ t _ h := by simpa [TrimsBounded] using h
  cleared _ _ _ t h := by simpa [TrimsBounded] using h

/-- Settles O55. -/
theorem trimsStayBounded : Obligations.TrimsStayBounded :=
  fun _ _ h ht => trims_closed.step (fun _ _ _ _ _ h => h) (fun _ _ h => h) h ht

/-! ### The nip -/

/-- A unit that leaves step where it cannot re-engage has the nip open and the close timer stopped (R86). -/
theorem leaveStep_nipOk {line line' : LineState} {s : State} (h : s.epu.NipOk line)
    (hr : s.epu.reengage = false ∨ s.wtb.line ≠ .run) : (leaveStep s).epu.NipOk line' := by
  unfold leaveStep
  cases hs : s.epu.state with
  | engaged =>
    simp only [enterReleasing]
    split
    · exact .of_open rfl rfl (by simp) (by simp)
    · unfold actOnReengage
      split
      next hc =>
        obtain ⟨-, -, hl, hg⟩ := hc
        simp only [State.onEpu_epu, State.onEpu_wtb] at hl hg
        simp [hl, hg] at hr
      next => exact .of_open rfl rfl (by simp) (by simp)
  | _ =>
    obtain ⟨h1, h2⟩ := h.closed (by simp [hs])
    exact .of_open (by simp [h1]) (by simp [h2]) (by simp [hs]) (by simp [hs])

theorem Epu.NipOk.atStop {line line' : LineState} {s : State} (h : s.epu.NipOk line) :
    (embossAtStop s).epu.NipOk line' := leaveStep_nipOk (.of_eq rfl rfl rfl rfl h) (.inl rfl)

theorem nip_core : Core NipSafe where
  notice ev p1 p2 t h := by simpa [NipSafe] using h
  reply r t h := by simpa [NipSafe] using h
  hold armed t hl h := by
    rw [nipSafe_iff, enterHold_wtb]
    exact leaveStep_nipOk (Epu.NipOk.of_eq rfl rfl rfl rfl h) (.inr (by simp))
  wtb t f hl _ h := by simpa [NipSafe, hl] using h
  tku _ _ _ h := h
  rlu _ _ _ h := h
  epu _ _ hm h := hm h
  smu _ _ _ h := h
  rku _ _ _ h := h
  btu _ _ _ h := h
  lbp _ _ _ h := h
  evu _ _ _ h := h
  svl _ _ _ h := h
  pins _ _ h := h

theorem nip_work : Work NipSafe := nip_core.toWork (fun _ _ h => h) (fun _ _ h => h)

/-- A change of the line between states without step, or into RUN, asks no more of the nip. -/
theorem NipSafe.of_line {s : State} (f : Wtb → Wtb) (hl : s.wtb.line ≠ .run ∨ (f s.wtb).line = .run) (h : NipSafe s) :
    NipSafe (s.onWtb f) := by
  obtain ⟨h1, h2, h3⟩ := h
  refine ⟨h1, fun hs => ?_, h3⟩
  obtain hl | hl := hl
  · exact absurd (h2 hs) hl
  · exact hl

theorem nip_closed : Closed NipSafe where
  toWork := nip_work
  fault t _ h := by
    refine nip_work.faultBlocks t ?_
    rw [nipSafe_iff]
    exact Epu.NipOk.atStop (line := t.wtb.line) (by simpa [zeroTrims, scannerOff] using (nipSafe_iff t).1 h)
  run r t _ h := nip_work.head.endCalibrationEarly _ (nip_core.noticeLineState _ _ (.of_line _ (.inr rfl) h))
  opened t hl h := nip_work.openBlocks _ (by simp [enterThread])
    (nip_core.noticeLineState _ _ (.of_line _ (.inl (by simp [hl])) h))
  started t hl h := by
    have hs := nip_work.startTrack (fun _ _ h => h) t h
    have hline : (startTrack t).wtb.line = .thread := hl
    unfold enterRunning
    split
    · exact nip_work.head.endCalibrationEarly _ (nip_core.noticeLineState _ _ (.of_line _ (.inr rfl) hs))
    · exact nip_core.noticeLineState _ _ (.of_line _ (.inl (by simp [hline])) hs)
  stopped t _ h := by
    refine nip_work.stopBlocks _ ?_
    rw [nipSafe_iff]
    exact Epu.NipOk.atStop (line := t.wtb.line) (by simpa [emptyTrack, enterThread, scannerOff] using (nipSafe_iff t).1 h)
  ended t hl h := nip_work.endBlocks (fun _ _ h => h) _ (nip_core.zeroTrims _ (nip_core.noticeLineState _ _
    (.of_line _ (.inl (by simp [hl])) h)))
  recovered t hl h := nip_work.recoverBlocks _ (nip_core.emptyTrack _ (nip_core.noticeLineState _ _
    (.of_line _ (.inl (by simp [hl])) h)))
  powerOn _ _ := invariantsHoldAtReset.2.2.2.1
  returned _ _ := invariantsHoldAtReset.2.2.2.1
  sent t h := by simpa [NipSafe] using h
  lowered _ _ _ t _ h := by simpa [NipSafe] using h
  cleared _ _ _ t h := by simpa [NipSafe] using h

/-- Settles O56. -/
theorem nipStaysSafe : Obligations.NipStaysSafe :=
  fun _ _ h ht => nip_closed.step (fun _ _ _ _ _ h => h) (fun _ _ h => h) h ht

/-! ### The track -/

/-- TrackCoherent while, where `b` says so, the repeat counter has numbers left (log 16). -/
def TrackBelow (b : Bool) (s : State) : Prop :=
  TrackCoherent s ∧ (b = true → s.tku.nextRepeat < 4294967295)

theorem TrackBelow.of_tku {b : Bool} {s t : State} (ht : t.tku = s.tku) (hl : t.wtb.line = s.wtb.line)
    (h : TrackBelow b s) : TrackBelow b t := by
  simpa [TrackBelow, TrackCoherent, State.running, ht, hl] using h

/-- The track keeps its order through a harmless change, and asks of the line what it asked before. -/
theorem TrackBelow.move {b : Bool} {s : State} {f : Tku → Tku} (hm : TkuMove s.running s.tku (f s.tku))
    (h : TrackBelow b s) : TrackBelow b (s.onTku f) := by
  obtain ⟨h, hb⟩ := h
  obtain ⟨ho, he, hu⟩ := (trackCoherent_iff s).1 h
  refine ⟨(trackCoherent_iff _).2 ⟨hm.ordered ho, fun hl => ?_, fun hr => hm.unscanned hr (hu hr)⟩,
    fun hb' => hm.nextRepeat ▸ hb hb'⟩
  have hr : s.running = false := by
    obtain hl | hl := hl <;> simp [State.running, show s.wtb.line = _ from hl]
  exact hm.emptied hr (he hl)

theorem track_core (b : Bool) : Core (TrackBelow b) where
  notice ev p1 p2 t h := h.of_tku (by simp) (by simp)
  reply r t h := h.of_tku (by simp) (by simp)
  hold armed t hl h := by
    obtain ⟨h, hb⟩ := h
    obtain ⟨ho, -, -⟩ := (trackCoherent_iff t).1 h
    exact ⟨(trackCoherent_iff _).2 ⟨by simpa using ho, by simp, by simp [State.running]⟩, by simpa using hb⟩
  wtb t f hl _ h := TrackBelow.of_tku (s := t) rfl hl h
  tku _ _ hm h := h.move hm
  rlu _ _ _ h := h
  epu _ _ _ h := h
  smu _ _ _ h := h
  rku _ _ _ h := h
  btu _ _ _ h := h
  lbp _ _ _ h := h
  evu _ _ _ h := h
  svl _ _ _ h := h
  pins _ _ h := h

theorem track_work (b : Bool) : Work (TrackBelow b) := (track_core b).toWork (fun _ _ h => h) (fun _ _ h => h)

/-- A change of the line to RUN or HOLD asks only the order of the track. -/
theorem TrackBelow.of_running {b : Bool} {s : State} (ho : s.tku.Ordered) (hr : s.running = true)
    (hb : b = true → s.tku.nextRepeat < 4294967295) : TrackBelow b s := by
  refine ⟨(trackCoherent_iff s).2 ⟨ho, fun hl => ?_, by simp [hr]⟩, hb⟩
  obtain hl | hl := hl <;> simp [State.running, hl] at hr

/-- A change of the line to a state without a running track keeps an emptied, unscanned track. -/
theorem TrackBelow.of_stopped {b : Bool} {s : State} (ho : s.tku.Ordered) (he : s.tku.Emptied) (hu : s.tku.Unscanned)
    (hb : b = true → s.tku.nextRepeat < 4294967295) : TrackBelow b s :=
  ⟨(trackCoherent_iff s).2 ⟨ho, fun _ => he, fun _ => hu⟩, hb⟩

/-- The track is empty and unscanned after a stop or a recovery (R47). -/
theorem TrackBelow.emptyTrack {b : Bool} {s : State} (hb : b = true → s.tku.nextRepeat < 4294967295) :
    TrackBelow b (emptyTrack s) :=
  .of_stopped (by simp [Tku.Ordered, Tku.blocks, Machine.emptyTrack]) ⟨rfl, rfl⟩ ⟨rfl, rfl, rfl⟩ hb

theorem TrackBelow.enterThread_next {b : Bool} {s : State} (h : TrackBelow b s) :
    b = true → (enterThread s).tku.nextRepeat < 4294967295 := by simpa [enterThread] using h.2

theorem track_closed (b : Bool) : Closed (TrackBelow b) where
  toWork := track_work b
  fault t _ h := by
    refine (track_work b).faultBlocks t ((track_core b).embossAtStop _ ((track_core b).zeroTrims _ ?_))
    obtain ⟨ho, -, -⟩ := (trackCoherent_iff t).1 h.1
    refine ⟨(trackCoherent_iff _).2 ⟨?_, by simp [scannerOff], fun _ => ⟨rfl, rfl, rfl⟩⟩, by simpa [scannerOff] using h.2⟩
    exact .of_eq (by simp [scannerOff]) (by simp [scannerOff]) (by simp [scannerOff]) (by simp [scannerOff]) ho
  run r t hl h := by
    refine (track_work b).head.endCalibrationEarly _ ((track_core b).noticeLineState _ _ ?_)
    exact .of_running ((trackCoherent_iff t).1 h.1).1 (by simp [State.running]) h.2
  opened t hl h := by
    obtain ⟨-, he, hu⟩ := (trackCoherent_iff t).1 h.1
    replace he := he (.inl hl)
    replace hu := hu (by simp [State.running, hl])
    have hn := he.1
    simp only [Tku.blocks, List.append_eq_nil_iff] at hn
    obtain ⟨ho, -, -⟩ := (trackCoherent_iff t).1 h.1
    refine (track_work b).openBlocks _ (by simp [enterThread]) (.of_stopped ?_ ?_ ?_ (by simp))
    · simpa [Tku.Ordered, Tku.blocks, hn, enterThread] using ho.2.2.2
    · simpa [Tku.Emptied, Tku.blocks, enterThread] using he
    · simpa [Tku.Unscanned, enterThread] using hu
  started t hl h := by
    obtain ⟨ho, -, -⟩ := (trackCoherent_iff t).1 h.1
    have hs : (startTrack t).tku.Ordered ∧ (b = true → (startTrack t).tku.nextRepeat < 4294967295) := ⟨ho, h.2⟩
    unfold enterRunning
    split
    · exact (track_work b).head.endCalibrationEarly _ ((track_core b).noticeLineState _ _
        (.of_running hs.1 (by simp [State.running]) hs.2))
    · exact (track_core b).noticeLineState _ _ (.of_running hs.1 (by simp [State.running]) hs.2)
  stopped t _ h := (track_work b).stopBlocks _ ((track_core b).embossAtStop _ (.emptyTrack h.enterThread_next))
  ended t hl h := by
    refine (track_work b).endBlocks (fun _ _ h => h) _ ((track_core b).zeroTrims _ ((track_core b).noticeLineState _ _ ?_))
    obtain ⟨ho, he, hu⟩ := (trackCoherent_iff t).1 h.1
    exact .of_stopped ho (he (.inr hl)) (hu (by simp [State.running, hl])) h.2
  recovered t _ h := (track_work b).recoverBlocks _ (.emptyTrack h.enterThread_next)
  powerOn _ _ := ⟨invariantsHoldAtReset.2.1, fun _ => by simp [powerOnState, State.reset, Tku.reset]⟩
  returned _ _ := ⟨invariantsHoldAtReset.2.1, fun _ => by simp [resetReturn, powerOnState, State.reset, Tku.reset]⟩
  sent t h := h.of_tku (by simp) (by simp)
  lowered _ _ _ t _ h := h.of_tku (by simp) (by simp)
  cleared _ _ _ t h := h.of_tku (by simp) (by simp)

/-- The new record is numbered above all that stand (R29). -/
theorem TrackBelow.joinTrack {origin : Pos} {birth : Birth} {t : State} (hr : t.running = true)
    (h : TrackBelow true t) : TrackBelow false (joinTrack origin birth t) := by
  obtain ⟨⟨h1, h2, h3, h4⟩, -, -⟩ := (trackCoherent_iff t).1 h.1
  have hn : nextRepeatAfter t.tku.nextRepeat = t.tku.nextRepeat + 1 := by simp [nextRepeatAfter, h.2 rfl]
  refine .of_running ⟨?_, fun r hm => ?_, fun d hd r hm => ?_, fun c hc n hm => ?_⟩ hr (by simp)
  · refine List.pairwise_append.2 ⟨h1, by simp, fun x hx y hy => ?_⟩
    obtain rfl : y = newRecord t t.tku.nextRepeat origin birth := by simpa using hy
    exact h2 x (List.mem_append_right _ hx)
  · show r.number < nextRepeatAfter t.tku.nextRepeat
    rw [hn]
    obtain hm | hm := List.mem_append.1 hm
    · exact (h2 r (List.mem_append_left _ hm)).trans (by omega)
    · obtain hm | hm := List.mem_append.1 hm
      · exact (h2 r (List.mem_append_right _ hm)).trans (by omega)
      · obtain rfl : r = newRecord t t.tku.nextRepeat origin birth := by simpa using hm
        simp [newRecord]
  · obtain hm | hm := List.mem_append.1 hm
    · exact h3 d hd r hm
    · obtain rfl : r = newRecord t t.tku.nextRepeat origin birth := by simpa using hm
      exact (h2 d (List.mem_append_left _ hd)).ne
  · obtain ⟨r, hr', he⟩ := h4 c hc n hm
    exact ⟨r, List.mem_append_left _ hr', he⟩

/-- Settles O54. -/
theorem trackStaysCoherent : Obligations.TrackStaysCoherent := by
  intro s t hn h ht
  have hC : Creating (TrackBelow true) (TrackBelow false) :=
    ⟨track_closed true, track_closed false, fun _ h => ⟨h.1, by simp⟩, fun _ _ _ hr _ h => h.joinTrack hr⟩
  exact (hC.step (fun _ _ h => h) ⟨h, fun _ => hn⟩ ht).1

end Sys2Proof.Machine
end

section
/-! The invariants of the lanes and of the work that the head, the calibration and the printer hold. -/

namespace Sys2Proof.Machine

/-! ### What stands while no track runs -/

/-- No track runs, and the lanes stand so. -/
def LanesStand (a b : LaneControl) (t : State) : Prop :=
  t.running = false ∧ t.rku.laneA = a ∧ t.rku.laneB = b

theorem LanesStand.raise {a b : LaneControl} (ev : Event) (p1 p2 : Nat) (s : State) (h : LanesStand a b s) :
    LanesStand a b (raise ev p1 p2 s) := by
  refine raise_keeps (LanesStand a b) ?_ (fun _ _ _ h => h) ?_ ?_ ?_ ?_ ?_ (fun _ h => h) ?_ _ _ _ _ h
  · intro ev p1 p2 t h
    simpa [LanesStand, State.running] using h
  · intro slot t h
    unfold Machine.spotTrigger
    split <;> exact h
  · intro l t h
    have hc : cutLane l t = t := by simp [cutLane, cutAnswer, h.1]
    rwa [hc]
  · intro t hl h
    simp [LanesStand, State.running, hl] at h
  · intro t hl h
    simp [LanesStand, State.running, hl] at h
  · intro t h
    simpa [LanesStand, State.running] using h
  · intro slot t h
    simpa [LanesStand, State.running] using h

theorem lanesStand_head (a b : LaneControl) : HeadClosed (LanesStand a b) where
  raise := .raise
  reply r t h := by simpa [LanesStand, State.running] using h
  smu _ _ _ h := h
  abandon c t _ h := abandonSpot_keeps .raise (fun _ _ _ h => h) (fun _ h => h)
    (fun r t h => by simpa [LanesStand, State.running] using h) c t h

theorem lanesStand_roll (a b : LaneControl) : RollClosed (LanesStand a b) where
  raise := .raise
  btu _ _ _ h := h
  lbp _ _ _ h := h
  append c t _ h := by
    show LanesStand a b (displaceBatch t)
    unfold displaceBatch
    split
    · exact h
    · split
      · exact h
      · exact LanesStand.raise _ _ _ _ h
  history t f ha hb _ h := ⟨h.1, ha.trans h.2.1, hb.trans h.2.2⟩

/-- Lanes coherent while no track runs are so while one runs: no cut is armed. -/
theorem LaneControl.coherent.of_stopped {k : LaneControl} {b : Bool} (h : k.coherent false) : k.coherent b := by
  obtain ⟨h1, h2, h3, h4, h5, h6⟩ := h
  exact ⟨h1, h2, fun hc => absurd (h3 hc).2 (by simp), h4, h5, h6⟩

theorem LanesStand.coherent {a b : LaneControl} {s : State} (h : LanesStand a b s) (ha : a.coherent false)
    (hb : b.coherent false) : LanesCoherent s := by
  obtain ⟨hr, rfl, rfl⟩ := h
  exact (lanesCoherent_iff s).2 (hr ▸ ⟨ha, hb⟩)

/-! ### The lanes -/

theorem lanes_core : Core LanesCoherent where
  notice ev p1 p2 t h := by simpa [LanesCoherent, State.running] using h
  reply r t h := by simpa [LanesCoherent, State.running] using h
  hold armed t hl h := by simpa [LanesCoherent, State.running, hl] using h
  wtb t f hl _ h := by simpa [LanesCoherent, State.running, hl] using h
  tku _ _ _ h := h
  rlu _ _ _ h := h
  epu _ _ _ h := h
  smu _ _ _ h := h
  rku _ _ hm h := hm.lanes h
  btu _ _ _ h := h
  lbp _ _ _ h := h
  evu _ _ _ h := h
  svl _ _ _ h := h
  pins _ _ h := h

theorem lanes_work : Work LanesCoherent := lanes_core.toWork (fun _ _ h => h) (fun _ _ h => h)

/-- A change of the line between running states, or between others, or from one that does not run, asks no more of
the lanes. -/
theorem LanesCoherent.of_line {s : State} (f : Wtb → Wtb) (hr : s.running = false ∨ (s.onWtb f).running = s.running)
    (h : LanesCoherent s) : LanesCoherent (s.onWtb f) := by
  rw [lanesCoherent_iff] at h ⊢
  obtain hr | hr := hr
  · rw [hr] at h
    exact ⟨h.1.of_stopped, h.2.of_stopped⟩
  · exact hr ▸ h

/-- At the entry to FAULT the lanes stand until they are disarmed (R146). -/
theorem LanesCoherent.enterFault (s : State) (h : LanesCoherent s) : LanesCoherent (enterFault s) := by
  have hs : LanesStand s.rku.laneA s.rku.laneB (embossAtStop (zeroTrims (scannerOff (noticeLineState .stopCause
      (s.onWtb (fun w => { w with line := .fault, resumeArmed := false })))))) := by
    simp [LanesStand, State.running, embossAtStop, zeroTrims, scannerOff]
  obtain ⟨hr, ha, hb⟩ := (lanesStand_head _ _).shadeAtFault _ hs
  refine LanesStand.coherent ⟨hr, congrArg LaneControl.disarm ha, congrArg LaneControl.disarm hb⟩ ?_ ?_
  · exact LaneControl.coherent_disarm h.1
  · exact LaneControl.coherent_disarm h.2

/-- At JOB STOP the lanes stand until they are disarmed and their rolls flagged (R146, R147). -/
theorem LanesCoherent.stopped (s : State) (h : LanesCoherent s) : LanesCoherent (stopBlocks (enterThread s)) := by
  have hs : LanesStand s.rku.laneA s.rku.laneB (embossAtStop (emptyTrack (enterThread s))) := by
    simp [LanesStand, State.running, embossAtStop, emptyTrack, scannerOff, enterThread]
  obtain ⟨hr, ha, hb⟩ := (lanesStand_head _ _).shadeAtStop _ hs
  refine LanesStand.coherent ⟨hr, congrArg (·.disarm.gap) ha, congrArg (·.disarm.gap) hb⟩ ?_ ?_
  · exact LaneControl.coherent_gap (LaneControl.coherent_disarm h.1)
  · exact LaneControl.coherent_gap (LaneControl.coherent_disarm h.2)

theorem endRoll_a_stand {a b : LaneControl} {s : State} (h : LanesStand a b s) :
    LanesStand { a with roll := none } b (endRoll .a s) := by
  obtain ⟨hr, rfl, rfl⟩ := h
  unfold endRoll
  split
  · exact (lanesStand_roll _ _).finalise _ _ _ _ _ ⟨hr, rfl, rfl⟩
  next hn => exact ⟨hr, by rw [← show s.rku.laneA.roll = none from hn], rfl⟩

theorem endRoll_b_stand {a b : LaneControl} {s : State} (h : LanesStand a b s) :
    LanesStand a { b with roll := none } (endRoll .b s) := by
  obtain ⟨hr, rfl, rfl⟩ := h
  unfold endRoll
  split
  · exact (lanesStand_roll _ _).finalise _ _ _ _ _ ⟨hr, rfl, rfl⟩
  next hn => exact ⟨hr, rfl, by rw [← show s.rku.laneB.roll = none from hn]⟩

/-- A lane that is OFF with no roll is coherent. -/
theorem LaneControl.coherent_off (k : LaneControl) (b : Bool) : ({ k with roll := none } : LaneControl).off.coherent b := by
  simp [LaneControl.off, LaneControl.coherent]

/-- JOB END leaves both lanes OFF without a roll (R149). -/
theorem LanesCoherent.ended (s : State) : LanesCoherent (endBlocks (enterIdle s)) := by
  have hs : LanesStand s.rku.laneA s.rku.laneB (embossAtEnd (zeroTrims (enterIdle s))) := by
    simp [LanesStand, State.running, zeroTrims, enterIdle, embossAtEnd]
  obtain ⟨hr, ha, hb⟩ := endRoll_b_stand (endRoll_a_stand ((lanesStand_head _ _).shadeAtEnd _ hs))
  exact LanesStand.coherent ⟨hr, congrArg LaneControl.off ha, congrArg LaneControl.off hb⟩
    (LaneControl.coherent_off _ _) (LaneControl.coherent_off _ _)

theorem enterThread_lanes {s : State} (hr : s.running = false) (h : LanesCoherent s) :
    LanesCoherent (enterThread s) :=
  lanes_core.noticeLineState _ _ (.of_line _ (.inl hr) h)

theorem lanes_closed : Closed LanesCoherent where
  toWork := lanes_work
  fault t _ h := .enterFault t h
  run r t hl h := lanes_work.head.endCalibrationEarly _ (lanes_core.noticeLineState _ _
    (.of_line _ (.inr (by simp [State.running, hl])) h))
  opened t hl h := lanes_work.openBlocks _ (by simp [Machine.enterThread])
    (enterThread_lanes (by simp [State.running, hl]) h)
  started t hl h := by
    have hs := lanes_work.startTrack (fun _ _ h => h) t h
    have hr : (startTrack t).running = false := by
      have hl' : (startTrack t).wtb.line = .thread := hl
      simp [State.running, hl']
    unfold enterRunning
    split
    · exact lanes_work.head.endCalibrationEarly _ (lanes_core.noticeLineState _ _ (.of_line _ (.inl hr) hs))
    · exact lanes_core.noticeLineState _ _ (.of_line _ (.inl hr) hs)
  stopped t _ h := .stopped t h
  ended t _ _ := .ended t
  recovered t hl h := lanes_work.recoverBlocks _ (lanes_core.emptyTrack _
    (enterThread_lanes (by simp [State.running, hl]) h))
  powerOn _ _ := invariantsHoldAtReset.2.2.2.2.1
  returned _ _ := invariantsHoldAtReset.2.2.2.2.1
  sent t h := by simpa [LanesCoherent, State.running] using h
  lowered _ _ _ t _ h := by simpa [LanesCoherent, State.running] using h
  cleared _ _ _ t h := by simpa [LanesCoherent, State.running] using h

/-- Settles O57. -/
theorem lanesStayCoherent : Obligations.LanesStayCoherent :=
  fun _ _ h ht => lanes_closed.step (fun _ _ _ _ _ h => h) (fun _ _ h => h) h ht

/-! ### Head work -/

/-- HeadOk, where `strict` says so; else a held SPOT STOP may stand without a spot in progress, as it does while a spot
is being abandoned (R117). -/
def Smu.HeadSome (strict : Bool) (line : LineState) (m : Smu) : Prop :=
  (m.standing.isSome = true → m.contexts = []) ∧
  (m.heldStops ≠ [] → (strict = true → m.spotInProgress.isSome = true) ∧ m.contexts = []) ∧
  (∀ c, m.calRun = some c → c.todo ≠ [] ∧ line ≠ .run ∧ line ≠ .fault) ∧
  (∀ i : Fin 6, m.faults[i] < Config.headFaultLimit) ∧ m.drops ≤ 255

theorem Smu.headSome_true (line : LineState) (m : Smu) : m.HeadSome true line ↔ m.HeadOk line := by
  simp [Smu.HeadSome, Smu.HeadOk]

theorem Smu.HeadSome.joinSpot {b : Bool} {line : LineState} {c : SpotContext} {s : State} (hh : s.smu.heldStops = [])
    (h : s.smu.HeadSome b line) : (joinSpot c s).smu.HeadSome b line := by
  obtain ⟨-, -, h3, h4, h5⟩ := h
  exact ⟨by simp [Machine.joinSpot], fun hne => absurd hh hne, h3, h4, h5⟩

theorem Smu.HeadSome.raise {b : Bool} {line : LineState} (ev : Event) (p1 p2 : Nat) (s : State)
    (h : s.smu.HeadSome b line) : (raise ev p1 p2 s).smu.HeadSome b line := by
  refine raise_keeps (fun t => t.smu.HeadSome b line) ?_ ?_ ?_ ?_ ?_ (fun _ _ h => h) ?_ (fun _ h => h) ?_ _ _ _ _ h
  · intro ev p1 p2 t h
    simpa using h
  · intro c t hr h
    exact h.joinSpot (spotRefusal_none hr).1
  · intro slot t h
    unfold Machine.spotTrigger
    split
    next ha _ => exact h.joinSpot (triggerAnswer_queued ha).1
    next =>
      obtain ⟨h1, h2, h3, h4, -⟩ := h
      exact ⟨h1, h2, h3, h4, satInc_le ..⟩
    next => exact h
  · intro l t h
    unfold cutLane
    split <;> exact h
  · intro t _ h
    simpa using h
  · intro t h
    simpa using h
  · intro slot t h
    simpa using h

/-- The head work of a fixed line state, whatever the line does. -/
theorem headOk_head (line : LineState) : HeadClosed (fun t => t.smu.HeadOk line) where
  raise ev p1 p2 t h := (Smu.headSome_true _ _).1 (((Smu.headSome_true _ _).2 h).raise ev p1 p2 t)
  reply r t h := by simpa using h
  smu t f hm h := (hm line).head h
  abandon c t _ h := by
    refine abandonSpot_keeps (P := fun t => t.smu.HeadSome false line) (Q := fun t => t.smu.HeadOk line)
      (fun _ _ _ _ h => h.raise ..) ?_ ?_ ?_ c t ⟨h.1, fun hh => ⟨by simp, (h.2.1 hh).2⟩, h.2.2⟩
    · intro t f hb h
      simpa [Smu.HeadSome, hb.standing, hb.contexts, hb.heldStops, hb.calRun, hb.faults, hb.drops] using h
    · intro t h
      exact ⟨h.1, by simp, h.2.2⟩
    · intro r t h
      simpa using h

/-- Outside RUN and FAULT the line state asks nothing of the head work (R124). -/
theorem Smu.HeadOk.of_line {line line' : LineState} {m : Smu} (hr : line' ≠ .run) (hf : line' ≠ .fault)
    (h : m.HeadOk line) : m.HeadOk line' := by
  obtain ⟨h1, h2, h3, h4⟩ := h
  exact ⟨h1, h2, fun c hc => ⟨(h3 c hc).1, hr, hf⟩, h4⟩

/-- With no calibration run left the head work is coherent in every line state (R124). -/
theorem endCalibrationEarly_headOk {line : LineState} (line' : LineState) {s : State} (h : s.smu.HeadOk line) :
    (endCalibrationEarly s).smu.HeadOk line' := by
  have hEnd : ∀ t : State, t.smu.calRun = none → t.smu.HeadOk line → t.smu.HeadOk line' := by
    intro t hn h
    obtain ⟨h1, h2, -, h4⟩ := h
    exact ⟨h1, h2, by simp [hn], h4⟩
  unfold endCalibrationEarly
  split
  next hn => exact hEnd s hn h
  next c hc =>
    have hs : (s.onSmu (fun m => { m with calRun := none })).smu.HeadOk line' :=
      hEnd _ rfl ⟨h.1, h.2.1, by simp, h.2.2.2⟩
    refine (headOk_head line').raise _ _ _ _ ?_
    split
    next b hb =>
      split
      next hu =>
        exact (headOk_head line').applyStaged _ _ ((headOk_head line').dropBus _ (Smu.spotInProgress_of_cal hb hu) hs)
      all_goals exact hs
    next => exact hs

theorem headWork_core : Core HeadWorkCoherent where
  notice ev p1 p2 t h := by simpa [HeadWorkCoherent] using h
  reply r t h := by simpa [HeadWorkCoherent] using h
  hold armed t hl h := by
    rw [headWorkCoherent_iff] at h ⊢
    simpa using h.of_line (line' := .hold) (by simp) (by simp)
  wtb t f hl _ h := by simpa [HeadWorkCoherent, hl] using h
  tku _ _ _ h := h
  rlu _ _ _ h := h
  epu _ _ _ h := h
  smu _ _ hm h := hm.head h
  rku _ _ _ h := h
  btu _ _ _ h := h
  lbp _ _ _ h := h
  evu _ _ _ h := h
  svl _ _ _ h := h
  pins _ _ h := h

/-- What an abandoned spot raises may hold the line, and changes its state in no other way. -/
theorem abandonSpot_line (c : SpotContext) (s : State) :
    (abandonSpot c s).wtb.line = s.wtb.line ∨ (abandonSpot c s).wtb.line = .hold := by
  refine abandonSpot_keeps (P := fun t => t.wtb.line = s.wtb.line ∨ t.wtb.line = .hold)
    (Q := fun t => t.wtb.line = s.wtb.line ∨ t.wtb.line = .hold) ?_ (fun _ _ _ h => h) (fun _ h => h) ?_ c s (.inl rfl)
  · intro ev p1 p2 t h
    obtain hr | ⟨-, hr⟩ := raise_line_cases ev p1 p2 t
    · rwa [hr]
    · exact .inr hr
  · intro r t h
    simpa using h

theorem headWork_work : Work HeadWorkCoherent where
  toCore := headWork_core
  abandon c t hc h := by
    have ha := (headOk_head t.wtb.line).abandon c t hc h
    obtain hl | hl := abandonSpot_line c t
    · rwa [headWorkCoherent_iff, hl]
    · rw [headWorkCoherent_iff, hl]
      exact ha.of_line (by simp) (by simp)
  append _ t _ h := headWork_core.displaceBatch t h

/-- A change of the line to a state other than RUN and FAULT asks no more of the head work. -/
theorem HeadWorkCoherent.of_line {s : State} (f : Wtb → Wtb) (hr : (f s.wtb).line ≠ .run) (hf : (f s.wtb).line ≠ .fault)
    (h : HeadWorkCoherent s) : HeadWorkCoherent (s.onWtb f) := Smu.HeadOk.of_line hr hf h

theorem enterRun_headWork (r : Reason) {line : LineState} {s : State} (h : s.smu.HeadOk line) :
    HeadWorkCoherent (enterRun r s) :=
  endCalibrationEarly_headOk (line := line) _ (by simpa using h)

theorem HeadWorkCoherent.enterThread {s : State} (h : HeadWorkCoherent s) : HeadWorkCoherent (enterThread s) :=
  headWork_core.noticeLineState _ _ (.of_line _ (by simp) (by simp) h)

theorem headWork_closed : Closed HeadWorkCoherent where
  toWork := headWork_work
  fault t _ h := by
    refine endCalibrationEarly_headOk _ ((headOk_head t.wtb.line).abandonSpotIf _ _
      ((headOk_head t.wtb.line).abandonScans _ ?_))
    simpa [embossAtStop, zeroTrims, scannerOff] using (headWorkCoherent_iff t).1 h
  run r t _ h := enterRun_headWork r h
  opened t _ h := headWork_work.openBlocks _ (by simp [Machine.enterThread]) h.enterThread
  started t _ h := by
    have hs := headWork_work.startTrack (fun _ _ h => h) t h
    unfold enterRunning
    split
    · exact enterRun_headWork _ hs
    · exact headWork_core.noticeLineState _ _ (.of_line _ (by simp) (by simp) hs)
  stopped t _ h := headWork_work.stopBlocks _ (headWork_core.embossAtStop _ (headWork_core.emptyTrack _ h.enterThread))
  ended t _ h := headWork_work.endBlocks (fun _ _ h => h) _ (headWork_core.zeroTrims _ (headWork_core.noticeLineState _ _
    (.of_line _ (by simp) (by simp) h)))
  recovered t _ h := headWork_work.recoverBlocks _ (headWork_core.emptyTrack _ h.enterThread)
  powerOn _ _ := smuReset_headOk _
  returned _ _ := by
    obtain ⟨h1, h2, h3, h4, h5⟩ := smuReset_headOk .idle
    exact ⟨h1, h2, h3, h4, h5⟩
  sent t h := by simpa [HeadWorkCoherent] using h
  lowered _ _ _ t _ h := by simpa [HeadWorkCoherent] using h
  cleared _ _ _ t h := by simpa [HeadWorkCoherent] using h

/-- Settles O60. -/
theorem heldWorkStaysCoherent : Obligations.HeldWorkStaysCoherent :=
  ⟨fun _ _ h ht => headWork_closed.step (fun _ _ _ _ _ h => h) (fun _ _ h => h) h ht,
    fun _ _ h ht => printer_plain.closed.step (fun _ _ _ _ _ h => h) (fun _ _ h => h) h ht⟩

end Sys2Proof.Machine
end

section
/-! The step, the state after power-on, and the output of the link. -/

namespace Sys2Proof.Machine

/-- Settles O1. -/
theorem stepRunsFrontCommand : Obligations.StepRunsFrontCommand :=
  ⟨fun _ _ _ h => by simp only [step, h], fun _ h => by simp only [step, h]⟩

/-! ### Power-on and RESET -/

/-- The end of the reply that answered RESET (R189). -/
theorem execFrameSent_resets {bytes : List Byte} {s : State} (h : s.svl.sending = some ⟨bytes, true⟩) :
    execFrameSent s = .next (resetReturn s) := by
  simp [execFrameSent, h]

/-- The end of any other frame: the sender takes what is next (R187). -/
theorem execFrameSent_plain {bytes : List Byte} {s : State} (h : s.svl.sending = some ⟨bytes, false⟩) :
    execFrameSent s = .next (pump (s.onSvl (fun v => { v with sending := none }))) := by
  simp [execFrameSent, h]

/-- Settles O2. -/
theorem powerOnAndReset : Obligations.PowerOnAndReset := by
  refine ⟨fun s => ⟨powerOnState s, rfl, ?_⟩, fun _ _ => rfl, fun bytes s h => ?_⟩
  · simp [powerOnState, State.reset, Wtb.reset, Tku.reset, Rlu.reset, Station.reset, Epu.reset, Smu.reset,
      Guard.reset, Factors.powerOn, LaneControl.reset, Rku.reset, Btu.reset, Lbp.reset, Evu.reset, Evu.defaultLevels,
      Svl.reset]
    intro l
    cases l <;> rfl
  · exact ⟨_, _, execFrameSent_resets h, rfl, rfl⟩

/-! ### The output sender -/

theorem pump_busy {s : State} {f : OutFrame} (h : s.svl.sending = some f) : pump s = s := by
  simp [pump, h]

theorem pump_reply {s : State} {r : Reply} {rs : List Reply} (h : s.svl.sending = none) (hr : s.svl.replies = r :: rs) :
    pump s = s.onSvl (fun v => { v with sending := some r.frame, replies := rs, replied := true }) := by
  simp [pump, h, hr]

theorem pump_notice {s : State} {n : Notice} {ns : List Notice} (h : s.svl.sending = none) (hr : s.svl.replies = [])
    (hn : s.evu.notices = n :: ns) (hs : s.svl.replied = true) (hf : s.evu.floor < n.level) :
    pump s = (s.onSvl (fun v => { v with sending := some (n.frame s.evu.dropped) })).onEvu
      (fun e => { e with notices := ns, dropped := 0 }) := by
  simp [pump, h, hr, hn, hs, hf]

/-- A reply that comes to an idle link is sent at once. -/
theorem pushReply_idle {r : Reply} {s : State} (h : s.svl.sending = none) (hr : s.svl.replies = []) :
    pushReply r s = s.onSvl (fun v => { v with sending := some r.frame, replies := [], replied := true }) :=
  pump_reply h (show s.svl.replies ++ [r] = [r] by rw [hr]; rfl)

/-- A reply goes before every notice, so the notices stand (R187). -/
@[simp] theorem pushReply_evu (r : Reply) (s : State) : (pushReply r s).evu = s.evu := by
  rcases pump_cases (s.onSvl (fun v => { v with replies := v.replies ++ [r] })) with h | ⟨-, _, _, -, h⟩ | ⟨-, hr, -⟩
  · simpa [pushReply] using congrArg State.evu h
  · simpa [pushReply] using congrArg State.evu h
  · simp at hr

@[simp] theorem answer_evu (tag type : Byte) (st : Status) (fs : List Byte) (s : State) :
    (answer tag type st fs s).evu = s.evu := pushReply_evu _ s

theorem pump_idle {s : State} (hr : s.svl.replies = [])
    (hn : ∀ n, s.evu.notices.head? = some n → s.svl.replied = true → n.level ≤ s.evu.floor) : pump s = s := by
  unfold pump
  split
  · rfl
  next hr' => simp [hr] at hr'
  next n ns _ _ hn' =>
    rw [if_neg]
    rintro ⟨hs, hf⟩
    have := hn n (by simp [hn']) hs
    omega
  · rfl

/-- Settles O3. -/
theorem outputSenderOrder : Obligations.OutputSenderOrder := by
  refine ⟨fun tag type st fields s => ⟨fun f hf => pump_busy hf, fun hs hr => ?_⟩, ⟨fun _ s h => ⟨?_, ?_, ?_⟩, ?_⟩,
    fun r s => ⟨fun f hf => ⟨pump_busy hf, pump_busy hf⟩, fun hs => ⟨?_, ?_, ?_, ?_⟩⟩⟩
  · exact (pushReply_idle hs hr).trans (by rw [← hr]; rfl)
  · intro r rs hr
    refine (execFrameSent_plain h).trans (congrArg _ (pump_reply rfl hr))
  · intro n ns hr hn hs hf
    exact (execFrameSent_plain h).trans (congrArg _ (pump_notice rfl hr hn hs hf))
  · intro hr hn
    exact (execFrameSent_plain h).trans (congrArg _ (pump_idle hr hn))
  · intro ev p1 p2 s _ hr hs' hl
    unfold notice
    exact (if_neg hl).trans (pump_idle hr (by simp [hs']))
  · intro q qs hq
    exact ⟨pump_reply hs hq, pump_reply hs (show s.svl.replies ++ [r] = q :: (qs ++ [r]) by rw [hq]; rfl)⟩
  · intro hr
    exact (pushReply_idle hs hr).trans (by rw [← hr]; rfl)
  · intro n ns hr hn hs' hf
    exact pump_notice hs hr hn hs' hf
  · exact fun hr hn => pump_idle hr hn

end Sys2Proof.Machine
end

section
/-! The event unit: the notice queue, an occurrence and its route, and the requests of chapter 10. -/

namespace Sys2Proof.Machine

/-! ### The notice queue -/

/-- In an ordered queue a notice goes behind every notice of its level or higher (R180). -/
theorem insertNotice_eq {n : Notice} {q : List Notice} (h : q.Pairwise (fun a b => b.level ≤ a.level)) :
    insertNotice n q = q.filter (fun m => n.level ≤ m.level) ++ n :: q.filter (fun m => m.level < n.level) := by
  induction q with
  | nil => rfl
  | cons m q ih =>
    obtain ⟨hm, hq⟩ := List.pairwise_cons.1 h
    unfold insertNotice
    split
    next hl =>
      have hn : ¬ m.level < n.level := by omega
      simp [hl, hn, ih hq]
    next hl =>
      have hall : ∀ x ∈ q, x.level < n.level := fun x hx => by
        have := hm x hx
        omega
      have hnone : q.filter (fun x => n.level ≤ x.level) = [] :=
        List.filter_eq_nil_iff.2 fun x hx => by simpa using hall x hx
      have hq' : q.filter (fun x => x.level < n.level) = q :=
        List.filter_eq_self.2 fun x hx => by simpa using hall x hx
      have hlt : m.level < n.level := by omega
      simp [hlt, hl, hnone, hq']

theorem lowestLevel_eq {q : List Notice} {last : Notice} (h : q.getLast? = some last) : lowestLevel q = last.level := by
  simp [lowestLevel, h]

theorem satInc_eq (limit n : Nat) : satInc limit n = min limit (n + 1) := by
  unfold satInc
  split <;> omega

/-- A full queue and a notice at or below its lowest level (R180). -/
theorem Evu.enter_dropped {e : Evu} {n last : Notice} (hf : 32 ≤ e.notices.length)
    (hl : e.notices.getLast? = some last) (hle : n.level ≤ last.level) :
    e.enter n = { e with dropped := min 255 (e.dropped + 1) } := by
  unfold Evu.enter
  rw [if_neg (by simpa [Config.noticeCapacity] using hf), lowestLevel_eq hl, if_pos hle, satInc_eq]

/-- A full queue and a notice above its lowest level (R180). -/
theorem Evu.enter_displaced {e : Evu} {n last : Notice} (hf : 32 ≤ e.notices.length)
    (hl : e.notices.getLast? = some last) (hlt : last.level < n.level) :
    e.enter n = { e with notices := insertNotice n e.notices.dropLast, dropped := min 255 (e.dropped + 1) } := by
  unfold Evu.enter
  rw [if_neg (by simpa [Config.noticeCapacity] using hf), lowestLevel_eq hl, if_neg (by omega), satInc_eq]

theorem Evu.enter_room {e : Evu} {n : Notice} (hr : e.notices.length < 32) :
    e.enter n = { e with notices := insertNotice n e.notices } := if_pos hr

/-- The notices after one has entered: those before, or it among them, or it among all but the last. -/
theorem Evu.enter_notices (e : Evu) (n : Notice) : (e.enter n).notices = e.notices ∨
    (e.enter n).notices = insertNotice n e.notices ∨ (e.enter n).notices = insertNotice n e.notices.dropLast := by
  unfold Evu.enter
  split
  · exact .inr (.inl rfl)
  · split
    · exact .inl rfl
    · exact .inr (.inr rfl)

theorem Evu.enter_pairwise {e : Evu} (n : Notice) (h : e.notices.Pairwise (fun a b => b.level ≤ a.level)) :
    (e.enter n).notices.Pairwise (fun a b => b.level ≤ a.level) := by
  obtain hn | hn | hn := e.enter_notices n
  · rwa [hn]
  · exact hn ▸ insertNotice_pairwise h
  · exact hn ▸ insertNotice_pairwise (h.sublist (List.dropLast_sublist _))

theorem Evu.mem_enter {e : Evu} {n m : Notice} (h : m ∈ (e.enter n).notices) : m = n ∨ m ∈ e.notices := by
  obtain hn | hn | hn := e.enter_notices n <;> rw [hn] at h
  · exact .inr h
  · exact mem_insertNotice.1 h
  · exact (mem_insertNotice.1 h).imp_right List.mem_of_mem_dropLast

/-- The notice path of a code with a level (R174). -/
theorem notice_enters {ev : Event} {p1 p2 : Nat} {s : State} (h : s.evu.levels[ev.index] ≠ 0) :
    notice ev p1 p2 s = pump { s with evu := s.evu.enter ⟨ev, s.evu.levels[ev.index], s.wtb.wp, p1, p2⟩ } := if_neg h

/-- Settles O8. -/
theorem noticeTakesItsPlace : Obligations.NoticeTakesItsPlace := by
  refine ⟨fun _ _ _ _ => notice_enters, fun e n h => ⟨fun hr => ?_, fun _ => Evu.enter_dropped, fun last hf hl hlt => ?_,
    e.enter_pairwise n h, Evu.enter_length n, fun hn he m hm => ?_⟩, ?_⟩
  · rw [Evu.enter_room hr, insertNotice_eq h]
  · rw [Evu.enter_displaced hf hl hlt, insertNotice_eq (h.sublist (List.dropLast_sublist _))]
  · obtain rfl | hm := Evu.mem_enter hm
    · exact hn
    · exact he m hm
  · rintro s i (rfl | ⟨rfl, bytes, hb⟩)
    · exact ⟨_, rfl, rfl, rfl⟩
    · exact ⟨_, execFrameSent_resets hb, rfl, rfl⟩

/-! ### The requests for notices -/

theorem Event.ofCode_code (ev : Event) : Event.ofCode ev.code = some ev := by cases ev <;> rfl

theorem Event.code_of_ofCode {n : Nat} {ev : Event} (h : Event.ofCode n = some ev) : ev.code = n := by
  simpa using List.find?_some h

theorem Event.ofCode_eq_none {n : Nat} (h : n = 0 ∨ 31 < n) : Event.ofCode n = none := by
  refine List.find?_eq_none.2 fun ev _ => ?_
  have := ev.index.isLt
  simp only [Event.code, beq_iff_eq]
  omega

theorem within_iff {lo hi n : Nat} : within lo hi n = true ↔ lo ≤ n ∧ n ≤ hi := by simp [within]

theorem within_eq_false {lo hi n : Nat} (h : n < lo ∨ hi < n) : within lo hi n = false := by
  simp only [within, Bool.and_eq_false_iff, decide_eq_false_iff_not]
  omega

theorem Event.code_bounds (ev : Event) : 1 ≤ ev.code ∧ ev.code ≤ 31 := by
  have := ev.index.isLt
  unfold Event.code
  omega

theorem Event.code_inj {a b : Event} : a.code = b.code ↔ a = b := by
  refine ⟨fun h => Option.some.inj ?_, congrArg _⟩
  rw [← a.ofCode_code, ← b.ofCode_code, h]

theorem Notice.named_code (n : Notice) (ev : Event) : n.named ev.code = (n.event == ev) := by
  have := ev.code_bounds
  rw [Bool.eq_iff_iff]
  simp [Notice.named, Event.code_inj, show ev.code ≠ 0 by omega]

/-- NOTICE CLEAR of a code in range (R182). -/
theorem execNoticeClear_within (tag : Byte) {code : Nat} (s : State) (h : code ≤ 31) :
    execNoticeClear tag code s = .next (answer tag 0x52#8 .ok
      (le1 (s.evu.notices.filter (fun n => n.named code)).length)
      { s with evu := { s.evu with notices := s.evu.notices.filter (fun n => !n.named code) } }) := by
  unfold execNoticeClear
  rw [within_iff.2 ⟨Nat.zero_le _, h⟩]
  rfl

/-- Settles O12. -/
theorem noticeRequestsAreTaken : Obligations.NoticeRequestsAreTaken := by
  refine ⟨⟨fun tag code s h => ?_, fun tag s => ?_, fun tag ev s => ?_⟩, fun tag ev level s h => ?_,
    fun tag code level s h => ?_, fun tag floor s h => ?_, fun tag floor s h => ?_⟩
  · show execNoticeClear tag code s = _
    simp [execNoticeClear, within_eq_false (.inr h)]
  · refine ⟨_, execNoticeClear_within tag s (Nat.zero_le _), ?_⟩
    simp [Notice.named]
  · have hc : s.evu.notices.countP (fun n => n.event == ev) =
        (s.evu.notices.filter (fun n => n.named ev.code)).length := by
      simp only [Notice.named_code, List.countP_eq_length_filter]
    have hk : (s.evu.notices.filter (fun n => !n.named ev.code)).length +
        s.evu.notices.countP (fun n => n.event == ev) = s.evu.notices.length := by
      rw [hc, Nat.add_comm]
      exact List.length_eq_length_filter_add _ |>.symm
    refine ⟨_, _, execNoticeClear_within tag s ev.code_bounds.2, List.filter_sublist, fun n hn => ?_, hk, ?_, by simp⟩
    · simp [hn, Notice.named_code]
    · rw [hc]
  · show execEventLevel tag ev.code level s = _
    simp only [execEventLevel, Event.ofCode_code, within_iff.2 ⟨Nat.zero_le _, h⟩]
    rfl
  · show execEventLevel tag code level s = _
    unfold execEventLevel
    split
    · rfl
    next ev he =>
      have hc := Event.code_of_ofCode he
      have := ev.code_bounds
      rw [within_eq_false (.inr (by omega : 7 < level))]
      rfl
  · show execNoticeFloor tag floor s = _
    simp only [execNoticeFloor, within_iff.2 ⟨Nat.zero_le _, h⟩]
    rfl
  · show execNoticeFloor tag floor s = _
    simp [execNoticeFloor, within_eq_false (.inr h)]

/-! ### An occurrence and its route -/

/-- No slot is bound to the code. -/
theorem Evu.routeFor_eq_none {e : Evu} {ev : Event}
    (h : ∀ (i : Fin 4) (r : Route), e.routes[i] = some r → r.event ≠ ev) : e.routeFor ev = none := by
  refine List.findSome?_eq_none_iff.2 fun i _ => ?_
  split
  next r hr => rw [if_neg (h i r hr)]
  next => rfl

/-- The lowest slot bound to the code (R177). -/
theorem Evu.routeFor_eq_some {e : Evu} {ev : Event} {i : Fin 4} {r : Route} (hr : e.routes[i] = some r)
    (he : r.event = ev) (hlow : ∀ (j : Fin 4) (q : Route), j < i → e.routes[j] = some q → q.event ≠ ev) :
    e.routeFor ev = some (i, r) := by
  refine List.findSome?_eq_some_iff.2 ⟨(List.finRange 4).take i.val, i, (List.finRange 4).drop (i.val + 1), ?_, ?_, ?_⟩
  · have hi : i.val < (List.finRange 4).length := by simp
    have hc := List.drop_eq_getElem_cons hi
    rw [show (List.finRange 4)[i.val] = i by simp] at hc
    rw [← hc, List.take_append_drop]
  · simp [hr, he]
  · intro j hj
    obtain ⟨k, hk, rfl⟩ := List.mem_take_iff_getElem.1 hj
    have hji : (List.finRange 4)[k]'(by omega) < i := by
      rw [List.getElem_finRange, Fin.lt_def]
      simpa using (by omega : k < i.val)
    split
    next q hq => rw [if_neg (hlow _ q hji hq)]
    next => rfl

theorem foldl_cutLane_evu (ls : List Lane) (s : State) : (ls.foldl (fun t l => cutLane l t) s).evu = s.evu := by
  induction ls generalizing s with
  | nil => rfl
  | cons l ls ih => exact (ih _).trans (cutLane_evu l s)

/-- An action changes nothing of the event unit (R178). -/
theorem runAction_evu (slot : Fin 4) (a : RouteAction) (lanes : List Lane) (s : State) :
    (runAction slot a lanes s).state.evu = s.evu := by
  cases a with
  | spot t =>
    cases t with
    | none => exact spotTrigger_evu _ s
    | some t =>
      simp only [runAction]
      split
      · exact joinSpot_evu _ s
      · rfl
  | cut t =>
    cases t with
    | lane l => exact cutLane_evu l s
    | event => exact foldl_cutLane_evu lanes s
  | holdLine =>
    simp only [runAction]
    split
    · exact enterHold_evu _ s
    all_goals rfl
  | releaseEmboss =>
    simp only [runAction]
    split
    · exact releaseEmboss_evu s
    · exact releaseEmboss_evu s
    all_goals rfl
  | newBatch => rfl

/-- The count of a done action, with ROUTE-END where the slot unbinds (R177). -/
theorem countRoute_bound {slot : Fin 4} {s : State} {r : Route} (h : s.evu.routes[slot] = some r) :
    countRoute slot s =
      if r.remaining ≤ 1 then
        notice .routeEnd slot.val r.event.code { s with evu := { s.evu with routes := s.evu.routes.set slot none } }
      else { s with evu := { s.evu with
        routes := s.evu.routes.set slot (some ⟨r.event, r.action, r.remaining - 1⟩) } } := by
  unfold countRoute
  rw [h]
  rfl

theorem raise_bound {ev : Event} {p1 p2 : Nat} {s : State} {i : Fin 4} {r : Route}
    (h : s.evu.routeFor ev = some (i, r)) : raise ev p1 p2 s =
      if (runAction i r.action (ev.lanesFor p1) s).done then
        finishAction i (runAction i r.action (ev.lanesFor p1) s).held (runAction i r.action (ev.lanesFor p1) s).state
      else notice ev p1 p2 (runAction i r.action (ev.lanesFor p1) s).state := by
  simp only [raise, h]

theorem finishAction_eq (slot : Fin 4) (held : Bool) (s : State) :
    finishAction slot held s = if held = true then noticeLineState .route (countRoute slot s) else countRoute slot s := rfl

/-- Settles O9. -/
theorem routedOccurrence : Obligations.RoutedOccurrence := by
  refine ⟨fun ev p1 p2 s => ⟨fun h => raise_unrouted _ _ _ _ (Evu.routeFor_eq_none h), fun h => if_pos h, notice_enters,
    ?_⟩, fun ev p1 => ?_⟩
  · rintro i r a hr rfl hlow rfl
    have hb := raise_bound (p1 := p1) (p2 := p2) (Evu.routeFor_eq_some hr rfl hlow)
    have hs : (runAction i r.action (r.event.lanesFor p1) s).state.evu.routes[i] = some r := by rwa [runAction_evu]
    refine ⟨fun hd => by rw [hb, hd]; rfl, fun hd => ?_⟩
    rw [hb, if_pos hd, finishAction_eq, countRoute_bound hs, runAction_evu]
    exact ⟨fun hh => by rw [hh]; rfl, fun hh => by rw [hh]; rfl⟩
  · refine ⟨fun h => ?_, fun h => ?_, fun h1 h2 => ?_⟩
    · cases ev <;> simp at h <;> exact ⟨fun h => by subst h; rfl, fun h => by subst h; rfl⟩
    · cases ev <;> simp at h <;>
        exact ⟨fun h => by simp [Event.lanesFor, Event.laneFor, laneOfSlot, show p1 < 3 by omega],
          fun h _ => by simp [Event.lanesFor, Event.laneFor, laneOfSlot, show ¬ p1 < 3 by omega]⟩
    · cases ev <;> simp at h1 h2 <;> rfl

/-! ### The requests for routes -/

theorem routeIndex_val (i : Fin 4) : routeIndex i.val = some i := by simp [routeIndex]

theorem routeIndex_eq_none {n : Nat} (h : 4 ≤ n) : routeIndex n = none := by
  simp [routeIndex, show ¬ n < 4 by omega]

theorem Event.unroutable_eq_false {ev : Event} (h1 : ev ≠ .lineState) (h2 : ev ≠ .stopCause) (h3 : ev ≠ .routeEnd) :
    ev.unroutable = false := by
  cases ev <;> simp_all [Event.unroutable]

theorem Event.unroutable_of_code {ev : Event} (h : ev.code = 1 ∨ ev.code = 2 ∨ 31 ≤ ev.code) : ev.unroutable = true := by
  cases ev <;> simp_all [Event.unroutable, Event.code, Event.index]

/-- What is left of the count after a done action (R177). -/
theorem finishAction_remaining {slot : Fin 4} (held : Bool) {s : State} {r : Route} (h : s.evu.routes[slot] = some r) :
    (finishAction slot held s).evu.remaining slot = r.remaining - 1 := by
  have hc : (countRoute slot s).evu.remaining slot = r.remaining - 1 := by
    rw [countRoute_bound h]
    split
    next hr => simp [Evu.remaining, show r.remaining - 1 = 0 by omega]
    next => simp [Evu.remaining]
  rw [← hc, finishAction_eq]
  split
  · simp [Evu.remaining]
  · rfl

/-- Settles O11. -/
theorem routeRequestsAreTaken : Obligations.RouteRequestsAreTaken := by
  refine ⟨fun tag i ev a n s => ⟨fun h1 h2 h3 ha hn hn' => ?_, fun k code m act h => ?_, ?_, fun k hk => ?_⟩,
    fun tag s => ⟨?_, fun i hi => ?_, fun n hn => ?_⟩⟩
  · show execRouteBind tag i.val ev.code (some a) n s = _
    simp only [execRouteBind, routeIndex_val, Event.ofCode_code, Event.unroutable_eq_false h1 h2 h3, ha,
      within_iff.2 ⟨hn, hn'⟩]
    rfl
  · show execRouteBind tag k code act m s = _
    unfold execRouteBind
    split
    next i ev a hi he =>
      have hk : k < 4 := by
        by_contra hk
        simp [routeIndex_eq_none (by omega : 4 ≤ k)] at hi
      have hc := Event.code_of_ofCode he
      have hb := ev.code_bounds
      rw [if_pos]
      simp only [Bool.or_eq_true, Bool.not_eq_true']
      rcases h with h | h | h | h | h | h | ⟨b, hb, hr⟩ | h | h
      · omega
      · omega
      · exact .inl (.inl (Event.unroutable_of_code (by omega)))
      · exact .inl (.inl (Event.unroutable_of_code (by omega)))
      · exact .inl (.inl (Event.unroutable_of_code (by omega)))
      · simp at h
      · exact .inl (.inr (Option.some.inj hb ▸ hr))
      · exact .inr (within_eq_false (.inl (by omega)))
      · exact .inr (within_eq_false (.inr h))
    next => rfl
  · show execRouteUnbind tag i.val s = _
    simp only [execRouteUnbind, routeIndex_val]
    rfl
  · show execRouteUnbind tag k s = _
    simp only [execRouteUnbind, routeIndex_eq_none hk]
  · rintro i r a hr rfl
    have hs : (runAction i r.action [.a, .b] s).state.evu.routes[i] = some r := by rwa [runAction_evu]
    refine ⟨fun hd => ?_, fun hd => ?_⟩
    · show execRouteFire tag i.val s = _
      simp [execRouteFire, routeIndex_val, hr, hd, Evu.remaining, hs, coded2, le1]
    · show execRouteFire tag i.val s = _
      simp only [execRouteFire, routeIndex_val, hr, hd, if_true, finishAction_remaining _ hs]
      rw [finishAction_eq, countRoute_bound hs, runAction_evu]
      rfl
  · show execRouteFire tag i.val s = _
    simp only [execRouteFire, routeIndex_val, hi]
  · show execRouteFire tag n s = _
    simp only [execRouteFire, routeIndex_eq_none hn]

end Sys2Proof.Machine
end

section
/-! The route actions at their owners (R178). -/

namespace Sys2Proof.Machine

/-! ### The emboss unit's exits from step -/

theorem enterReleasing_closed {s : State} (h : s.nipClosed = true) : enterReleasing s = { s with epu := { s.epu with
    state := .releasing, npc := false, closeTimer := none, releaseWatch := some s.epu.params.nipTimeout } } := if_pos h

/-- Where NPF shows open and the unit is not to engage again it enters OPEN (R84, R87). -/
theorem enterReleasing_open {s : State} (h : s.nipClosed = false) (hr : s.wtb.line ≠ .run ∨ s.epu.reengage = false) :
    enterReleasing s = { s with epu := { s.epu with
      state := .opened, npc := false, closeTimer := none, releaseWatch := none } } := by
  unfold enterReleasing
  rw [h]
  refine (if_neg (by simp)).trans (if_neg ?_)
  rintro ⟨-, -, hl, he⟩
  obtain hr | hr := hr
  · exact hr hl
  · exact absurd (he.symm.trans hr) (by simp)

theorem leaveStep_stands {s : State} (h : s.epu.state = .none ∨ s.epu.state = .opened ∨ s.epu.state = .releasing) :
    leaveStep s = s := by
  unfold leaveStep
  rcases h with h | h | h <;> rw [h]

theorem leaveStep_syncing {s : State} (h : s.epu.state = .syncing) :
    leaveStep s = { s with epu := { s.epu with state := .opened } } := by
  unfold leaveStep
  rw [h]
  rfl

theorem leaveStep_engaged {s : State} (h : s.epu.state = .engaged) : leaveStep s = enterReleasing s := by
  unfold leaveStep
  rw [h]

/-- The re-engage flag at RUN to HOLD (R87). -/
theorem embossAtHold_stands {s : State}
    (h : s.epu.state = .none ∨ s.epu.state = .opened ∨ s.epu.state = .releasing) : embossAtHold s = s := by
  have hf : (s.epu.state == .syncing || s.epu.state == .engaged) = false := by
    rcases h with h | h | h <;> rw [h] <;> rfl
  unfold embossAtHold
  simp only [hf, Bool.false_and, Bool.or_false]
  exact leaveStep_stands h

theorem embossAtHold_inStep {s : State} (h : s.epu.state = .syncing ∨ s.epu.state = .engaged) :
    embossAtHold s = leaveStep { s with epu := { s.epu with reengage := s.epu.reengage || s.epu.params.autoReengage } } := by
  have hf : (s.epu.state == .syncing || s.epu.state == .engaged) = true := by
    rcases h with h | h <;> rw [h] <;> rfl
  unfold embossAtHold
  simp only [hf, Bool.true_and]
  rfl

theorem enterHold_stands {s : State} (armed : Bool)
    (h : s.epu.state = .none ∨ s.epu.state = .opened ∨ s.epu.state = .releasing) :
    enterHold armed s = { s with wtb := { s.wtb with line := .hold, resumeArmed := armed } } :=
  embossAtHold_stands (s := s.onWtb (fun w => { w with line := .hold, resumeArmed := armed })) h

theorem enterHold_syncing {s : State} (armed : Bool) (h : s.epu.state = .syncing) :
    enterHold armed s = { s with
      wtb := { s.wtb with line := .hold, resumeArmed := armed }
      epu := { s.epu with state := .opened, reengage := s.epu.reengage || s.epu.params.autoReengage } } :=
  (embossAtHold_inStep (s := s.onWtb (fun w => { w with line := .hold, resumeArmed := armed })) (.inl h)).trans
    (leaveStep_syncing h)

theorem enterHold_engaged_closed {s : State} (armed : Bool) (h : s.epu.state = .engaged) (hn : s.nipClosed = true) :
    enterHold armed s = { s with
      wtb := { s.wtb with line := .hold, resumeArmed := armed }
      epu := { s.epu with
        state := .releasing, npc := false, closeTimer := none
        reengage := s.epu.reengage || s.epu.params.autoReengage, releaseWatch := some s.epu.params.nipTimeout } } :=
  (embossAtHold_inStep (s := s.onWtb (fun w => { w with line := .hold, resumeArmed := armed })) (.inr h)).trans
    (Eq.trans (leaveStep_engaged h) (enterReleasing_closed hn))

theorem enterHold_engaged_open {s : State} (armed : Bool) (h : s.epu.state = .engaged) (hn : s.nipClosed = false) :
    enterHold armed s = { s with
      wtb := { s.wtb with line := .hold, resumeArmed := armed }
      epu := { s.epu with
        state := .opened, npc := false, closeTimer := none
        reengage := s.epu.reengage || s.epu.params.autoReengage, releaseWatch := none } } :=
  (embossAtHold_inStep (s := s.onWtb (fun w => { w with line := .hold, resumeArmed := armed })) (.inr h)).trans
    (Eq.trans (leaveStep_engaged h) (enterReleasing_open hn (.inl (by simp))))

theorem releaseEmboss_syncing {s : State} (h : s.epu.state = .syncing) : releaseEmboss s =
    { s with epu := { s.epu with state := .opened, engageCount := 0, reengage := false } } := by
  simp only [releaseEmboss, State.onEpu, h]

theorem releaseEmboss_engaged {s : State} (h : s.epu.state = .engaged) :
    releaseEmboss s = enterReleasing { s with epu := { s.epu with reengage := false } } := by
  simp only [releaseEmboss, State.onEpu, h]

/-! ### CUT of lanes -/

/-- The lane takes a CUT (R137). -/
def State.cuttable (s : State) (l : Lane) : Prop :=
  s.running = true ∧ ((s.lane l).state = .winding ∨ (s.lane l).state = .armed)

/-- A lane after a CUT (R137). -/
def LaneControl.cutMarked (k : LaneControl) : LaneControl :=
  { k with
    force := k.force || decide (k.state = .winding)
    roll := k.roll.map (fun r => { r with flags := { r.flags with forced := true } }) }

theorem LaneControl.cutMarked_idem (k : LaneControl) : k.cutMarked.cutMarked = k.cutMarked := by
  have hf : k.cutMarked.cutMarked.force = k.cutMarked.force := by
    show (k.cutMarked.force || decide (k.state = .winding)) = k.cutMarked.force
    unfold LaneControl.cutMarked
    rw [Bool.or_assoc, Bool.or_self]
  have hr : k.cutMarked.cutMarked.roll = k.cutMarked.roll := by
    simp [LaneControl.cutMarked, Function.comp_def]
  rw [show k.cutMarked.cutMarked = { k.cutMarked with
    force := k.cutMarked.cutMarked.force, roll := k.cutMarked.cutMarked.roll } from rfl, hf, hr]

theorem cutAnswer_taken {l : Lane} {s : State} : cutAnswer l s = .taken ↔ s.cuttable l := by
  unfold cutAnswer State.cuttable
  split
  next h => simp_all
  next h => cases hs : (s.lane l).state <;> simp_all

theorem cutLane_of_cuttable {l : Lane} {s : State} (h : s.cuttable l) :
    cutLane l s = s.onLane l LaneControl.cutMarked := by
  unfold cutLane
  rw [cutAnswer_taken.2 h]
  rfl

theorem cutLane_of_not {l : Lane} {s : State} (h : ¬ s.cuttable l) : cutLane l s = s := by
  unfold cutLane
  split
  next ha => exact absurd (cutAnswer_taken.1 ha) h
  all_goals rfl

theorem State.lane_onLane_same (s : State) (l : Lane) (f : LaneControl → LaneControl) :
    (s.onLane l f).lane l = f (s.lane l) := by cases l <;> rfl

theorem State.lane_onLane_ne (s : State) {l m : Lane} (f : LaneControl → LaneControl) (h : m ≠ l) :
    (s.onLane l f).lane m = s.lane m := by cases l <;> cases m <;> first | rfl | exact absurd rfl h

theorem State.onLane_running (s : State) (l : Lane) (f : LaneControl → LaneControl) :
    (s.onLane l f).running = s.running := rfl

/-- A CUT leaves every lane as cuttable as it was. -/
theorem cutLane_cuttable (l m : Lane) (s : State) : (cutLane l s).cuttable m ↔ s.cuttable m := by
  by_cases h : s.cuttable l
  · rw [cutLane_of_cuttable h]
    by_cases hm : m = l
    · subst hm
      simp only [State.cuttable, State.onLane_running, State.lane_onLane_same, LaneControl.cutMarked]
    · simp only [State.cuttable, State.onLane_running, State.lane_onLane_ne s _ hm]
  · rw [cutLane_of_not h]

theorem foldl_cutLane_cuttable (ls : List Lane) (m : Lane) (s : State) :
    (ls.foldl (fun t l => cutLane l t) s).cuttable m ↔ s.cuttable m := by
  induction ls generalizing s with
  | nil => rfl
  | cons l ls ih => exact (ih _).trans (cutLane_cuttable l m s)

/-- A lane that is not named, or takes no CUT, stands. -/
theorem foldl_cutLane_stands {ls : List Lane} {m : Lane} {s : State} (h : m ∉ ls ∨ ¬ s.cuttable m) :
    (ls.foldl (fun t l => cutLane l t) s).lane m = s.lane m := by
  induction ls generalizing s with
  | nil => rfl
  | cons l ls ih =>
    have hs : (cutLane l s).lane m = s.lane m := by
      by_cases hl : s.cuttable l
      · rw [cutLane_of_cuttable hl]
        refine State.lane_onLane_ne s _ fun hm => ?_
        subst hm
        simp [hl] at h
      · rw [cutLane_of_not hl]
    refine (ih ?_).trans hs
    rw [cutLane_cuttable]
    exact h.imp_left fun h hm => h (List.mem_cons_of_mem _ hm)

/-- A lane that is named, once or more often, and takes a CUT is marked. -/
theorem foldl_cutLane_marks {ls : List Lane} {m : Lane} {s : State} (h : m ∈ ls) (hc : s.cuttable m) :
    (ls.foldl (fun t l => cutLane l t) s).lane m = (s.lane m).cutMarked := by
  induction ls generalizing s with
  | nil => simp at h
  | cons l ls ih =>
    have hc' : (cutLane l s).cuttable m := (cutLane_cuttable l m s).2 hc
    by_cases hl : m = l
    · subst hl
      have hs : (cutLane m s).lane m = (s.lane m).cutMarked := by
        rw [cutLane_of_cuttable hc, State.lane_onLane_same]
      by_cases hm : m ∈ ls
      · exact (ih hm hc').trans (by rw [hs, LaneControl.cutMarked_idem])
      · exact (foldl_cutLane_stands (.inl hm)).trans hs
    · have hs : (cutLane l s).lane m = s.lane m := by
        by_cases hcl : s.cuttable l
        · rw [cutLane_of_cuttable hcl, State.lane_onLane_ne s _ hl]
        · rw [cutLane_of_not hcl]
      exact (ih ((List.mem_cons.1 h).resolve_left hl) hc').trans (by rw [hs])

/-- A CUT changes the lanes alone. -/
theorem cutLane_lanes (l : Lane) (s : State) :
    ∃ a b, cutLane l s = { s with rku := { s.rku with laneA := a, laneB := b } } := by
  by_cases h : s.cuttable l
  · rw [cutLane_of_cuttable h]
    cases l <;> exact ⟨_, _, rfl⟩
  · exact ⟨_, _, cutLane_of_not h⟩

theorem foldl_cutLane_lanes (ls : List Lane) (s : State) :
    ∃ a b, ls.foldl (fun t l => cutLane l t) s = { s with rku := { s.rku with laneA := a, laneB := b } } := by
  induction ls generalizing s with
  | nil => exact ⟨_, _, rfl⟩
  | cons l ls ih =>
    obtain ⟨a, b, h⟩ := cutLane_lanes l s
    rw [List.foldl_cons, h]
    exact ih _

theorem foldl_cutLane_eq (ls : List Lane) (s : State) : ls.foldl (fun t l => cutLane l t) s = { s with rku := { s.rku with
    laneA := (ls.foldl (fun t l => cutLane l t) s).lane .a
    laneB := (ls.foldl (fun t l => cutLane l t) s).lane .b } } := by
  obtain ⟨a, b, h⟩ := foldl_cutLane_lanes ls s
  rw [h]
  rfl

/-! ### Spots -/

theorem spotRefusal_eq_none {s : State} : spotRefusal s = none ↔
    s.wtb.line ≠ .idle ∧ s.wtb.line ≠ .fault ∧ s.smu.heldStops = [] ∧ s.smu.contexts.length < 4 := by
  unfold spotRefusal
  grind [Config.spotCapacity]

theorem triggerAnswer_eq_queued {s : State} : triggerAnswer s = .queued ↔
    s.wtb.line ≠ .idle ∧ s.wtb.line ≠ .fault ∧ s.smu.heldStops = [] ∧ s.smu.contexts.length < 4 ∧
      s.smu.newest.isSome = true := by
  unfold triggerAnswer
  grind [Config.spotCapacity]

theorem triggerAnswer_refused {s : State}
    (h : s.wtb.line = .idle ∨ s.wtb.line = .fault ∨ s.smu.heldStops ≠ [] ∨ 4 ≤ s.smu.contexts.length) :
    triggerAnswer s ≠ .queued ∧ (triggerAnswer s = .dropped → s.smu.newest = none ∧ 4 ≤ s.smu.contexts.length) := by
  unfold triggerAnswer
  grind [Config.spotCapacity]

theorem Smu.newest_of_nil {m : Smu} (h : m.contexts = []) : m.newest = m.standing := by simp [Smu.newest, h]

theorem Smu.newest_eq_some {m : Smu} {c : SpotContext}
    (h : m.contexts.getLast? = some c ∨ (m.contexts = [] ∧ m.standing = some c)) : m.newest = some c := by
  rcases h with h | ⟨h, hs⟩
  · simp [Smu.newest, h]
  · rw [Smu.newest_of_nil h, hs]

theorem Smu.newest_isSome {m : Smu} : m.newest.isSome = true ↔ m.contexts ≠ [] ∨ m.standing.isSome = true := by
  unfold Smu.newest
  cases h : m.contexts.getLast? with
  | none => simp [List.getLast?_eq_none_iff.1 h]
  | some c => simp [show m.contexts ≠ [] from fun hn => by simp [hn] at h]

theorem spotTrigger_queued {src : SpotSource} {s : State} {c : SpotContext} (ha : triggerAnswer s = .queued)
    (hc : s.smu.newest = some c) : spotTrigger src s = joinSpot (c.copyFor src) s := by
  simp only [spotTrigger, ha, hc]

theorem spotTrigger_dropped {src : SpotSource} {s : State} (ha : triggerAnswer s = .dropped) :
    spotTrigger src s = s.onSmu (fun m => { m with drops := satInc 255 m.drops }) := by
  simp only [spotTrigger, ha]

theorem spotTrigger_refused {src : SpotSource} {s : State} (hq : triggerAnswer s ≠ .queued)
    (hd : triggerAnswer s ≠ .dropped) : spotTrigger src s = s := by
  unfold spotTrigger
  split
  next h _ => exact absurd h hq
  next h => exact absurd h hd
  next => rfl

theorem SpotContext.copyFor_eq (c : SpotContext) (src : SpotSource) : c.copyFor src =
    ⟨c.slot, c.k, if c.target = .immediate then .immediate else .next, none, decide (c.target = .immediate), c.tag,
      src⟩ := by
  unfold SpotContext.copyFor
  cases h : c.target <;> simp

theorem templateContext_eq {t : SpotTemplate} (slot : Fin 4) (h : t.slot < 6) :
    templateContext t slot = some ⟨⟨t.slot, h⟩, t.k, .next, none, false, t.tag, .route slot⟩ := by
  simp [templateContext, slotIndex, h]

theorem runAction_spot {slot : Fin 4} {t : SpotTemplate} {lanes : List Lane} {s : State} {c : SpotContext}
    (hr : spotRefusal s = none) (hc : templateContext t slot = some c) :
    runAction slot (.spot (some t)) lanes s = ⟨joinSpot c s, true, false⟩ := by
  simp only [runAction, hr, hc]

theorem runAction_spot_refused {slot : Fin 4} {t : SpotTemplate} {lanes : List Lane} {s : State}
    (hr : spotRefusal s ≠ none) : runAction slot (.spot (some t)) lanes s = ⟨s, false, false⟩ := by
  simp only [runAction]
  split
  next h _ => exact absurd h hr
  next => rfl

theorem runAction_holdLine_hold {slot : Fin 4} {lanes : List Lane} {s : State} (h : s.wtb.line = .hold) :
    runAction slot .holdLine lanes s = ⟨s.onWtb (fun w => { w with resumeArmed := false }), true, false⟩ := by
  simp only [runAction, h]

/-- Settles O10. -/
theorem routeActionsAtOwners : Obligations.RouteActionsAtOwners := by
  intro slot lanes s cutOf cuttable waiting
  refine ⟨fun a => ?_, ⟨rfl, rfl⟩, ⟨?_, fun hl => ⟨fun h => ?_, fun h => ?_, fun h hn => ?_, fun h hn => ?_⟩, fun hl => ?_,
    fun hr hh => ?_⟩, ⟨?_, fun h => ?_, fun h hn => ?_, fun h hn => ?_, fun h => ?_⟩, fun t ht => ⟨fun h1 h2 h3 h4 => ?_,
    fun h => ?_⟩, ⟨?_, fun c h1 h2 h3 h4 hc => ?_, fun h1 h2 h3 h4 h5 => ?_, fun h => ?_⟩, fun l => ⟨?_, fun h => ?_,
    fun h => ?_⟩, ?_, fun l => ⟨fun hl hc => foldl_cutLane_marks hl hc, fun h => foldl_cutLane_stands h⟩,
    foldl_cutLane_eq lanes s⟩
  · cases a with
    | spot t => cases t with
      | none => simp [runAction]
      | some t =>
        simp only [runAction]
        split <;> simp
    | cut t => cases t <;> simp [runAction]
    | holdLine =>
      simp only [runAction]
      split <;> simp_all
    | releaseEmboss =>
      simp only [runAction]
      split <;> simp
    | newBatch => simp [runAction]
  · simp only [runAction]
    split <;> rfl
  · simpa only [runAction, hl] using enterHold_stands false h
  · simpa only [runAction, hl] using enterHold_syncing false h
  · simpa only [runAction, hl] using enterHold_engaged_closed false h hn
  · simpa only [runAction, hl] using enterHold_engaged_open false h hn
  · rw [runAction_holdLine_hold hl]
    rfl
  · simp only [runAction]
    split
    next h => exact absurd h hr
    next h => exact absurd h hh
    all_goals rfl
  · simp only [runAction]
    split <;> rfl
  · simpa only [runAction, h] using releaseEmboss_syncing h
  · simp only [runAction, h]
    exact (releaseEmboss_engaged h).trans (enterReleasing_closed hn)
  · simp only [runAction, h]
    exact (releaseEmboss_engaged h).trans (enterReleasing_open hn (.inr rfl))
  · simp only [runAction]
    rcases h with h | h | h <;> rw [h]
  · rw [runAction_spot (spotRefusal_eq_none.2 ⟨h1, h2, h3, h4⟩) (templateContext_eq slot ht)]
    exact ⟨rfl, _, rfl, rfl⟩
  · have hr : spotRefusal s ≠ none := by
      rw [Ne, spotRefusal_eq_none]
      rintro ⟨h1, h2, h3, h4⟩
      rcases h with h | h | h | h
      · exact h1 h
      · exact h2 h
      · exact h h3
      · omega
    rw [runAction_spot_refused hr]
    exact ⟨rfl, rfl⟩
  · simp only [runAction, beq_iff_eq, triggerAnswer_eq_queued, Smu.newest_isSome]
  · have hn := Smu.newest_eq_some hc
    refine (spotTrigger_queued (triggerAnswer_eq_queued.2 ⟨h1, h2, h3, h4, by simp [hn]⟩) hn).trans ?_
    rw [SpotContext.copyFor_eq]
    rfl
  · have hd : triggerAnswer s = .dropped := by
      simp [triggerAnswer, h1, h2, h3, Smu.newest_of_nil h4, h5]
    exact spotTrigger_dropped hd
  · obtain ⟨hq, hd⟩ := triggerAnswer_refused h
    refine spotTrigger_refused hq fun hd' => ?_
    obtain ⟨hn, hl⟩ := hd hd'
    have hc : s.smu.contexts = [] := by
      by_contra hc
      simpa [hn] using Smu.newest_isSome.2 (.inl hc)
    simp [hc] at hl
  · simp only [runAction, beq_iff_eq, cutAnswer_taken]
    rfl
  · refine cutLane_of_not fun hc => ?_
    have := cutAnswer_taken.2 hc
    simp [runAction, this] at h
  · refine (cutLane_of_cuttable h).trans ?_
    cases l <;> rfl
  · simp only [runAction, List.any_eq_true, beq_iff_eq, cutAnswer_taken]
    rfl

end Sys2Proof.Machine
end

section
/-! The set requests: the ranges of their fields, and the requests of the stations, the emboss unit, the measurement
unit, the lanes and the batch table. -/

namespace Sys2Proof.Machine

/-! ### Field ranges -/

theorem slotIndex_eq_some {n : Nat} {i : Fin 6} : slotIndex n = some i ↔ i.val = n := by
  unfold slotIndex
  split
  next h => simp [Fin.ext_iff, eq_comm]
  next h =>
    simp only [reduceCtorEq, false_iff]
    have := i.isLt
    omega

theorem slotIndex_isSome {n : Nat} : (slotIndex n).isSome = true ↔ n ≤ 5 := by
  unfold slotIndex
  split
  next h => simp; omega
  next h => simp; omega

/-- The slots a list of numbers names, where each names one. -/
theorem mapM_slotIndex_eq_some {ns : List Nat} {is : List (Fin 6)} :
    ns.mapM slotIndex = some is ↔ is.map Fin.val = ns := by
  induction ns generalizing is with
  | nil =>
    rw [List.mapM_nil, Option.pure_def, Option.some.injEq, List.map_eq_nil_iff]
    exact eq_comm
  | cons n ns ih =>
    simp only [List.mapM_cons, Option.bind_eq_bind, Option.pure_def, Option.bind_eq_some_iff, slotIndex_eq_some,
      Option.some.injEq]
    constructor
    · rintro ⟨i, hi, js, hjs, rfl⟩
      simp [hi, ih.1 hjs]
    · intro h
      cases is with
      | nil => simp at h
      | cons i is =>
        obtain ⟨hi, his⟩ := List.cons.inj h
        exact ⟨i, hi, is, ih.2 his, rfl⟩

theorem mapM_slotIndex_isSome {ns : List Nat} : (ns.mapM slotIndex).isSome = true ↔ ∀ x ∈ ns, x ≤ 5 := by
  induction ns with
  | nil => simp
  | cons n ns ih =>
    rw [List.mapM_cons, List.forall_mem_cons, ← ih, ← slotIndex_isSome]
    cases slotIndex n <;> cases ns.mapM slotIndex <;> simp

theorem offsetAllowed_iff {n held offset : Nat} : offsetAllowed n held offset = true ↔
    offset ≤ 63999 ∧ (n ≠ 0 → offset ≤ n - 1 ∨ offset = held) := by
  simp only [offsetAllowed, Bool.and_eq_true, within_iff, Bool.or_eq_true, beq_iff_eq, decide_eq_true_eq]
  omega

theorem EmbossFields.resolve_isSome (f : EmbossFields) (n : Nat) : (f.resolve n).isSome = true ↔
    f.configured.isSome = true ∧ f.required.isSome = true ∧ f.autoReengage.isSome = true ∧ 1 ≤ f.ratio ∧
    f.ratio ≤ 4 ∧ f.offset ≤ 63999 ∧ f.gain ≤ 256 ∧ f.deadband ≤ 1000 ∧ 1 ≤ f.maxStep ∧ f.maxStep ≤ 2000 ∧
    10 ≤ f.engageWindow ∧ f.engageWindow ≤ 2000 ∧ 20 ≤ f.faultLimit ∧ f.faultLimit ≤ 32000 ∧ 1 ≤ f.tol ∧
    f.tol ≤ f.faultLimit ∧ 100 ≤ f.nipTimeout ∧ f.nipTimeout ≤ 5000 ∧ 1 ≤ f.rate ∧ f.rate ≤ 64 ∧
    (n ≠ 0 → f.faultLimit ≤ n / 2) := by
  unfold EmbossFields.resolve
  cases f.configured <;> cases f.required <;> cases f.autoReengage <;>
    simp [within_iff, and_assoc, or_iff_not_imp_left]

theorem ShadeFields.resolve_isSome (f : ShadeFields) (n held : Nat) : (f.resolve n held).isSome = true ↔
    f.keep.isSome = true ∧ f.overwrite.isSome = true ∧ f.scanList ≠ [] ∧ f.scanList.Nodup ∧
    (∀ x ∈ f.scanList, x ≤ 5) ∧ 1 ≤ f.nscan ∧ f.nscan ≤ 6 ∧ f.kreg ≤ 4 ∧ f.offset ≤ 63999 ∧
    (n ≠ 0 → f.offset ≤ n - 1 ∨ f.offset = held) ∧ 1000 ≤ f.whiteTarget ∧ f.whiteTarget ≤ 4000 := by
  rw [← mapM_slotIndex_isSome]
  unfold ShadeFields.resolve
  cases hl : f.scanList.mapM slotIndex with
  | none => cases f.keep <;> cases f.overwrite <;> simp
  | some is =>
    have hm := mapM_slotIndex_eq_some.1 hl
    have hd : f.scanList.Nodup ↔ is.Nodup := by
      rw [← hm]
      exact List.nodup_map_iff Fin.val_injective
    have hn : f.scanList ≠ [] ↔ 1 ≤ is.length := by
      rw [← hm, Ne, List.map_eq_nil_iff, Nat.one_le_iff_ne_zero, Ne, List.length_eq_zero_iff]
    have h6 : is.Nodup → is.length ≤ 6 := fun h => by simpa using h.length_le_card
    rw [hn, hd]
    cases f.keep <;> cases f.overwrite <;> simp [within_iff, offsetAllowed_iff]
    tauto

theorem GuardFields.resolve_isSome (f : GuardFields) : f.resolve.isSome = true ↔
    f.all.isSome = true ∧ f.spots.isSome = true ∧ f.slot ≤ 5 ∧ f.low ≤ f.high ∧ f.high ≤ 4095 := by
  unfold GuardFields.resolve
  rw [← slotIndex_isSome]
  cases f.all <;> cases f.spots <;> cases slotIndex f.slot <;> simp [within_iff]
  omega

theorem LaneFields.resolve_isSome (f : LaneFields) (n held : Nat) : (f.resolve n held).isSome = true ↔
    f.enabled.isSome = true ∧ f.cutOffset ≤ 63999 ∧ (n ≠ 0 → f.cutOffset ≤ n - 1 ∨ f.cutOffset = held) ∧
    8000 ≤ f.target ∧ f.target ≤ 4000000 ∧ f.minLength ≤ 4000000 ∧ f.defectLimit ≤ 65535 ∧ f.knifeLead ≤ 50000 ∧
    1 ≤ f.maxDeferrals ∧ f.maxDeferrals ≤ 8 ∧ 500 ≤ f.turretTimeout ∧ f.turretTimeout ≤ 10000 := by
  unfold LaneFields.resolve
  cases f.enabled <;> simp [within_iff, offsetAllowed_iff, and_assoc]

theorem BatchFields.resolve_isSome (f : BatchFields) : f.resolve.isSome = true ↔ f.mode.isSome = true ∧
    0x41 ≤ f.char1.toNat ∧ f.char1.toNat ≤ 0x5A ∧ 0x41 ≤ f.char2.toNat ∧ f.char2.toNat ≤ 0x5A ∧ f.tol ≤ 4095 ∧
    f.wR ≤ 64 ∧ f.wG ≤ 64 ∧ f.wB ≤ 64 ∧ 1 ≤ f.rollsPerBatch ∧ f.rollsPerBatch ≤ 9999 := by
  unfold BatchFields.resolve
  cases f.mode <;> simp [within_iff, isCapital, and_assoc]

theorem LabelFields.resolve_isSome (f : LabelFields) : f.resolve.isSome = true ↔ f.enabledA.isSome = true ∧
    f.enabledB.isSome = true ∧ f.templateA ≤ 15 ∧ f.templateB ≤ 15 ∧ 50 ≤ f.timeout ∧ f.timeout ≤ 5000 ∧
    f.timeout % 50 = 0 ∧ f.retries ≤ 1 := by
  unfold LabelFields.resolve
  cases f.enabledA <;> cases f.enabledB <;> simp [within_iff, and_assoc]

/-- Settles O22. -/
theorem fieldRanges : Obligations.FieldRanges := by
  refine ⟨fun r => ?_, fun p => ?_, fun p => ?_, EmbossFields.resolve_isSome, ShadeFields.resolve_isSome,
    GuardFields.resolve_isSome, fun f => ?_, LaneFields.resolve_isSome, BatchFields.resolve_isSome,
    LabelFields.resolve_isSome⟩
  · simp [RepeatParams.inRange, within_iff, and_assoc]
  · have hd : p.d.toList.all (within 0 4000000) = true ↔ ∀ k : Fin 8, p.d[k] ≤ 4000000 := by
      simp only [List.all_eq_true, Vector.mem_toList_iff, within_iff, Vector.mem_iff_getElem]
      exact ⟨fun h k => (h _ ⟨k, k.isLt, rfl⟩).2, by rintro h x ⟨i, hi, rfl⟩; exact ⟨Nat.zero_le _, h ⟨i, hi⟩⟩⟩
    simp only [PathTable.inRange, Bool.and_eq_true, hd, within_iff, and_assoc, Nat.zero_le, true_and]
  · simp [StationParams.inRange, within_iff, and_assoc]
  · simp [Factors.inRange, within_iff, and_assoc]

/-! ### The stations -/

theorem stationIndex_val (k : Fin 8) : stationIndex (k.val + 1) = some k := by
  simp [stationIndex, show k.val + 1 ≤ 8 by omega]

theorem stationIndex_eq_none {n : Nat} (h : n = 0 ∨ 8 < n) : stationIndex n = none := by
  simp [stationIndex, show ¬ (1 ≤ n ∧ n ≤ 8) by omega]

/-- ceil(x / y) as the floor of the sum (R53). -/
theorem ceilDiv_eq {x y : Int} (h : 0 < y) : ceilDiv x y = (x + y - 1) / y := by
  unfold ceilDiv
  have hm := Int.mul_ediv_add_emod (-x) y
  have h0 := Int.emod_nonneg (-x) h.ne'
  have h1 := Int.emod_lt_of_pos (-x) h
  refine ((Int.ediv_emod_unique (r := y - 1 - -x % y) h).2 ⟨?_, by omega, by omega⟩).1.symm
  rw [mul_neg]
  omega

/-- Settles O31. -/
theorem stationsAreSet : Obligations.StationsAreSet := by
  refine ⟨fun tag k f s hf => ⟨fun h => ?_, fun h hi ht => ?_⟩, fun tag n f s h => ?_, fun tag k m s => ⟨fun h => ?_,
    fun hm h => ?_, fun hm h hi ht => ?_⟩, fun tag n m s h => ?_, fun d => rfl, fun d e he => ?_⟩
  · show execStationSet tag (k.val + 1) f s = _
    simp only [execStationSet, stationIndex_val, hf]
    rw [if_neg (by simp), if_neg (by tauto)]
    rfl
  · show execStationSet tag (k.val + 1) f s = _
    simp only [execStationSet, stationIndex_val, hf]
    rw [if_neg (by simp), if_pos ⟨h, hi, ht⟩]
  · show execStationSet tag n f s = _
    unfold execStationSet
    split
    · rfl
    next k hk =>
      have hf : f.inRange = false := by
        rcases h with h | h | h
        · simp [stationIndex_eq_none (.inl h)] at hk
        · simp [stationIndex_eq_none (.inr h)] at hk
        · exact h
      simp [hf]
  · show execStationMode tag (k.val + 1) (some m) s = _
    simp only [execStationMode, stationIndex_val, h, if_true]
  · show execStationMode tag (k.val + 1) (some m) s = _
    simp only [execStationMode, stationIndex_val, if_neg hm]
    rw [if_neg]
    · rfl
    · rintro ⟨hs, hi, ht⟩
      generalize s.rlu.stations[k].mode = old at h hs
      rcases h with ⟨rfl | rfl, rfl | rfl⟩ | h | h
      any_goals simp at hs
      · exact hi h
      · exact ht h
  · show execStationMode tag (k.val + 1) (some m) s = _
    simp only [execStationMode, stationIndex_val, if_neg hm]
    rw [if_pos]
    refine ⟨?_, hi, ht⟩
    generalize s.rlu.stations[k].mode = old at h
    rcases h with rfl | rfl | rfl | rfl <;> simp
  · show execStationMode tag n m s = _
    unfold execStationMode
    split
    next k m' hk =>
      rcases h with h | h | h
      · simp [stationIndex_eq_none (.inl h)] at hk
      · simp [stationIndex_eq_none (.inr h)] at hk
      · simp at h
    next => rfl
  · unfold settleValue
    rw [if_neg he.ne', ceilDiv_eq he]
    have : 0 ≤ (16 * (d : Int) + e - 1) / e := Int.ediv_nonneg (by omega) he.le
    omega

end Sys2Proof.Machine
end

section
/-! The requests of the emboss unit, the measurement unit, the lanes, the batch table and the line's settings. -/

namespace Sys2Proof.Machine

theorem answered_congr {tag type : Byte} {st : Status} {fs : List Byte} {s t : State} (h : s = t) :
    (Host.Outcome.next (answer tag type st fs s) : Host.Outcome State Fault Refusal) =
      .next (answer tag type st fs t) := by rw [h]

/-! ### The emboss unit -/

/-- A structural field of EMBOSS SET changes (R19, R74). -/
theorem EmbossParams.structuralChange_iff {old new : EmbossParams} : old.structuralChange new = true ↔
    new.configured ≠ old.configured ∨ new.ratio ≠ old.ratio ∨ new.offset ≠ old.offset ∨ new.required ≠ old.required := by
  simp [EmbossParams.structuralChange, or_assoc, ne_comm]

theorem EmbossParams.structuralChange_eq_false {old new : EmbossParams} (hc : new.configured = old.configured)
    (hr : new.ratio = old.ratio) (ho : new.offset = old.offset) (hq : new.required = old.required) :
    old.structuralChange new = false := by
  simp [EmbossParams.structuralChange, hc, hr, ho, hq]

/-- An EMBOSS SET whose fields are in range (R74, R75). -/
theorem execEmbossSet_some (tag : Byte) {f : EmbossFields} {p : EmbossParams} {s : State}
    (h : f.resolve s.tku.params.n = some p) : execEmbossSet tag f s = .next
      (if s.epu.params.structuralChange p = true ∧ s.wtb.line ≠ .idle ∧ s.wtb.line ≠ .thread then
        answer tag 0x20#8 .wrongState [] s
      else answer tag 0x20#8 .ok [] { s with epu := { s.epu with
        params := p
        state := if s.wtb.line = .thread ∧ s.epu.params.configured ≠ p.configured then
          (if p.configured then EmbossState.opened else .none) else s.epu.state } }) := by
  simp only [execEmbossSet, h]
  rfl

/-- RELEASE in OPEN and RELEASING clears the re-engage flag alone (R85). -/
theorem releaseEmboss_stands {s : State} (h : s.epu.state = .opened ∨ s.epu.state = .releasing) :
    releaseEmboss s = { s with epu := { s.epu with reengage := false } } := by
  rcases h with h | h <;> simp only [releaseEmboss, State.onEpu, h]

/-- Settles O34. -/
theorem embossRequestsAreTaken : Obligations.EmbossRequestsAreTaken := by
  refine ⟨fun tag s => ⟨fun hl hs hw => ?_, fun hl => ?_, fun hl hs => ?_, fun hl hs hw => ?_⟩, fun tag f p s hp =>
    ⟨fun h => ?_, fun hl => ?_, fun h hi ht => ?_⟩, fun tag f s hf => ?_, fun tag s => ⟨fun hs => ?_, fun hs => ?_,
    fun hs => ?_, fun hs hn => ?_, fun hs hn => ?_⟩⟩
  · exact congrArg _ ((if_neg (by simp [hl, hs])).trans (if_neg (by simp [hw])))
  · exact congrArg _ (if_pos (.inl hl))
  · exact congrArg _ (if_pos (.inr hs))
  · exact congrArg _ ((if_neg (by simp [hl, hs])).trans (if_pos hw))
  · refine (execEmbossSet_some tag hp).trans ?_
    rw [if_neg]
    · rw [if_neg]
      rintro ⟨hl, hc⟩
      rcases h with ⟨h, -⟩ | h
      · exact hc h.symm
      · simp [h] at hl
    · rintro ⟨hc, hi, -⟩
      rcases h with ⟨h1, h2, h3, h4⟩ | h
      · simp [EmbossParams.structuralChange_eq_false h1 h2 h3 h4] at hc
      · exact hi h
  · refine (execEmbossSet_some tag hp).trans ?_
    rw [if_neg (fun h => h.2.2 hl)]
    by_cases hc : p.configured = s.epu.params.configured
    · rw [if_neg (fun h => h.2 hc.symm), if_pos hc]
    · rw [if_pos ⟨hl, fun h => hc h.symm⟩, if_neg hc]
  · exact (execEmbossSet_some tag hp).trans (congrArg _ (if_pos ⟨EmbossParams.structuralChange_iff.2 h, hi, ht⟩))
  · show execEmbossSet tag f s = _
    simp only [execEmbossSet, hf]
  · exact congrArg _ (if_pos hs)
  · exact congrArg _ ((if_neg (by rcases hs with hs | hs <;> simp [hs])).trans
      (congrArg (answer tag 0x22#8 .ok []) (releaseEmboss_stands hs)))
  · show execEmbossRelease tag s = _
    rw [execEmbossRelease, if_neg (by simp [hs]), releaseEmboss_syncing hs]
  · show execEmbossRelease tag s = _
    rw [execEmbossRelease, if_neg (by simp [hs]), releaseEmboss_engaged hs]
    exact answered_congr (enterReleasing_closed hn)
  · show execEmbossRelease tag s = _
    rw [execEmbossRelease, if_neg (by simp [hs]), releaseEmboss_engaged hs]
    exact answered_congr (enterReleasing_open hn (.inr rfl))

/-! ### The measurement unit -/

theorem flagBits_cons (b : Bool) (bs : List Bool) : flagBits (b :: bs) = 2 * flagBits bs + b.toNat := by
  cases b <;> rfl

/-- The lowest bits of a number, as flags, make the number modulo a power of 2. -/
theorem flagBits_testBit (m n : Nat) : flagBits (List.ofFn (fun i : Fin n => m.testBit i.val)) = m % 2 ^ n := by
  induction n generalizing m with
  | zero => simp [flagBits, Nat.mod_one]
  | succ n ih =>
    have ht : (List.ofFn (fun i : Fin n => m.testBit i.succ.val)) =
        List.ofFn (fun i : Fin n => (m / 2).testBit i.val) := by
      simp [Nat.testBit_succ]
    rw [List.ofFn_succ, flagBits_cons, ht, ih, pow_succ, Nat.mul_comm _ 2, Nat.mod_mul]
    have h0 : (m.testBit 0).toNat = m % 2 := by
      rcases Nat.mod_two_eq_zero_or_one m with h | h <;> simp [h]
    rw [show m.testBit (0 : Fin (n + 1)).val = m.testBit 0 from rfl, h0, Nat.add_comm]

/-- The byte of a mask of six bits (R93, R191). -/
theorem flagBits_mask (mask : Byte) :
    flagBits (Vector.ofFn (fun i : Fin 6 => mask.getLsbD i.val)).toList = mask.toNat % 64 := by
  rw [Vector.toList_ofFn]
  exact flagBits_testBit mask.toNat 6

/-- Settles O37. -/
theorem shadeSettingsAreWritten : Obligations.ShadeSettingsAreWritten := by
  refine ⟨fun tag f p s hp => ⟨fun h => ?_, fun h hi ht => ?_⟩, fun tag f s hf => ?_, fun tag mask s => ?_,
    fun tag f g s hg => ⟨?_, ?_, ?_⟩, fun tag c f s h => ?_⟩
  · show execShadeSet tag f s = _
    simp only [execShadeSet, hp]
    rw [if_neg (by tauto)]
    rfl
  · show execShadeSet tag f s = _
    simp only [execShadeSet, hp]
    rw [if_pos ⟨h, hi, ht⟩]
  · show execShadeSet tag f s = _
    simp only [execShadeSet, hf]
  · refine ⟨(s.smu.enable mask).enables, (s.smu.enable mask).faults, fun i => by simp [Smu.enable],
      fun i => by simp [Smu.enable], ?_⟩
    rw [← flagBits_mask]
    rfl
  · show execGuardSet tag (some .r) f s = _
    simp only [execGuardSet, hg]
    rfl
  · show execGuardSet tag (some .g) f s = _
    simp only [execGuardSet, hg]
    rfl
  · show execGuardSet tag (some .b) f s = _
    simp only [execGuardSet, hg]
    rfl
  · show execGuardSet tag c f s = _
    unfold execGuardSet
    split
    next hg =>
      rcases h with h | h
      · simp at h
      · simp [h] at hg
    next => rfl

/-! ### The lanes -/

theorem targetAllowed_iff {l : Lane} {p : LaneParams} {s : State} : targetAllowed l p s = true ↔
    s.running = false ∨ p.target = (s.lane l).params.target ∨ 2 * s.tku.params.n ≤ p.target := by
  simp [targetAllowed, or_assoc]

section
variable (tag : Byte) {l : Lane} {f : LaneFields} {p : LaneParams} {s : State}
  (h : f.resolve s.tku.params.n (s.lane l).params.cutOffset = some p)
include h

/-- A roll target too short for the track that runs (R127). -/
theorem execLaneSet_target (ht : targetAllowed l p s = false) :
    execLaneSet tag (some l) f s = .next (answer tag 0x38#8 .badValue [] s) := by
  simp only [execLaneSet, h, ht, Bool.not_false, if_true]

theorem execLaneSet_refused (ht : targetAllowed l p s = true) {st : Status} (hr : laneRefusal l p s = some st) :
    execLaneSet tag (some l) f s = .next (answer tag 0x38#8 st [] s) := by
  simp only [execLaneSet, h, ht, hr, Bool.not_true, Bool.false_eq_true, if_false]

theorem execLaneSet_written (ht : targetAllowed l p s = true) (hr : laneRefusal l p s = none) :
    execLaneSet tag (some l) f s = .next (answer tag 0x38#8 .ok [] (s.onLane l (writeLane p))) := by
  simp only [execLaneSet, h, ht, hr, Bool.not_true, Bool.false_eq_true, if_false]

end

theorem State.onLane_congr (s : State) (l : Lane) {f g : LaneControl → LaneControl} (h : f (s.lane l) = g (s.lane l)) :
    s.onLane l f = s.onLane l g := by
  cases l
  · exact congrArg (fun k => { s with rku := { s.rku with laneA := k } }) h
  · exact congrArg (fun k => { s with rku := { s.rku with laneB := k } }) h

theorem State.onLane_onLane (s : State) (l : Lane) (f g : LaneControl → LaneControl) :
    (s.onLane l f).onLane l g = s.onLane l (fun k => g (f k)) := by cases l <;> rfl

/-- Settles O43. -/
theorem lanesAreSetAndCut : Obligations.LanesAreSetAndCut := by
  refine ⟨fun tag l f p s hp => ⟨fun hr hne hlt => ?_, fun ht => ⟨fun h hi hth => ?_, fun h => ⟨fun he hp0 hr => ?_,
    fun he hp0 hr => ?_, fun he => ?_⟩⟩⟩, fun tag l f s h => ?_, fun tag s => rfl, fun tag l s => ⟨fun h => ?_,
    fun hr hs => ?_, fun hr hs => ?_, fun hr hs => ?_⟩⟩
  · refine execLaneSet_target tag hp ?_
    rw [← Bool.not_eq_true, targetAllowed_iff]
    simp [hr, hne]
    omega
  · exact execLaneSet_refused tag hp (targetAllowed_iff.2 ht) (if_pos ⟨h, hi, hth⟩)
  · exact execLaneSet_refused tag hp (targetAllowed_iff.2 ht) ((if_neg (by tauto)).trans (if_pos ⟨he, hp0, hr⟩))
  · refine (execLaneSet_written tag hp (targetAllowed_iff.2 ht) ((if_neg (by tauto)).trans (if_neg (by simp [hr])))).trans ?_
    exact answered_congr (s.onLane_congr l (if_pos ⟨he, hp0⟩))
  · have hn : ¬((s.lane l).params.enabled = true ∧ p.enabled = false) := by
      rintro ⟨h1, h2⟩
      simp [h1, h2] at he
    refine (execLaneSet_written tag hp (targetAllowed_iff.2 ht)
      ((if_neg (by tauto)).trans (if_neg fun h => hn ⟨h.1, h.2.1⟩))).trans ?_
    exact answered_congr (s.onLane_congr l (if_neg hn))
  · show execLaneSet tag l f s = _
    rcases h with rfl | ⟨l, rfl, hf⟩
    · rfl
    · simp only [execLaneSet, hf]
  · have ha : cutAnswer l s = .wrongState := by
      unfold cutAnswer
      rcases h with h | h | h <;> simp [h]
    show execCut tag (some l) s = _
    simp only [execCut, ha]
  · have ha : cutAnswer l s = .busy := by simp [cutAnswer, hr, hs]
    show execCut tag (some l) s = _
    simp only [execCut, ha]
  · have hc : s.cuttable l := ⟨hr, .inl hs⟩
    show execCut tag (some l) s = _
    simp only [execCut, cutAnswer_taken.2 hc, cutLane_of_cuttable hc]
    refine answered_congr (Eq.trans (s.onLane_congr l ?_) (s.onLane_onLane l _ _).symm)
    simp [LaneControl.cutMarked, hs]
  · have hc : s.cuttable l := ⟨hr, .inr hs⟩
    show execCut tag (some l) s = _
    simp only [execCut, cutAnswer_taken.2 hc, cutLane_of_cuttable hc]
    refine answered_congr (s.onLane_congr l ?_)
    simp [LaneControl.cutMarked, hs]

/-! ### The batch table -/

theorem flagBits_pair (a b : Bool) : flagBits [a, b] = (if a then 1 else 0) + (if b then 2 else 0) := by
  cases a <;> cases b <;> rfl

theorem Batch.bytes_eq : Batch.bytes = fun b => b.code ++ le2 b.sequence ++ le2 b.reference.r ++
    le2 b.reference.g ++ le2 b.reference.b ++ le2 b.rolls ++ le8 b.totalLength.toNat ++ le2 b.lastRoll ++
    le4 b.lastTake.toNat ++ le1 ((if b.seenA then 1 else 0) + (if b.seenB then 2 else 0)) := by
  funext b
  rw [Batch.bytes, flagBits_pair]

theorem execBatchSet_some (tag : Byte) {f : BatchFields} {p : BatchParams} {s : State} (h : f.resolve = some p) :
    execBatchSet tag f s = .next
      (if (p.tol ≠ s.btu.params.tol ∨ p.wR ≠ s.btu.params.wR ∨ p.wG ≠ s.btu.params.wG ∨ p.wB ≠ s.btu.params.wB) ∧
          s.btu.batches ≠ [] then answer tag 0x40#8 .full (le1 1) s
        else answer tag 0x40#8 .ok [] { s with btu := { s.btu with params := p } }) := by
  simp only [execBatchSet, h]
  rfl

/-- A batch of a table without doubles leaves it (R161). -/
theorem filter_sequence_eq {before after : List Batch} {b : Batch} (hb : ∀ x ∈ before, x.sequence ≠ b.sequence)
    (ha : ∀ x ∈ after, x.sequence ≠ b.sequence) :
    (before ++ b :: after).filter (fun x => x.sequence != b.sequence) = before ++ after := by
  rw [List.filter_append, List.filter_cons_of_neg (by simp), List.filter_eq_self.2 (by simpa using hb),
    List.filter_eq_self.2 (by simpa using ha)]

theorem isBatchCode_iff (code : List Byte) : isBatchCode code = true ↔ ∃ a b x y z : Byte, code = [a, b, x, y, z] ∧
    0x41 ≤ a.toNat ∧ a.toNat ≤ 0x5A ∧ 0x41 ≤ b.toNat ∧ b.toNat ≤ 0x5A ∧ 0x30 ≤ x.toNat ∧ x.toNat ≤ 0x39 ∧
    0x30 ≤ y.toNat ∧ y.toNat ≤ 0x39 ∧ 0x30 ≤ z.toNat ∧ z.toNat ≤ 0x39 := by
  constructor
  · intro h
    unfold isBatchCode at h
    split at h
    next a b x y z =>
      simp only [Bool.and_eq_true, isCapital, isDigit, within_iff, and_assoc] at h
      exact ⟨a, b, x, y, z, rfl, h⟩
    next => simp at h
  · rintro ⟨a, b, x, y, z, rfl, h⟩
    simpa only [isBatchCode, Bool.and_eq_true, isCapital, isDigit, within_iff, and_assoc] using h

/-- Settles O48. -/
theorem batchRequestsAreTaken : Obligations.BatchRequestsAreTaken := by
  refine ⟨fun tag f p s hp => ⟨fun h => ?_, fun h hb => ?_⟩, fun tag f s hf => ?_, fun tag s => ?_,
    fun tag code s => ⟨fun hc => ?_, fun hc hn => ?_, fun before b after hc hb he h1 h2 => ?_⟩, isBatchCode_iff,
    fun tag s => ⟨fun hl => ?_, fun hl => ?_⟩⟩
  · refine (execBatchSet_some tag hp).trans (congrArg _ (if_neg ?_))
    rintro ⟨hc, hn⟩
    tauto
  · exact (execBatchSet_some tag hp).trans (congrArg _ (if_pos ⟨h, hb⟩))
  · show execBatchSet tag f s = _
    simp only [execBatchSet, hf]
  · show execBatchList tag s = _
    rw [execBatchList, Batch.bytes_eq]
    cases hm : s.btu.params.mode <;> rfl
  · show execBatchClose tag code s = _
    simp only [execBatchClose, hc]
    rfl
  · show execBatchClose tag code s = _
    have hf : s.btu.batches.find? (fun b => b.code == code) = none := by simpa using hn
    simp only [execBatchClose, hc, hf]
    rfl
  · show execBatchClose tag code s = _
    have hf : s.btu.batches.find? (fun b => b.code == code) = some b := by
      rw [hb, List.find?_append, List.find?_eq_none.2 (by simpa using fun x hx => (h1 x hx).1)]
      simp [he]
    simp only [execBatchClose, hc, hf]
    have hw := filter_sequence_eq (fun x hx => (h1 x hx).2) h2
    rw [← hb] at hw
    rw [← hw]
    rfl
  · exact congrArg _ (if_pos hl)
  · exact congrArg _ (if_neg hl)

end Sys2Proof.Machine
end

section
/-! What head work leaves alone while the line stands: the line, the emboss unit and the lanes; and what it leaves of
the scans, the bus and the calibration run. -/

namespace Sys2Proof.Machine

/-! ### A line that does not run -/

/-- The emboss unit is neither in SYNCING nor in ENGAGED (R83). -/
def Epu.outOfStep (e : Epu) : Prop := e.state = .none ∨ e.state = .opened ∨ e.state = .releasing

theorem foldl_cutLane_wtb (ls : List Lane) (s : State) : (ls.foldl (fun t l => cutLane l t) s).wtb = s.wtb := by
  rw [foldl_cutLane_eq]

theorem foldl_cutLane_epu (ls : List Lane) (s : State) : (ls.foldl (fun t l => cutLane l t) s).epu = s.epu := by
  rw [foldl_cutLane_eq]

/-- Outside RUN and HOLD no lane takes a CUT (R137). -/
theorem cutLane_of_stopped {l : Lane} {s : State} (h : s.running = false) : cutLane l s = s :=
  cutLane_of_not fun hc => by simpa [h] using hc.1

theorem foldl_cutLane_of_stopped {ls : List Lane} {s : State} (h : s.running = false) :
    ls.foldl (fun t l => cutLane l t) s = s := by
  induction ls with
  | nil => rfl
  | cons l ls ih => rw [List.foldl_cons, cutLane_of_stopped h, ih]

theorem running_eq_false {s : State} : s.running = false ↔ s.wtb.line ≠ .run ∧ s.wtb.line ≠ .hold := by
  simp [State.running]

/-- An action moves the line from RUN and HOLD alone (R178). -/
theorem runAction_wtb_of_stopped {s : State} (h : s.running = false) (slot : Fin 4) (a : RouteAction) (ls : List Lane) :
    (runAction slot a ls s).state.wtb = s.wtb := by
  obtain ⟨hr, hh⟩ := running_eq_false.1 h
  cases a with
  | spot t =>
    cases t with
    | none => exact spotTrigger_wtb _ s
    | some t =>
      simp only [runAction]
      split <;> simp
  | cut t =>
    cases t with
    | lane l => exact cutLane_wtb l s
    | event => exact foldl_cutLane_wtb ls s
  | holdLine =>
    simp only [runAction]
    split
    next h => exact absurd h hr
    next h => exact absurd h hh
    all_goals rfl
  | releaseEmboss =>
    simp only [runAction]
    split <;> simp
  | newBatch => rfl

/-- An action changes an emboss unit in SYNCING and ENGAGED alone (R178; log 38). -/
theorem runAction_epu_of_outOfStep {s : State} (h : s.epu.outOfStep) (slot : Fin 4) (a : RouteAction) (ls : List Lane) :
    (runAction slot a ls s).state.epu = s.epu := by
  cases a with
  | spot t =>
    cases t with
    | none => exact spotTrigger_epu _ s
    | some t =>
      simp only [runAction]
      split <;> simp
  | cut t =>
    cases t with
    | lane l => exact cutLane_epu l s
    | event => exact foldl_cutLane_epu ls s
  | holdLine =>
    simp only [runAction]
    split
    · rw [enterHold_stands _ h]
    all_goals rfl
  | releaseEmboss =>
    simp only [runAction]
    rcases h with h | h | h <;> rw [h]
  | newBatch => rfl

theorem runAction_rku_of_stopped {s : State} (h : s.running = false) (slot : Fin 4) (a : RouteAction) (ls : List Lane) :
    (runAction slot a ls s).state.rku = s.rku := by
  cases a with
  | spot t =>
    cases t with
    | none => exact spotTrigger_rku _ s
    | some t =>
      simp only [runAction]
      split <;> simp
  | cut t =>
    cases t with
    | lane l => exact congrArg State.rku (cutLane_of_stopped h)
    | event => exact congrArg State.rku (foldl_cutLane_of_stopped h)
  | holdLine =>
    simp only [runAction]
    split <;> simp
  | releaseEmboss =>
    simp only [runAction]
    split <;> simp
  | newBatch => rfl

/-- What an occurrence leaves of a unit that neither the notice path nor its action changes. -/
theorem raise_frame {α : Type} (f : State → α) (hn : ∀ ev p1 p2 t, f (notice ev p1 p2 t) = f t)
    (hc : ∀ slot t, f (countRoute slot t) = f t) (ev : Event) (p1 p2 : Nat) (s : State)
    (ha : ∀ slot a ls, f (runAction slot a ls s).state = f s) : f (raise ev p1 p2 s) = f s := by
  unfold raise
  split
  · exact hn ..
  · dsimp only
    split
    · rw [finishAction_eq]
      split
      · exact (hn ..).trans ((hc ..).trans (ha ..))
      · exact (hc ..).trans (ha ..)
    · exact (hn ..).trans (ha ..)

theorem raise_wtb_of_stopped {s : State} (h : s.running = false) (ev : Event) (p1 p2 : Nat) :
    (raise ev p1 p2 s).wtb = s.wtb :=
  raise_frame State.wtb (fun _ _ _ _ => notice_wtb ..) (fun _ _ => countRoute_wtb ..) _ _ _ s (runAction_wtb_of_stopped h)

theorem raise_epu_of_outOfStep {s : State} (h : s.epu.outOfStep) (ev : Event) (p1 p2 : Nat) :
    (raise ev p1 p2 s).epu = s.epu :=
  raise_frame State.epu (fun _ _ _ _ => notice_epu ..) (fun _ _ => countRoute_epu ..) _ _ _ s
    (runAction_epu_of_outOfStep h)

theorem raise_rku_of_stopped {s : State} (h : s.running = false) (ev : Event) (p1 p2 : Nat) :
    (raise ev p1 p2 s).rku = s.rku :=
  raise_frame State.rku (fun _ _ _ _ => notice_rku ..) (fun _ _ => countRoute_rku ..) _ _ _ s (runAction_rku_of_stopped h)

/-- The line, the emboss unit, the lanes, and the levels and the floor of the notices are as in `r`. -/
structure Rested (r t : State) : Prop where
  wtb : t.wtb = r.wtb
  epu : t.epu = r.epu
  rku : t.rku = r.rku
  levels : t.evu.levels = r.evu.levels
  floor : t.evu.floor = r.evu.floor

theorem Rested.refl (s : State) : Rested s s := ⟨rfl, rfl, rfl, rfl, rfl⟩

/-- With no track running and the emboss unit out of step, head work leaves the rest of the part alone. -/
theorem rested_head {r : State} (hr : r.running = false) (he : r.epu.outOfStep) : HeadClosed (Rested r) := by
  have hraise : ∀ ev p1 p2 t, Rested r t → Rested r (raise ev p1 p2 t) := by
    intro ev p1 p2 t h
    have hr' : t.running = false := by
      unfold State.running
      rw [h.wtb]
      exact hr
    have he' : t.epu.outOfStep := h.epu ▸ he
    exact ⟨(raise_wtb_of_stopped hr' ..).trans h.wtb, (raise_epu_of_outOfStep he' ..).trans h.epu,
      (raise_rku_of_stopped hr' ..).trans h.rku, (raise_evu_levels ..).trans h.levels, (raise_evu_floor ..).trans h.floor⟩
  have hreply : ∀ x t, Rested r t → Rested r (pushReply x t) := fun x t h =>
    ⟨by simpa using h.wtb, by simpa using h.epu, by simpa using h.rku, by simpa using h.levels, by simpa using h.floor⟩
  exact ⟨hraise, hreply, fun _ _ _ ⟨h1, h2, h3, h4, h5⟩ => ⟨h1, h2, h3, h4, h5⟩, fun c t _ h => abandonSpot_keeps hraise
    (fun _ _ _ ⟨h1, h2, h3, h4, h5⟩ => ⟨h1, h2, h3, h4, h5⟩) (fun _ ⟨h1, h2, h3, h4, h5⟩ => ⟨h1, h2, h3, h4, h5⟩) hreply c t h⟩

/-! ### The measurement unit through the ending of head work -/

/-- What the raising of a result and its place in the buffer keep, the offer keeps (R116). -/
theorem offerResult_keeps (P : State → Prop) (hraise : ∀ ev p1 p2 t, P t → P (raise ev p1 p2 t))
    (hres : ∀ t rs, P t → P (t.onSmu (fun m => { m with results := rs }))) (r : SpotResult) (s : State) (h : P s) :
    P (offerResult r s) := by
  unfold offerResult
  refine hraise _ _ _ _ ?_
  split
  · exact hres s _ h
  · split
    · split
      · exact hraise _ _ _ _ (hres s _ h)
      · exact h
    · exact hraise _ _ _ _ h

@[simp] theorem endSpot_smu_bus (c : SpotContext) (st : SpotStatus) (s : State) : (endSpot c st s).smu.bus = s.smu.bus :=
  endSpot_bus c st s

@[simp] theorem endSpot_smu_scan (c : SpotContext) (st : SpotStatus) (s : State) :
    (endSpot c st s).smu.scan = s.smu.scan :=
  offerResult_keeps (fun t => t.smu.scan = s.smu.scan) (fun _ _ _ _ h => by simpa using h) (fun _ _ h => h) _ s rfl

@[simp] theorem endSpot_smu_overrun (c : SpotContext) (st : SpotStatus) (s : State) :
    (endSpot c st s).smu.overrun = s.smu.overrun :=
  offerResult_keeps (fun t => t.smu.overrun = s.smu.overrun) (fun _ _ _ _ h => by simpa using h) (fun _ _ h => h) _ s rfl

@[simp] theorem endSpot_smu_calRun (c : SpotContext) (st : SpotStatus) (s : State) :
    (endSpot c st s).smu.calRun = s.smu.calRun :=
  offerResult_keeps (fun t => t.smu.calRun = s.smu.calRun) (fun _ _ _ _ h => by simpa using h) (fun _ _ h => h) _ s rfl

/-- A staged set becomes active and changes no other field (R120). -/
theorem applyStaged_smu (i : Fin 6) (s : State) : ∃ a st, (applyStaged i s).smu = { s.smu with active := a, staged := st } := by
  unfold applyStaged
  split <;> exact ⟨_, _, rfl⟩

@[simp] theorem applyStaged_smu_bus (i : Fin 6) (s : State) : (applyStaged i s).smu.bus = s.smu.bus := by
  obtain ⟨a, st, h⟩ := applyStaged_smu i s
  rw [h]
@[simp] theorem applyStaged_smu_scan (i : Fin 6) (s : State) : (applyStaged i s).smu.scan = s.smu.scan := by
  obtain ⟨a, st, h⟩ := applyStaged_smu i s
  rw [h]
@[simp] theorem applyStaged_smu_overrun (i : Fin 6) (s : State) : (applyStaged i s).smu.overrun = s.smu.overrun := by
  obtain ⟨a, st, h⟩ := applyStaged_smu i s
  rw [h]
@[simp] theorem applyStaged_smu_calRun (i : Fin 6) (s : State) : (applyStaged i s).smu.calRun = s.smu.calRun := by
  obtain ⟨a, st, h⟩ := applyStaged_smu i s
  rw [h]

/-- The release of the held stops leaves the rest of the unit alone (R117). -/
theorem releaseStops_smu (s : State) : (releaseStops s).smu = { s.smu with heldStops := [] } :=
  releaseStops_keeps (fun t => t.smu = { s.smu with heldStops := [] }) s (fun _ _ h => by simpa using h) rfl

theorem abandonSpot_smu_bus (c : SpotContext) (s : State) : (abandonSpot c s).smu.bus = none := by
  simp [abandonSpot, releaseStops_smu, dropBus]
@[simp] theorem abandonSpot_smu_scan (c : SpotContext) (s : State) : (abandonSpot c s).smu.scan = s.smu.scan := by
  simp [abandonSpot, releaseStops_smu, dropBus]
@[simp] theorem abandonSpot_smu_overrun (c : SpotContext) (s : State) :
    (abandonSpot c s).smu.overrun = s.smu.overrun := by
  simp [abandonSpot, releaseStops_smu, dropBus]
@[simp] theorem abandonSpot_smu_calRun (c : SpotContext) (s : State) :
    (abandonSpot c s).smu.calRun = s.smu.calRun := by
  simp [abandonSpot, releaseStops_smu, dropBus]

theorem abandonSpotIf_none {p : SpotContext → Bool} {s : State} (h : s.smu.spotInProgress = none) :
    abandonSpotIf p s = s := by
  simp only [abandonSpotIf, h]

theorem abandonSpotIf_some {p : SpotContext → Bool} {s : State} {c : SpotContext} (h : s.smu.spotInProgress = some c)
    (hp : p c = true) : abandonSpotIf p s = abandonSpot c s := by
  simp only [abandonSpotIf, h, hp, if_true]

theorem abandonSpotIf_false {p : SpotContext → Bool} {s : State} {c : SpotContext} (h : s.smu.spotInProgress = some c)
    (hp : p c = false) : abandonSpotIf p s = s := by
  simp [abandonSpotIf, h, hp]

/-- Nothing, or the abandoning of the spot in progress. -/
theorem abandonSpotIf_cases (p : SpotContext → Bool) (s : State) : abandonSpotIf p s = s ∨
    ∃ c, s.smu.spotInProgress = some c ∧ p c = true ∧ abandonSpotIf p s = abandonSpot c s := by
  cases h : s.smu.spotInProgress with
  | none => exact .inl (abandonSpotIf_none h)
  | some c =>
    cases hp : p c with
    | false => exact .inl (abandonSpotIf_false h hp)
    | true => exact .inr ⟨c, rfl, hp, abandonSpotIf_some h hp⟩

@[simp] theorem abandonSpotIf_smu_scan (p : SpotContext → Bool) (s : State) :
    (abandonSpotIf p s).smu.scan = s.smu.scan := by
  obtain h | ⟨c, -, -, h⟩ := abandonSpotIf_cases p s <;> simp [h]
@[simp] theorem abandonSpotIf_smu_overrun (p : SpotContext → Bool) (s : State) :
    (abandonSpotIf p s).smu.overrun = s.smu.overrun := by
  obtain h | ⟨c, -, -, h⟩ := abandonSpotIf_cases p s <;> simp [h]
@[simp] theorem abandonSpotIf_smu_calRun (p : SpotContext → Bool) (s : State) :
    (abandonSpotIf p s).smu.calRun = s.smu.calRun := by
  obtain h | ⟨c, -, -, h⟩ := abandonSpotIf_cases p s <;> simp [h]

theorem Smu.spotInProgress_of_bus {m m' : Smu} (h : m'.bus = m.bus) : m'.spotInProgress = m.spotInProgress := by
  simp [Smu.spotInProgress, h]

theorem Smu.spotInProgress_of_free {m : Smu} (h : m.bus = none) : m.spotInProgress = none := by
  simp [Smu.spotInProgress, h]

/-- No spot is left in progress (R118). -/
theorem abandonSpotIf_true_spotInProgress (s : State) :
    (abandonSpotIf (fun _ => true) s).smu.spotInProgress = none := by
  cases h : s.smu.spotInProgress with
  | none => rw [abandonSpotIf_none h, h]
  | some c => exact Smu.spotInProgress_of_free (by rw [abandonSpotIf_some h rfl, abandonSpot_smu_bus])

/-- The regular measurement leaves the bus; a spot on it stays (R101). -/
theorem dropScanMeasurement_spotInProgress (s : State) :
    (dropScanMeasurement s).smu.spotInProgress = s.smu.spotInProgress := by
  unfold dropScanMeasurement
  split
  next b hb =>
    split
    next hu =>
      rw [Smu.spotInProgress_of_scan hb hu]
      exact Smu.spotInProgress_of_free (by simp [dropBus])
    all_goals rfl
  next => rfl

theorem dropScanMeasurement_smu_calRun (s : State) : (dropScanMeasurement s).smu.calRun = s.smu.calRun := by
  unfold dropScanMeasurement
  split
  · split
    · simp [dropBus]
    all_goals rfl
  · rfl

@[simp] theorem abandonScans_smu_scan (s : State) : (abandonScans s).smu.scan = none := rfl
@[simp] theorem abandonScans_smu_overrun (s : State) : (abandonScans s).smu.overrun = none := rfl
theorem abandonScans_spotInProgress (s : State) : (abandonScans s).smu.spotInProgress = s.smu.spotInProgress :=
  dropScanMeasurement_spotInProgress s
@[simp] theorem abandonScans_smu_calRun (s : State) : (abandonScans s).smu.calRun = s.smu.calRun :=
  dropScanMeasurement_smu_calRun s

theorem endCalibrationEarly_none {s : State} (h : s.smu.calRun = none) : endCalibrationEarly s = s := by
  simp only [endCalibrationEarly, h]

/-- What the end of a run keeps: what CAL-DONE, a free bus and an applied set keep. -/
theorem endCalibrationEarly_keeps (P : State → Prop) (hraise : ∀ ev p1 p2 t, P t → P (raise ev p1 p2 t))
    (hrun : ∀ t, P t → P (t.onSmu (fun m => { m with calRun := none })))
    (hbus : ∀ t, t.smu.spotInProgress = none → P t → P (dropBus t)) (hset : ∀ i t, P t → P (applyStaged i t))
    (s : State) (h : P s) : P (endCalibrationEarly s) := by
  unfold endCalibrationEarly
  split
  · exact h
  · refine hraise _ _ _ _ ?_
    split
    next b hb =>
      split
      next hu => exact hset _ _ (hbus _ (Smu.spotInProgress_of_cal hb hu) (hrun s h))
      all_goals exact hrun s h
    · exact hrun s h

@[simp] theorem endCalibrationEarly_smu_scan (s : State) : (endCalibrationEarly s).smu.scan = s.smu.scan :=
  endCalibrationEarly_keeps (fun t => t.smu.scan = s.smu.scan) (fun _ _ _ _ h => by simpa using h) (fun _ h => h)
    (fun _ _ h => h) (fun _ _ h => by simpa using h) s rfl
@[simp] theorem endCalibrationEarly_smu_overrun (s : State) : (endCalibrationEarly s).smu.overrun = s.smu.overrun :=
  endCalibrationEarly_keeps (fun t => t.smu.overrun = s.smu.overrun) (fun _ _ _ _ h => by simpa using h) (fun _ h => h)
    (fun _ _ h => h) (fun _ _ h => by simpa using h) s rfl

theorem endCalibrationEarly_spotInProgress {s : State} (h : s.smu.spotInProgress = none) :
    (endCalibrationEarly s).smu.spotInProgress = none :=
  endCalibrationEarly_keeps (fun t => t.smu.spotInProgress = none)
    (fun _ _ _ _ h => (Smu.spotInProgress_of_bus (raise_smu_bus ..)).trans h) (fun _ h => h)
    (fun _ _ _ => Smu.spotInProgress_of_free rfl)
    (fun _ _ h => (Smu.spotInProgress_of_bus (applyStaged_smu_bus ..)).trans h) s h

/-- No run is left (R124). -/
theorem endCalibrationEarly_smu_calRun (s : State) : (endCalibrationEarly s).smu.calRun = none := by
  unfold endCalibrationEarly
  split
  next h => exact h
  next =>
    rw [raise_smu_calRun]
    split
    · split
      · simp [dropBus]
      all_goals rfl
    · rfl

end Sys2Proof.Machine
end

section
/-! The Web Timebase: the encoder, the speed sampler, the stop causes and the line's settings (chapter 1). -/

namespace Sys2Proof.Machine

/-! ### The entry into HOLD -/

/-- The entry into HOLD changes the line and the emboss unit alone. -/
theorem enterHold_eq (armed : Bool) (s : State) : enterHold armed s = { s with
    wtb := { s.wtb with line := .hold, resumeArmed := armed }, epu := (enterHold armed s).epu } := by
  cases hs : s.epu.state with
  | none => rw [enterHold_stands armed (.inl hs)]
  | opened => rw [enterHold_stands armed (.inr (.inl hs))]
  | releasing => rw [enterHold_stands armed (.inr (.inr hs))]
  | syncing => rw [enterHold_syncing armed hs]
  | engaged =>
    cases hn : s.nipClosed with
    | true => rw [enterHold_engaged_closed armed hs hn]
    | false => rw [enterHold_engaged_open armed hs hn]

/-- The emboss unit leaves step as the line enters HOLD (R86). -/
theorem enterHold_outOfStep (armed : Bool) (s : State) : (enterHold armed s).epu.outOfStep := by
  cases hs : s.epu.state with
  | none => rw [enterHold_stands armed (.inl hs)]; exact .inl hs
  | opened => rw [enterHold_stands armed (.inr (.inl hs))]; exact .inr (.inl hs)
  | releasing => rw [enterHold_stands armed (.inr (.inr hs))]; exact .inr (.inr hs)
  | syncing => rw [enterHold_syncing armed hs]; exact .inr (.inl rfl)
  | engaged =>
    cases hn : s.nipClosed with
    | true => rw [enterHold_engaged_closed armed hs hn]; exact .inr (.inr rfl)
    | false => rw [enterHold_engaged_open armed hs hn]; exact .inr (.inl rfl)

/-- An engaged unit opens the nip as the line enters HOLD (R86). -/
theorem enterHold_npc (armed : Bool) {s : State} (h : s.epu.state = .engaged) : (enterHold armed s).epu.npc = false := by
  cases hn : s.nipClosed with
  | true => rw [enterHold_engaged_closed armed h hn]
  | false => rw [enterHold_engaged_open armed h hn]

/-- HOLD is entered and reported: the line and the emboss unit change, and LINE-STATE goes out (R11, R12). -/
theorem noticeLineState_enterHold (r : Reason) (armed : Bool) (s : State) :
    noticeLineState r (enterHold armed s) = noticeLineState r { s with
      wtb := { s.wtb with line := .hold, resumeArmed := armed }
      epu := (noticeLineState r (enterHold armed s)).epu } := by
  rw [noticeLineState_epu, ← enterHold_eq]

theorem Epu.outOfStep.ne {e : Epu} (h : e.outOfStep) : e.state ≠ .syncing ∧ e.state ≠ .engaged := by
  rcases h with h | h | h <;> simp [h]

/-! ### The encoder -/

/-- The direction of a count (R1). -/
theorem countForward_iff {ch : EncChannel} {pins : Pins} {reversed : Bool} : countForward ch pins reversed = true ↔
    ((match ch with | .a => pins.encA = pins.encB | .b => pins.encA ≠ pins.encB) ↔ reversed = false) := by
  cases ch <;> cases ha : pins.encA <;> cases hb : pins.encB <;> cases reversed <;> simp [countForward, ha, hb]

theorem Pins.toggle_eq (p : Pins) (ch : EncChannel) : p.toggle ch = (match ch with
    | .a => { p with encA := !p.encA }
    | .b => { p with encB := !p.encB }) := by cases ch <;> rfl

theorem execEncoderCount_forward {ch : EncChannel} {s : State}
    (h : countForward ch (s.pins.toggle ch) s.wtb.polarity.reversed = true) :
    execEncoderCount ch s = .next { s with pins := s.pins.toggle ch, wtb := s.wtb.forward } :=
  congrArg _ (if_pos h)

/-- A reverse count that begins no excursion (R2 to R4). -/
theorem execEncoderCount_backward {ch : EncChannel} {s : State}
    (h : ¬ countForward ch (s.pins.toggle ch) s.wtb.polarity.reversed = true)
    (hr : State.reversedTooFar { s with wtb := s.wtb.backward } = false) :
    execEncoderCount ch s = .next { s with pins := s.pins.toggle ch, wtb := s.wtb.backward } :=
  congrArg _ ((if_neg h).trans (if_neg fun h' => Bool.false_ne_true (hr.symm.trans h')))

theorem execEncoderCount_excursion {ch : EncChannel} {s : State}
    (h : ¬ countForward ch (s.pins.toggle ch) s.wtb.polarity.reversed = true)
    (hr : State.reversedTooFar { s with wtb := s.wtb.backward } = true) :
    execEncoderCount ch s = .next (reverseExcursion { s with pins := s.pins.toggle ch, wtb := s.wtb.backward }) :=
  congrArg _ ((if_neg h).trans (if_pos hr))

theorem sdiff_eq_zero {p q : Pos} : sdiff p q = 0 ↔ p = q := by
  unfold sdiff
  rw [← BitVec.toInt_zero (w := 32), BitVec.toInt_inj]
  exact sub_eq_zero (G := BitVec 32)

theorem Wtb.forward_parked {w : Wtb} (h : w.line = .idle ∨ w.line = .thread) : w.forward =
    { w with wp := w.wp + 1, hw := w.wp + 1, netCount := w.netCount + 1, newWeb := false } := by
  unfold Wtb.forward
  rcases h with h | h <;> simp only [h]

/-- The forward count of a line that is open to new web (R3, R4). -/
theorem Wtb.forward_open {w : Wtb} (hi : w.line ≠ .idle) (ht : w.line ≠ .thread) : w.forward =
    if 0 < sdiff (w.wp + 1) w.hw then
      { w with
        wp := w.wp + 1, hw := w.wp + 1, netCount := w.netCount + 1, newWeb := true
        excursion := w.excursion && decide (sdiff (w.wp + 1) w.hw < 0) }
    else { w with
      wp := w.wp + 1, netCount := w.netCount + 1, newWeb := false
      excursion := w.excursion && decide (sdiff (w.wp + 1) w.hw < 0) } := by
  unfold Wtb.forward
  cases h : w.line with
  | idle => exact absurd h hi
  | thread => exact absurd h ht
  | _ => simp only []

theorem Wtb.backward_parked {w : Wtb} (h : w.line = .idle ∨ w.line = .thread) : w.backward =
    { w with wp := w.wp - 1, hw := w.wp - 1, netCount := w.netCount - 1, newWeb := false } := by
  unfold Wtb.backward
  rcases h with h | h <;> simp only [h]

theorem Wtb.backward_open {w : Wtb} (hi : w.line ≠ .idle) (ht : w.line ≠ .thread) : w.backward =
    { w with wp := w.wp - 1, netCount := w.netCount - 1, newWeb := false } := by
  unfold Wtb.backward
  cases h : w.line with
  | idle => exact absurd h hi
  | thread => exact absurd h ht
  | _ => simp only []

theorem reversedTooFar_eq_false {s : State} (h : s.running = false ∨ s.wtb.excursion = true ∨
    sdiff s.wtb.hw s.wtb.wp ≤ s.tku.params.n) : s.reversedTooFar = false := by
  unfold State.reversedTooFar
  rcases h with h | h | h
  · simp [h]
  · simp [h]
  · simp [h]

theorem reversedTooFar_eq_true {s : State} (h : s.running = true) (he : s.wtb.excursion = false)
    (hn : (s.tku.params.n : Int) < sdiff s.wtb.hw s.wtb.wp) : s.reversedTooFar = true := by
  simp [State.reversedTooFar, h, he, hn]

theorem parked_running {s : State} (h : s.wtb.line = .idle ∨ s.wtb.line = .thread) : s.running = false := by
  rcases h with h | h <;> simp [State.running, h]

/-- REVERSE of a line in HOLD, the code bound to no slot (R4). -/
theorem reverseExcursion_hold {s : State} (h : s.evu.routeFor .reverse = none) (hl : s.wtb.line = .hold) :
    reverseExcursion s = (notice .reverse 0 s.wtb.hw.toNat (s.onWtb (fun w => { w with excursion := true }))).onWtb
      (fun w => { w with resumeArmed := false }) := by
  unfold reverseExcursion
  rw [raise_unrouted _ _ _ _ (show (s.onWtb _).evu.routeFor .reverse = none from h)]
  simp only [notice_wtb, State.onWtb_wtb, hl]

/-- REVERSE of a line in RUN, the code bound to no slot (R4). -/
theorem reverseExcursion_run {s : State} (h : s.evu.routeFor .reverse = none) (hl : s.wtb.line = .run) :
    reverseExcursion s = noticeLineState .reverse (enterHold false
      (notice .reverse 0 s.wtb.hw.toNat (s.onWtb (fun w => { w with excursion := true })))) := by
  unfold reverseExcursion
  rw [raise_unrouted _ _ _ _ (show (s.onWtb _).evu.routeFor .reverse = none from h)]
  simp only [notice_wtb, State.onWtb_wtb, hl]

/-- Settles O13. -/
theorem webPositionFollowsCounts : Obligations.WebPositionFollowsCounts := by
  refine ⟨fun ch s => ⟨s.pins.toggle ch, s.pins.toggle_eq ch, fun hf hl => ?_, fun hf hi ht hd => ?_,
    fun hf hi ht hd => ?_, fun hf hl => ?_, fun hf hi ht h => ?_⟩, ?_⟩
  · refine (execEncoderCount_forward (countForward_iff.2 hf)).trans ?_
    rw [Wtb.forward_parked hl]
  · refine (execEncoderCount_forward (countForward_iff.2 hf)).trans ?_
    change 0 < sdiff (s.wtb.wp + 1) s.wtb.hw at hd
    rw [Wtb.forward_open hi ht, if_pos hd, decide_eq_false (not_lt.2 (le_of_lt hd)), Bool.and_false]
  · refine (execEncoderCount_forward (countForward_iff.2 hf)).trans ?_
    change sdiff (s.wtb.wp + 1) s.wtb.hw ≤ 0 at hd
    have he : sdiff (s.wtb.wp + 1) s.wtb.hw < 0 ↔ s.wtb.wp + 1 ≠ s.wtb.hw := by
      rw [Ne, ← sdiff_eq_zero]
      omega
    rw [Wtb.forward_open hi ht, if_neg (not_lt.2 hd), decide_eq_decide.2 he]
  · refine (execEncoderCount_backward (mt countForward_iff.1 hf) (reversedTooFar_eq_false (.inl ?_))).trans ?_
    · refine parked_running ?_
      show s.wtb.backward.line = _ ∨ s.wtb.backward.line = _
      rwa [Wtb.backward_line]
    · rw [Wtb.backward_parked hl]
  · refine (execEncoderCount_backward (mt countForward_iff.1 hf) (reversedTooFar_eq_false ?_)).trans ?_
    · rw [Wtb.backward_open hi ht]
      exact h.imp_left fun h => by simp [State.running, h]
    · rw [Wtb.backward_open hi ht]
  · intro ch pins s hp hf hx hd hr
    obtain rfl : pins = s.pins.toggle ch := by cases ch <;> exact hp
    have hgo : s.wtb.line = .run ∨ s.wtb.line = .hold → execEncoderCount ch s = .next (reverseExcursion
        { s with
          pins := s.pins.toggle ch
          wtb := { s.wtb with wp := s.wtb.wp - 1, netCount := s.wtb.netCount - 1, newWeb := false } }) := by
      intro hl
      have hb : s.wtb.backward =
          { s.wtb with wp := s.wtb.wp - 1, netCount := s.wtb.netCount - 1, newWeb := false } :=
        Wtb.backward_open (by rcases hl with h | h <;> simp [h]) (by rcases hl with h | h <;> simp [h])
      rw [execEncoderCount_excursion (mt countForward_iff.1 hf), hb]
      rw [hb]
      exact reversedTooFar_eq_true (by rcases hl with h | h <;> simp [State.running, h]) hx hd
    refine ⟨_, rfl, fun hl => (hgo (.inr hl)).trans (congrArg _ (reverseExcursion_hold hr hl)),
      fun hl => ⟨_, (hgo (.inl hl)).trans (congrArg _ (reverseExcursion_run hr hl)), noticeLineState_enterHold _ _ _,
        ?_, ?_, fun he => ?_⟩⟩
    · simpa using (enterHold_outOfStep _ _).ne.1
    · simpa using (enterHold_outOfStep _ _).ne.2
    · rw [noticeLineState_epu]
      exact enterHold_npc _ (by simpa using he)

/-! ### The speed sampler -/

/-- Acting on the re-engage flag changes the emboss unit alone (R87). -/
theorem actOnReengage_eq (s : State) : actOnReengage s = { s with epu := (actOnReengage s).epu } := by
  unfold actOnReengage
  split
  · split <;> rfl
  · rfl

/-- The re-engage flag is acted on (R87). -/
theorem actOnReengage_acts {s : State} (hs : s.epu.state = .opened) (hw : s.epu.releaseWatch = none)
    (hl : s.wtb.line = .run) (hr : s.epu.reengage = true) : actOnReengage s =
      if s.epu.params.autoReengage then enterSyncing s else s.onEpu (fun e => { e with reengage := false }) :=
  if_pos ⟨hs, hw, hl, hr⟩

theorem actOnReengage_stands {s : State}
    (h : s.epu.state ≠ .opened ∨ s.epu.releaseWatch.isSome = true ∨ s.epu.reengage = false) : actOnReengage s = s := by
  refine if_neg ?_
  rintro ⟨hs, hw, -, hr⟩
  rcases h with h | h | h
  · exact h hs
  · simp [hw] at h
  · simp [hr] at h

theorem Evu.routeFor_congr {e e' : Evu} (h : e'.routes = e.routes) (ev : Event) : e'.routeFor ev = e.routeFor ev := by
  simp [Evu.routeFor, h]

/-- A run that ends with CAL-DONE bound to no slot moves neither the line nor the emboss unit (R124). -/
theorem endCalibrationEarly_unrouted {s : State} (h : s.smu.calRun = none ∨ s.evu.routeFor .calDone = none) :
    (endCalibrationEarly s).wtb = s.wtb ∧ (endCalibrationEarly s).epu = s.epu := by
  rcases h with h | h
  · rw [endCalibrationEarly_none h]
    exact ⟨rfl, rfl⟩
  · have hu : ∀ (p1 p2 : Nat) (t : State), t.evu = s.evu → t.wtb = s.wtb → t.epu = s.epu →
        (raise .calDone p1 p2 t).wtb = s.wtb ∧ (raise .calDone p1 p2 t).epu = s.epu := by
      intro p1 p2 t he hw hp
      rw [raise_unrouted _ _ _ _ (he ▸ h)]
      simp [hw, hp]
    unfold endCalibrationEarly
    split
    · exact ⟨rfl, rfl⟩
    · dsimp only
      split
      · split
        · exact hu _ _ _ (by simp) (by simp) (by simp)
        all_goals exact hu _ _ _ rfl rfl rfl
      · exact hu _ _ _ rfl rfl rfl

theorem Wtb.sample_v {w : Wtb} (h : 0 ≤ w.netCount + w.s1 + w.s2 + w.s3) :
    (w.sample.v : Int) = min 255 ((w.netCount + w.s1 + w.s2 + w.s3) / 4) := by
  simp only [Wtb.sample, if_pos h]
  omega

theorem Wtb.sample_v_reverse {w : Wtb} (h : w.netCount + w.s1 + w.s2 + w.s3 < 0) : w.sample.v = 0 := by
  simp only [Wtb.sample, if_neg (not_le.2 h)]

theorem execSpeedSample_eq (s : State) : execSpeedSample s = .next
    (if s.wtb.line = .run ∧ s.wtb.autoHold = true ∧ s.wtb.sample.v < s.wtb.crawl then
      noticeLineState .crawl (enterHold true { s with wtb := s.wtb.sample })
    else if s.wtb.line = .hold ∧ s.wtb.resumeArmed = true ∧ s.wtb.crawl + 2 ≤ s.wtb.sample.v then
      actOnReengage (enterRun .speed { s with wtb := s.wtb.sample })
    else { s with wtb := s.wtb.sample }) := by
  have hl : (s.onWtb Wtb.sample).wtb.line = s.wtb.line := rfl
  unfold execSpeedSample
  dsimp only
  refine congrArg _ ?_
  split
  next h =>
    rw [hl] at h
    simp only [h, true_and, reduceCtorEq, false_and, if_false]
    rfl
  next h =>
    rw [hl] at h
    simp only [h, true_and, reduceCtorEq, false_and, if_false]
    rfl
  all_goals
    rename_i h
    rw [hl] at h
    simp only [h, reduceCtorEq, false_and, if_false]
    rfl

/-- Settles O14. -/
theorem speedSampleSetsSpeed : Obligations.SpeedSampleSetsSpeed := by
  intro s
  refine ⟨s.wtb.sample, rfl, Wtb.sample_v, Wtb.sample_v_reverse, fun hl ha hv => ?_, fun hl ha hv => ?_,
    fun hr hh => ?_⟩
  · refine ⟨_, (execSpeedSample_eq s).trans (congrArg _ (if_pos ⟨hl, ha, hv⟩)), noticeLineState_enterHold _ _ _, ?_, ?_⟩
    · simpa using (enterHold_outOfStep _ _).ne.1
    · simpa using (enterHold_outOfStep _ _).ne.2
  · refine ⟨_, (execSpeedSample_eq s).trans (congrArg _ ((if_neg (by simp [hl])).trans (if_pos ⟨hl, ha, hv⟩))), actOnReengage_eq _,
      fun h => ?_⟩
    obtain ⟨hw, he⟩ := endCalibrationEarly_unrouted (s := noticeLineState .speed
      { s with wtb := { s.wtb.sample with line := .run, resumeArmed := false } }) (by
        simpa [Evu.routeFor_congr (noticeLineState_evu_routes ..)] using h)
    have he : (enterRun .speed { s with wtb := s.wtb.sample }).epu = s.epu := he.trans (by simp)
    have hw : (enterRun .speed { s with wtb := s.wtb.sample }).wtb.line = .run := by
      rw [enterRun]
      exact (congrArg Wtb.line hw).trans (by simp)
    refine ⟨fun hs hrw hre => ?_, fun h => ?_⟩
    · rw [actOnReengage_acts (by rw [he, hs]) (by rw [he, hrw]) hw (by rw [he, hre]), he]
      refine ⟨fun hp => ?_, fun hp => ?_⟩
      · rw [if_pos hp]
        simp [enterSyncing, he]
      · rw [if_neg (by simp [hp])]
        simp [he]
    · rw [actOnReengage_stands (by rwa [he]), he]
  · refine (execSpeedSample_eq s).trans (congrArg _ ((if_neg ?_).trans (if_neg ?_)))
    · rintro ⟨hl, ha, hv⟩
      rcases hr hl with h | h
      · exact Bool.false_ne_true (h.symm.trans ha)
      · exact absurd hv (not_lt.2 h)
    · rintro ⟨hl, ha, hv⟩
      rcases hh hl with h | h
      · exact Bool.false_ne_true (h.symm.trans ha)
      · exact absurd hv (not_le.2 h)

end Sys2Proof.Machine
end

section
/-! The stop causes and the line's settings (chapter 1). -/

namespace Sys2Proof.Machine

/-! ### The entry into FAULT -/

/-- A unit that is not to engage again leaves step (R86). -/
theorem leaveStep_outOfStep {s : State} (hr : s.epu.reengage = false) : (leaveStep s).epu.outOfStep ∧
    (leaveStep s).epu.reengage = false ∧ (s.epu.state = .engaged → (leaveStep s).epu.npc = false ∧
      (leaveStep s).epu.state = if s.nipClosed then .releasing else .opened) ∧
    (s.epu.state = .syncing → (leaveStep s).epu.state = .opened) := by
  cases hs : s.epu.state with
  | none =>
    rw [leaveStep_stands (.inl hs)]
    exact ⟨.inl hs, hr, by simp, by simp⟩
  | opened =>
    rw [leaveStep_stands (.inr (.inl hs))]
    exact ⟨.inr (.inl hs), hr, by simp, by simp⟩
  | releasing =>
    rw [leaveStep_stands (.inr (.inr hs))]
    exact ⟨.inr (.inr hs), hr, by simp, by simp⟩
  | syncing =>
    rw [leaveStep_syncing hs]
    exact ⟨.inr (.inl rfl), hr, by simp, fun _ => rfl⟩
  | engaged =>
    rw [leaveStep_engaged hs]
    cases hn : s.nipClosed with
    | true =>
      rw [enterReleasing_closed hn]
      exact ⟨.inr (.inr rfl), hr, fun _ => ⟨rfl, rfl⟩, by simp⟩
    | false =>
      rw [enterReleasing_open hn (.inr hr)]
      exact ⟨.inr (.inl rfl), hr, fun _ => ⟨rfl, rfl⟩, by simp⟩

/-- The emboss unit leaves step at a stop and at the entry into FAULT (R86). -/
theorem embossAtStop_outOfStep (s : State) : (embossAtStop s).epu.outOfStep ∧ (embossAtStop s).epu.reengage = false ∧
    (s.epu.state = .engaged → (embossAtStop s).epu.npc = false ∧
      (embossAtStop s).epu.state = if s.nipClosed then .releasing else .opened) ∧
    (s.epu.state = .syncing → (embossAtStop s).epu.state = .opened) :=
  leaveStep_outOfStep (s := s.onEpu (fun e => { e with reengage := false })) rfl

/-- The blocks' fault changes leave the line, the emboss unit and the lanes to what comes before them (R16). -/
theorem shadeAtFault_rested {s : State} (hr : s.running = false) (he : s.epu.outOfStep) : Rested s (shadeAtFault s) :=
  (rested_head hr he).shadeAtFault s (.refl s)

/-- The scans, the spot in progress and the calibration run are ended (R102, R118, R124). -/
theorem shadeAtFault_ends (s : State) : (shadeAtFault s).smu.scan = none ∧ (shadeAtFault s).smu.overrun = none ∧
    (shadeAtFault s).smu.spotInProgress = none ∧ (shadeAtFault s).smu.calRun = none := by
  unfold shadeAtFault
  exact ⟨by simp, by simp, endCalibrationEarly_spotInProgress (abandonSpotIf_true_spotInProgress _),
    endCalibrationEarly_smu_calRun _⟩

/-- With no spot in progress and no calibration run the fault changes give no output (R16). -/
theorem shadeAtFault_quiet {s : State} (hs : s.smu.spotInProgress = none) (hc : s.smu.calRun = none) :
    shadeAtFault s = abandonScans s := by
  unfold shadeAtFault
  rw [abandonSpotIf_none ((abandonScans_spotInProgress s).trans hs), endCalibrationEarly_none (by simpa using hc)]

/-- A cause that is latched already latches nothing (R16). -/
theorem latchCause_latched {c : StopCause} {s : State} (h : s.wtb.latched.get c = true) : latchCause c s = s := if_pos h

/-- The latching of a cause, before the line acts (R16). -/
def noteCause (c : StopCause) (s : State) : State :=
  notice .stopCause c.code s.wtb.line.code (s.onWtb (fun w => { w with latched := w.latched.put c true }))

theorem latchCause_stays {c : StopCause} {s : State} (h : s.wtb.latched.get c = false)
    (hl : s.wtb.line = .idle ∨ s.wtb.line = .fault) : latchCause c s = noteCause c s := by
  refine (if_neg (by simp [h])).trans ?_
  rcases hl with hl | hl <;> simp only [noteCause, hl]

theorem latchCause_faults {c : StopCause} {s : State} (h : s.wtb.latched.get c = false)
    (hl : s.wtb.line = .thread ∨ s.wtb.line = .run ∨ s.wtb.line = .hold) :
    latchCause c s = enterFault (noteCause c s) := by
  refine (if_neg (by simp [h])).trans ?_
  rcases hl with hl | hl | hl <;> simp only [noteCause, hl]

/-- The state the blocks act on as the line enters FAULT (R16). -/
def reportFault (s : State) : State :=
  noticeLineState .stopCause (s.onWtb (fun w => { w with line := .fault, resumeArmed := false }))

theorem enterFault_eq (s : State) :
    enterFault s = disarmLanes (shadeAtFault (embossAtStop (zeroTrims (scannerOff (reportFault s))))) := rfl

theorem faultBlocks_rested (s : State) :
    Rested (embossAtStop (zeroTrims (scannerOff (reportFault s))))
      (shadeAtFault (embossAtStop (zeroTrims (scannerOff (reportFault s))))) :=
  shadeAtFault_rested (by simp [State.running, reportFault]) (embossAtStop_outOfStep _).1

theorem enterFault_wtb (s : State) :
    (enterFault s).wtb = { s.wtb with line := .fault, resumeArmed := false } := by
  rw [enterFault_eq, disarmLanes_wtb, (faultBlocks_rested s).wtb]
  simp [reportFault]

theorem enterFault_epu (s : State) : (enterFault s).epu = (embossAtStop (zeroTrims (scannerOff (reportFault s)))).epu := by
  rw [enterFault_eq, disarmLanes_epu, (faultBlocks_rested s).epu]

theorem enterFault_rku (s : State) :
    (enterFault s).rku = { s.rku with laneA := s.rku.laneA.disarm, laneB := s.rku.laneB.disarm } := by
  have h : (shadeAtFault (embossAtStop (zeroTrims (scannerOff (reportFault s))))).rku = s.rku :=
    (faultBlocks_rested s).rku.trans (by simp [reportFault])
  rw [enterFault_eq]
  exact congrArg (fun r : Rku => { r with laneA := r.laneA.disarm, laneB := r.laneB.disarm }) h

theorem enterFault_lane (s : State) (l : Lane) : (enterFault s).lane l = (s.lane l).disarm := by
  cases l <;> simp [State.lane, Rku.lane, enterFault_rku]

theorem LaneControl.disarm_state (k : LaneControl) :
    k.disarm.state = if k.state = .armed then .winding else k.state := rfl

/-! ### The stop causes -/

/-- The entry into FAULT of a latching cause, as STOP-CAUSE's receiver sees it (R16). -/
theorem latchCause_fault {c : StopCause} {s : State} (h : s.wtb.latched.get c = false)
    (hl : s.wtb.line = .thread ∨ s.wtb.line = .run ∨ s.wtb.line = .hold) :
    ∃ u, (latchCause c s).wtb =
        { s.wtb with latched := s.wtb.latched.put c true, line := .fault, resumeArmed := false } ∧
      u = noticeLineState .stopCause { notice .stopCause c.code s.wtb.line.code
        { s with wtb := { s.wtb with latched := s.wtb.latched.put c true } } with wtb := (latchCause c s).wtb } ∧
      latchCause c s = disarmLanes (shadeAtFault (embossAtStop (zeroTrims (scannerOff u)))) := by
  rw [latchCause_faults h hl]
  have hw : (enterFault (noteCause c s)).wtb =
      { s.wtb with latched := s.wtb.latched.put c true, line := .fault, resumeArmed := false } := by
    rw [enterFault_wtb]
    simp [noteCause]
  refine ⟨reportFault (noteCause c s), hw, ?_, rfl⟩
  rw [hw, reportFault]
  have hn : (noteCause c s).wtb = { s.wtb with latched := s.wtb.latched.put c true } := by simp [noteCause]
  simp only [State.onWtb, hn]
  rfl

theorem State.estActive_eq (s : State) : s.estActive = (s.pins.est != s.wtb.polarity.est) := rfl

theorem execEstActive_active {bit : Bool} {s : State} (h : bit ≠ s.wtb.polarity.est) :
    execEstActive bit s = .next (latchCause .estop { s with pins := { s.pins with est := bit } }) :=
  congrArg _ (if_pos (by simpa [State.estActive_eq] using h))

theorem execEstActive_inactive {bit : Bool} {s : State} (h : bit = s.wtb.polarity.est) :
    execEstActive bit s = .next { s with pins := { s.pins with est := bit } } :=
  congrArg _ (if_neg (by simp [State.estActive_eq, h]))

/-- The latches after a STOP ACK of the causes of a list without doubles (R17). -/
theorem Latches.get_acknowledge (s : State) (cs : List StopCause) (l : Latches) (c : StopCause) :
    (cs.foldl (fun l c => l.put c (l.get c && s.causePresent c)) l).get c =
      (l.get c && (decide (c ∉ cs) || s.causePresent c)) := by
  induction cs generalizing l with
  | nil => simp
  | cons d ds ih =>
    rw [List.foldl_cons, ih, Latches.get_put]
    by_cases h : d = c
    · subst h
      cases l.get d <;> cases s.causePresent d <;> simp
    · simp [h, Ne.symm h]

theorem StopCause.mem_all (c : StopCause) : c ∈ StopCause.all := by cases c <;> decide

theorem mem_causesNamed {code : Nat} {c : StopCause} : c ∈ causesNamed code ↔ (code == 0 || c.code == code) = true := by
  simp only [causesNamed, List.mem_filter, StopCause.mem_all, true_and]

theorem causePresent_eq (s : State) (c : StopCause) :
    s.causePresent c = ((c == .estop && s.estActive) || (c == .nipStuck && s.nipClosed)) := by
  cases c <;> simp [State.causePresent]

theorem State.acknowledge_get (s : State) (code : Nat) (c : StopCause) :
    (s.acknowledge (causesNamed code)).get c = (s.wtb.latched.get c &&
      (!(code == 0 || c.code == code) || (c == .estop && s.estActive) || (c == .nipStuck && s.nipClosed))) := by
  refine (Latches.get_acknowledge s _ _ c).trans ?_
  rw [causePresent_eq, Bool.or_assoc]
  congr 2
  rw [Bool.eq_iff_iff, decide_eq_true_iff, mem_causesNamed, Bool.not_eq_true', Bool.not_eq_true]

theorem causesNamed_any (code : Nat) (p : StopCause → Bool) :
    (causesNamed code).any p = StopCause.all.any (fun c => (code == 0 || c.code == code) && p c) := by
  rw [causesNamed, List.any_filter]

theorem Latches.bytes_eq (l : Latches) : l.bytes = le1 ((if l.estop then 1 else 0) + (if l.encoder then 2 else 0) +
    (if l.trackOverflow then 4 else 0) + (if l.winder then 8 else 0) + (if l.nipStuck then 16 else 0)) := by
  obtain ⟨a, b, c, d, e⟩ := l
  cases a <;> cases b <;> cases c <;> cases d <;> cases e <;> rfl

/-- Settles O15. -/
theorem stopCausesLatchAndClear : Obligations.StopCausesLatchAndClear := by
  refine ⟨fun s s' c i bit h => ?_, fun bit s h => execEstActive_inactive h, fun tag code s hc =>
    ⟨s.acknowledge (causesNamed code), s.acknowledge_get code, ?_⟩, fun tag code s hc => ?_⟩
  · obtain ⟨p, rfl, hx⟩ : ∃ p, s' = { s with pins := p } ∧ exec i s = .next (latchCause c s') := by
      rcases h with ⟨rfl, rfl, rfl⟩ | ⟨rfl, rfl, hb, rfl⟩
      · exact ⟨_, rfl, rfl⟩
      · exact ⟨_, rfl, execEstActive_active hb⟩
    rw [hx]
    refine ⟨fun hl => congrArg _ (latchCause_latched hl), fun hl hline => congrArg _ (latchCause_stays hl hline),
      fun hl hline => ?_⟩
    obtain ⟨u, hwtb, hu, ht⟩ := latchCause_fault (s := { s with pins := p }) hl hline
    have hf := latchCause_faults (s := { s with pins := p }) hl hline
    have hlane : ∀ l, (latchCause c { s with pins := p }).lane l = (s.lane l).disarm := by
      intro l
      rw [hf, enterFault_lane]
      cases l <;> simp [State.lane, Rku.lane, noteCause]
    have hstep := embossAtStop_outOfStep (zeroTrims (scannerOff (reportFault (noteCause c { s with pins := p }))))
    have hends := shadeAtFault_ends (embossAtStop (zeroTrims (scannerOff u)))
    refine ⟨_, u, rfl, hwtb, hu, ht, fun h1 h2 => ?_, ?_, ?_, ?_, ?_, fun he => ?_, ?_, ?_, ?_, ?_, ?_, fun l => ?_, ?_⟩
    · rw [ht, shadeAtFault_quiet (by simpa [hu] using h1) (by simpa [hu] using h2)]
      simp
    · rw [hf, enterFault_tku]
      simp [noteCause]
    · rw [hf, enterFault_rlu]
      simp [noteCause]
    · rw [hf, enterFault_epu]
      exact hstep.1.ne.1
    · rw [hf, enterFault_epu]
      exact hstep.1.ne.2
    · rw [hf, enterFault_epu]
      exact (hstep.2.2.1 (by simpa [reportFault, noteCause] using he)).1
    · rw [hf, enterFault_epu]
      exact hstep.2.1
    · rw [ht]
      exact hends.1
    · rw [ht]
      exact hends.2.1
    · rw [ht]
      exact hends.2.2.1
    · rw [ht]
      exact hends.2.2.2
    · rw [hlane]
      refine ⟨rfl, rfl, ?_, rfl, rfl, rfl⟩
      rw [LaneControl.disarm_state]
      split
      · simp
      · assumption
    · have hq := faultBlocks_rested (noteCause c { s with pins := p })
      refine ⟨by simp [hf, noteCause], by simp [hf, noteCause], by simp [hf, noteCause], by simp [hf, noteCause],
        by simp [hf, noteCause], ?_, ?_, by simp [hf, noteCause]⟩
      · rw [hf, enterFault_eq, disarmLanes_evu, hq.levels]
        simp [reportFault, noteCause]
      · rw [hf, enterFault_eq, disarmLanes_evu, hq.floor]
        simp [reportFault, noteCause]
  · show execStopAck tag code s = _
    unfold execStopAck
    rw [within_iff.2 ⟨Nat.zero_le _, hc⟩]
    simp only [causesNamed_any, Latches.bytes_eq]
    rfl
  · exact congrArg _ (if_pos (by rw [within_eq_false (.inr hc)]; rfl))

/-! ### The line's settings -/

/-- The settings are written, and EST is then read under its new polarity (R21). -/
theorem applyPolarity_eq (p : Polarity) (s : State) : applyPolarity p s = readEst { s with
    wtb := { s.wtb with polarity := p }
    tku := if p.scn = s.wtb.polarity.scn then s.tku
      else { s.tku with scnPrev := s.pins.scn != p.scn, halfSeen := none }
    epu := if p.eix = s.wtb.polarity.eix then s.epu else { s.epu with eixPrev := s.pins.eix != p.eix } } := by
  unfold applyPolarity
  dsimp only
  by_cases h1 : p.scn = s.wtb.polarity.scn <;> by_cases h2 : p.eix = s.wtb.polarity.eix <;>
    simp only [h1, h2, if_true, if_false] <;> rfl

theorem readEst_of_inactive {s : State} (h : s.estActive = false ∨ s.wtb.latched.estop = true) : readEst s = s := by
  unfold readEst
  split
  next ha =>
    rcases h with h | h
    · exact absurd (h.symm.trans ha) (by simp)
    · exact latchCause_latched h
  next => rfl

/-- INPUT SET with every field named and a change (R19, R21). -/
theorem execInputSet_changed (tag : Byte) {f : InputFields} {p : Polarity} {s : State} (hf : f.resolve = some p)
    (hp : p ≠ s.wtb.polarity) : execInputSet tag f s = .next
      (if s.wtb.line ≠ .idle ∧ s.wtb.line ≠ .thread then answer tag 0x09#8 .wrongState [] s
        else applyPolarity p (answer tag 0x09#8 .ok [] s)) := by
  simp only [execInputSet, hf, if_neg hp]

/-- Settles O16. -/
theorem lineSettingsAreWritten : Obligations.LineSettingsAreWritten := by
  refine ⟨⟨fun tag crawl h s h1 h2 => ?_, fun tag crawl h s hb => ?_⟩, fun tag f p s hf hp => ⟨fun hl he => ?_,
    fun hl he hx => ?_, fun hi ht => ?_⟩, fun tag f s hf => ?_, fun tag f s hf => ?_⟩
  · exact congrArg _ (if_neg (by rw [within_iff.2 ⟨h1, h2⟩]; decide))
  · show execLineSet tag crawl h s = _
    unfold execLineSet
    cases h with
    | none => rfl
    | some h =>
      have hw : crawl < 2 ∨ 40 < crawl := by simpa using hb
      rw [within_eq_false hw]
      rfl
  · refine (execInputSet_changed tag hf hp).trans ?_
    rw [if_neg (fun h => hl.elim h.1 h.2), applyPolarity_eq, readEst_of_inactive]
    · simp
    · refine he.imp (fun h => ?_) (fun h => by simpa using h)
      simp [State.estActive_eq, h]
  · have hl' : ¬(s.wtb.line ≠ .idle ∧ s.wtb.line ≠ .thread) := fun h => hl.elim h.1 h.2
    refine ⟨_, (execInputSet_changed tag hf hp).trans (congrArg _ (if_neg hl')), ?_⟩
    rw [applyPolarity_eq]
    generalize hr : ({ answer tag 0x09#8 .ok [] s with
      wtb := { (answer tag 0x09#8 .ok [] s).wtb with polarity := p }, tku := _, epu := _ } : State) = r
    have hw : r.wtb = { s.wtb with polarity := p } := by simp [← hr]
    have ha : r.estActive = true := by simpa [State.estActive_eq, ← hr] using he
    have hlat : r.wtb.latched.get .estop = false := by rw [hw]; exact hx
    rw [readEst, if_pos ha]
    rcases hl with hl | hl
    · rw [latchCause_stays hlat (.inl (by rw [hw]; exact hl))]
      refine ⟨by simp [noteCause, hw], by simp [noteCause, Latches.put], fun _ => by simp [noteCause, hw, hl], fun h => ?_⟩
      simp [hl] at h
    · rw [latchCause_faults hlat (.inl (by rw [hw]; exact hl)), enterFault_wtb]
      exact ⟨by simp [noteCause, hw], by simp [noteCause, Latches.put], fun h => by simp [hl] at h, fun _ => rfl⟩
  · exact (execInputSet_changed tag hf hp).trans (congrArg _ (if_pos ⟨hi, ht⟩))
  · show execInputSet tag f s = _
    simp only [execInputSet, hf]
  · show execInputSet tag f s = _
    simp only [execInputSet, hf, if_true]

end Sys2Proof.Machine
end

section
/-! Opening, starting and holding a job (R8 to R13). -/

namespace Sys2Proof.Machine

theorem Latches.any_iff (l : Latches) : l.any = true ↔ ∃ c, l.get c = true := by
  simp [Latches.any, List.any_eq_true, StopCause.mem_all]

theorem Latches.any_eq_false {l : Latches} (h : ∀ c, l.get c = false) : l.any = false := by
  rw [← Bool.not_eq_true, Latches.any_iff]
  rintro ⟨c, hc⟩
  exact Bool.false_ne_true ((h c).symm.trans hc)

/-- The job-open changes, unit by unit (R8). -/
theorem openBlocks_eq (s : State) : openBlocks s = { s with
    tku := { s.tku with nextRepeat := 1, readCursor := 1, estimate := 16 * s.tku.params.n }
    rlu := { s.rlu with channels := s.rlu.channels.map (fun c => { c with total := 0 }) }
    epu := { s.epu with
      state := if s.epu.params.configured then .opened else .none, lastPhase := none, lastOutcome := none }
    smu := { s.smu with results := [], drops := 0 }
    rku := { s.rku with history := [], readCursor := none, nextRoll := 1, wrapped := false }
    btu := { s.btu with batches := [], sequence := 1, breakPending := false, takes := 0 }
    lbp := { s.lbp with
      listA := s.lbp.listA.map (fun j => { j with linked := false })
      listB := s.lbp.listB.map (fun j => { j with linked := false })
      inFlight := s.lbp.inFlight.map (fun f => { f with job := { f.job with linked := false } }) } } := rfl

/-- THREAD is entered from the state a request's reply has left (R3). -/
theorem enterThread_answer (tag type : Byte) (st : Status) (s : State) : enterThread (answer tag type st [] s) =
    noticeLineState .request { answer tag type st [] s with
      wtb := { s.wtb with line := .thread, resumeArmed := false, hw := s.wtb.wp, newWeb := false } } := by
  simp only [enterThread, State.onWtb, answer_wtb]

/-- Settles O17. -/
theorem jobOpenOpensJob : Obligations.JobOpenOpensJob := by
  refine ⟨fun tag s => ⟨fun hl hc => ⟨_, rfl, ?_⟩, fun hl hc => ?_, fun hl => ?_⟩, fun tag s => ⟨fun hl => ?_, fun hl => ?_,
    fun hl => ?_, fun hr hh => ?_, fun hl => ?_⟩⟩
  · have hx : execJobOpen tag s = .next (openBlocks (enterThread (answer tag 0x01#8 .ok [] s))) :=
      congrArg _ ((if_neg (by simp [hl])).trans (if_neg (by simp [Latches.any_eq_false hc])))
    refine hx.trans ?_
    rw [enterThread_answer, openBlocks_eq]
    simp
  · exact congrArg _ ((if_neg (by simp [hl])).trans (if_pos (s.wtb.latched.any_iff.2 hc)))
  · exact congrArg _ (if_pos hl)
  · have hx : execJobHold tag s = .next (noticeLineState .request (enterHold false (answer tag 0x03#8 .ok [] s))) := by
      simp only [execJobHold, hl]
    refine ⟨_, hx, ?_, ?_, ?_, fun he => ?_⟩
    · conv_lhs => rw [noticeLineState_enterHold]
      simp only [answer_wtb]
    · simpa using (enterHold_outOfStep _ _).ne.1
    · simpa using (enterHold_outOfStep _ _).ne.2
    · rw [enterHold_stands]
      · simp
      · rw [answer_epu]
        tauto
  · have hx : execJobHold tag s = .next ((answer tag 0x03#8 .ok [] s).onWtb fun w => { w with resumeArmed := false }) := by
      simp only [execJobHold, hl]
    exact hx.trans (by simp only [State.onWtb, answer_wtb])
  · refine (congrArg _ (if_pos hl)).trans ?_
    simp only [State.onWtb, answer_wtb]
  · show execJobHold tag s = _
    unfold execJobHold
    split
    next h => exact absurd h hr
    next h => exact absurd h hh
    all_goals rfl
  · exact congrArg _ (if_neg hl)

/-! ### The checks of JOB START -/

theorem State.mem_activeStations {s : State} {k : Fin 8} : k ∈ s.activeStations ↔
    s.rlu.stations[k].mode = .monitor ∨ s.rlu.stations[k].mode = .auto := by
  simp [State.activeStations, Station.isActive]

theorem State.mem_enabledLanes {s : State} {l : Lane} : l ∈ s.enabledLanes ↔ (s.lane l).params.enabled = true := by
  cases l <;> simp [State.enabledLanes]

theorem windowFits_iff {r : RepeatParams} {p : StationParams} : windowFits r p = true ↔
    (r.wMaster : Int) < p.d - p.w ∧ (p.d : Int) + p.w < r.n - r.wMaster - (r.n * r.g / 1024 : Nat) := by
  simp only [windowFits, Bool.and_eq_true]
  exact and_congr decide_eq_true_iff decide_eq_true_iff

theorem windowsApart_iff {p q : StationParams} :
    windowsApart p q = true ↔ p.w + q.w < ((p.d : Int) - q.d).natAbs := decide_eq_true_iff

theorem windowsApart_symm {p q : StationParams} (h : windowsApart p q = true) : windowsApart q p = true := by
  rw [windowsApart_iff] at h ⊢
  omega

theorem checkLanes_iff {s : State} :
    (!s.enabledLanes.isEmpty) = true ↔ s.rku.laneA.params.enabled = true ∨ s.rku.laneB.params.enabled = true := by
  rw [Bool.not_eq_true', List.isEmpty_eq_false_iff_exists_mem]
  simp only [State.mem_enabledLanes]
  exact ⟨fun ⟨l, hl⟩ => by cases l <;> [exact .inl hl; exact .inr hl],
    fun h => h.elim (fun ha => ⟨.a, ha⟩) fun hb => ⟨.b, hb⟩⟩

/-- One index alone satisfies a test (R10, check 2). -/
theorem filter_finRange_length_eq_one {n : Nat} (p : Fin n → Bool) :
    ((List.finRange n).filter p).length = 1 ↔ ∃ k, p k = true ∧ ∀ j, p j = true → j = k := by
  rw [List.length_eq_one_iff]
  constructor
  · rintro ⟨k, hk⟩
    have hm : ∀ j, p j = true ↔ j = k := fun j => by
      have hj : j ∈ (List.finRange n).filter p ↔ j ∈ [k] := by rw [hk]
      simpa using hj
    exact ⟨k, (hm k).2 rfl, fun j => (hm j).1⟩
  · rintro ⟨k, hk, hu⟩
    refine ⟨k, ?_⟩
    have hp : p = fun j => j == k := by
      funext j
      rw [Bool.eq_iff_iff, beq_iff_eq]
      exact ⟨hu j, fun h => h ▸ hk⟩
    rw [hp, List.filter_beq, List.count_eq_one_of_mem (List.nodup_finRange n) (List.mem_finRange k)]
    rfl

theorem checkWindows_iff {r : RepeatParams} {s : State} : checkWindows r s = true ↔
    (∀ k : Fin 8, s.rlu.stations[k].mode = .monitor ∨ s.rlu.stations[k].mode = .auto →
      windowFits r s.rlu.stations[k].params = true) ∧
    (∀ j k : Fin 8, j ≠ k → (s.rlu.stations[j].mode = .monitor ∨ s.rlu.stations[j].mode = .auto) →
      (s.rlu.stations[k].mode = .monitor ∨ s.rlu.stations[k].mode = .auto) →
      windowsApart s.rlu.stations[j].params s.rlu.stations[k].params = true) := by
  have hn : s.activeStations.Nodup := (List.nodup_finRange 8).filter _
  simp only [checkWindows, Bool.and_eq_true, List.all_map, List.all_eq_true, State.mem_activeStations,
    Function.comp_apply, decide_eq_true_eq, List.pairwise_map]
  refine and_congr_right fun _ => ⟨fun h j k hjk hj hk => ?_, fun h => ?_⟩
  · have : Std.Symm fun j k : Fin 8 => windowsApart s.rlu.stations[j].params s.rlu.stations[k].params = true :=
      ⟨fun _ _ => windowsApart_symm⟩
    exact h.forall (State.mem_activeStations.2 hj) (State.mem_activeStations.2 hk) hjk
  · exact hn.pairwise_of_forall_ne fun j hj k hk hjk =>
      h j k hjk (State.mem_activeStations.1 hj) (State.mem_activeStations.1 hk)

theorem firstFailing_none {s : State} {r : RepeatParams} (h : ∀ c, 1 ≤ c → c ≤ 9 → checkHolds r s c = true) :
    firstFailing jobStartChecks r s = none := by
  refine List.find?_eq_none.2 fun c hc => ?_
  have hb : 1 ≤ c ∧ c ≤ 9 := by
    simp only [jobStartChecks, List.mem_cons, List.not_mem_nil, or_false] at hc
    omega
  simp [h c hb.1 hb.2]

theorem firstFailing_some {s : State} {r : RepeatParams} {code : Nat} (h1 : 1 ≤ code) (h9 : code ≤ 9)
    (hf : checkHolds r s code = false) (hb : ∀ c, 1 ≤ c → c < code → checkHolds r s c = true) :
    firstFailing jobStartChecks r s = some code := by
  have hl : jobStartChecks = List.range' 1 9 := rfl
  refine List.find?_eq_some_iff_append.2 ⟨by simp [hf], List.range' 1 (code - 1), List.range' (code + 1) (9 - code), ?_,
    fun c hc => ?_⟩
  · rw [hl]
    have h := List.range'_append_1 (s := 1) (m := code - 1) (n := 10 - code)
    rw [show code - 1 + (10 - code) = 9 by omega, show 1 + (code - 1) = code by omega,
      show 10 - code = (9 - code) + 1 by omega, List.range'_succ] at h
    exact h.symm
  · obtain ⟨hc1, hc2⟩ := List.mem_range'_1.1 hc
    simp [hb c hc1 (by omega)]

/-- The changes as the track starts, unit by unit (R9). -/
theorem startTrack_eq (s : State) : startTrack s = { s with
    wtb := { s.wtb with excursion := false }
    tku := { s.tku with
      estimate := 16 * s.tku.params.n, scanner := .acquire, scnPrev := s.scnActive, halfSeen := none
      coastCount := 0, stray := 0 }
    rlu := (startTrack s).rlu
    epu := { s.epu with lastPhase := none, lastOutcome := none, eixPrev := s.eixActive }
    smu := { s.smu with pointer := 1 }
    rku := { s.rku with laneA := s.rku.laneA.start, laneB := s.rku.laneB.start } } := rfl

@[simp] theorem startTrack_v (s : State) : (startTrack s).wtb.v = s.wtb.v := rfl

@[simp] theorem startTrack_crawl (s : State) : (startTrack s).wtb.crawl = s.wtb.crawl := rfl

/-- A station as the track starts (R54). -/
theorem startTrack_station (s : State) (k : Fin 8) : (startTrack s).rlu.stations[k] = { s.rlu.stations[k] with
    outRun := 0, missRun := 0, alarmArmed := true
    settle := if s.rlu.stations[k].mode = .auto then settleValue s.tku.path.d[k] (16 * s.tku.params.n)
      else s.rlu.stations[k].settle } := by
  simp only [startTrack, loadAutoSettles, State.onRku_rlu, State.onSmu_rlu, State.onEpu_rlu, State.onRlu_rlu]
  simp [Station.start, State.settleOf, seedEstimate]
  split <;> rfl

/-- Settles O18. -/
theorem jobStartStartsTrack : Obligations.JobStartStartsTrack := by
  refine ⟨fun tag s hl hc => ?_, fun tag s code hl h1 h9 hf hb => ?_, fun tag s hl => ?_, fun r s => ⟨?_, ?_, ?_, ?_, ?_,
    ?_, ?_, ?_, ?_⟩⟩
  · have hx : execJobStart tag s = .next (enterRunning (startTrack (answer tag 0x02#8 .ok [] s))) := by
      simp only [execJobStart, hl, ne_eq, not_true_eq_false, if_false, firstFailing_none hc]
    refine ⟨startTrack (answer tag 0x02#8 .ok [] s), ?_, ?_, fun k => ?_, fun hv => ?_, fun hv => ?_⟩
    · conv_lhs => rw [startTrack_eq]
      simp [State.scnActive, State.eixActive, LaneControl.start]
    · simp [startTrack, loadAutoSettles, seedEstimate]
    · rw [startTrack_station]
      simp
    · refine hx.trans (congrArg _ ((if_pos ?_).trans rfl))
      simpa using hv
    · refine hx.trans (congrArg _ ((if_neg ?_).trans rfl))
      simpa using hv
  · show execJobStart tag s = _
    simp only [execJobStart, hl, ne_eq, not_true_eq_false, if_false, firstFailing_some h1 h9 hf hb]
  · exact congrArg _ (if_pos hl)
  · simp [checkHolds]
  · simp only [checkHolds, beq_iff_eq, filter_finRange_length_eq_one]
  · simp only [checkHolds, checkWindows_iff, windowFits_iff, windowsApart_iff]
  · simp [checkHolds]
  · simp [checkHolds, checkPath, and_assoc]
  · simp [checkHolds, checkTrackLength, List.all_eq_true, State.mem_enabledLanes]
  · exact checkLanes_iff
  · simp [checkHolds, List.all_eq_true, State.mem_enabledLanes]
  · simp [checkHolds, or_iff_not_imp_left]

end Sys2Proof.Machine
end

section
/-! Stopping a job and recovering from FAULT (R14, R18). -/

namespace Sys2Proof.Machine

/-! ### What head work leaves alone while no track runs -/

theorem enterReleasing_reengage {s : State} (h : s.epu.reengage = false) : (enterReleasing s).epu.reengage = false := by
  cases hn : s.nipClosed with
  | true => rw [enterReleasing_closed hn]; exact h
  | false =>
    unfold enterReleasing
    rw [if_neg (by simp [hn]), actOnReengage_stands]
    · exact h
    · exact .inr (.inr h)

theorem leaveStep_reengage {s : State} (h : s.epu.reengage = false) : (leaveStep s).epu.reengage = false := by
  unfold leaveStep
  split
  · exact h
  · exact enterReleasing_reengage h
  all_goals exact h

theorem releaseEmboss_reengage (s : State) : (releaseEmboss s).epu.reengage = false := by
  unfold releaseEmboss
  dsimp only
  split
  · rfl
  · exact enterReleasing_reengage rfl
  all_goals rfl

/-- An action that finds no track running and the re-engage flag clear leaves the flag clear (R178). -/
theorem runAction_reengage_of_stopped {s : State} (h : s.running = false) (he : s.epu.reengage = false) (slot : Fin 4)
    (a : RouteAction) (ls : List Lane) : (runAction slot a ls s).state.epu.reengage = false := by
  obtain ⟨hr, hh⟩ := running_eq_false.1 h
  cases a with
  | spot t =>
    cases t with
    | none => exact (congrArg Epu.reengage (spotTrigger_epu _ s)).trans he
    | some t =>
      simp only [runAction]
      split <;> simpa using he
  | cut t =>
    cases t with
    | lane l => exact (congrArg Epu.reengage (cutLane_epu l s)).trans he
    | event => exact (congrArg Epu.reengage (foldl_cutLane_epu ls s)).trans he
  | holdLine =>
    simp only [runAction]
    split
    next h => exact absurd h hr
    next h => exact absurd h hh
    all_goals exact he
  | releaseEmboss =>
    simp only [runAction]
    split <;> first | exact he | exact releaseEmboss_reengage s
  | newBatch => exact he

/-- The line, the lanes and the emboss settings are as in `r`, and the re-engage flag is clear. -/
structure Halted (r t : State) : Prop where
  wtb : t.wtb = r.wtb
  rku : t.rku = r.rku
  params : t.epu.params = r.epu.params
  reengage : t.epu.reengage = false

theorem halted_head {r : State} (hr : r.running = false) : HeadClosed (Halted r) := by
  have hraise : ∀ ev p1 p2 t, Halted r t → Halted r (raise ev p1 p2 t) := by
    intro ev p1 p2 t h
    have hr' : t.running = false := by
      unfold State.running
      rw [h.wtb]
      exact hr
    refine ⟨(raise_wtb_of_stopped hr' ..).trans h.wtb, (raise_rku_of_stopped hr' ..).trans h.rku,
      (raise_epu_params ..).trans h.params, ?_⟩
    exact (raise_frame (fun t => t.epu.reengage) (fun _ _ _ _ => by simp) (fun _ _ => by simp) ev p1 p2 t
      fun _ _ _ => (runAction_reengage_of_stopped hr' h.reengage ..).trans h.reengage.symm).trans h.reengage
  have hreply : ∀ x t, Halted r t → Halted r (pushReply x t) := fun x t h =>
    ⟨by simpa using h.wtb, by simpa using h.rku, by simpa using h.params, by simpa using h.reengage⟩
  exact ⟨hraise, hreply, fun _ _ _ ⟨h1, h2, h3, h4⟩ => ⟨h1, h2, h3, h4⟩, fun c t _ h => abandonSpot_keeps hraise
    (fun _ _ _ ⟨h1, h2, h3, h4⟩ => ⟨h1, h2, h3, h4⟩) (fun _ ⟨h1, h2, h3, h4⟩ => ⟨h1, h2, h3, h4⟩) hreply c t h⟩

/-! ### The reply path of a busy sender -/

/-- The sender sends `f`, and the replies wait as in `rs`, with later ones behind them. -/
def SendsOn (f : OutFrame) (rs : List Reply) (t : State) : Prop :=
  t.svl.sending = some f ∧ ∃ later, t.svl.replies = rs ++ later

theorem notice_svl_busy {ev : Event} {p1 p2 : Nat} {s : State} {f : OutFrame} (h : s.svl.sending = some f) :
    (notice ev p1 p2 s).svl = s.svl := by
  unfold notice
  dsimp only
  split
  · rfl
  · rw [pump_busy (show (s.onEvu _).svl.sending = some f from h)]
    rfl

theorem countRoute_svl_busy {slot : Fin 4} {s : State} {f : OutFrame} (h : s.svl.sending = some f) :
    (countRoute slot s).svl = s.svl := by
  unfold countRoute
  split
  · rfl
  · split
    · exact notice_svl_busy h
    · rfl

theorem raise_svl_busy {ev : Event} {p1 p2 : Nat} {s : State} {f : OutFrame} (h : s.svl.sending = some f) :
    (raise ev p1 p2 s).svl = s.svl := by
  refine raise_keeps (fun t => t.svl = s.svl) (fun _ _ _ t ht => (notice_svl_busy (by rw [ht, h])).trans ht)
    (fun _ _ _ h => h) ?_ ?_ ?_ ?_ ?_ (fun _ h => h) (fun _ t ht => (countRoute_svl_busy (by rw [ht, h])).trans ht)
    _ _ _ _ rfl
  all_goals
    intros
    simpa using by assumption

theorem pushReply_busy {r : Reply} {s : State} {f : OutFrame} (h : s.svl.sending = some f) :
    pushReply r s = s.onSvl (fun v => { v with replies := v.replies ++ [r] }) := pump_busy h

theorem sendsOn_head (f : OutFrame) (rs : List Reply) : HeadClosed (SendsOn f rs) := by
  have hraise : ∀ ev p1 p2 t, SendsOn f rs t → SendsOn f rs (raise ev p1 p2 t) := fun ev p1 p2 t h => by
    simpa only [SendsOn, raise_svl_busy h.1] using h
  have hreply : ∀ x t, SendsOn f rs t → SendsOn f rs (pushReply x t) := by
    rintro x t ⟨hf, later, hl⟩
    rw [pushReply_busy hf]
    exact ⟨hf, later ++ [x], by simp [hl]⟩
  exact ⟨hraise, hreply, fun _ _ _ h => h, fun c t _ h => abandonSpot_keeps hraise (fun _ _ _ h => h) (fun _ h => h)
    hreply c t h⟩

/-- A reply joins the path of a busy sender (R186). -/
theorem sendsOn_answer {tag type : Byte} {st : Status} {b : List Byte} {s : State} {f : OutFrame}
    (h : s.svl.sending = some f) :
    SendsOn f (s.svl.replies ++ [⟨.ordinary, tag, type, st, b, false⟩]) (answer tag type st b s) := by
  rw [answer, pushReply_busy h]
  exact ⟨h, [], by simp⟩

/-- A reply that comes to an idle link is on its way (R187). -/
theorem sendsOn_answer_idle {tag type : Byte} {st : Status} {b : List Byte} {s : State}
    (h : s.svl.sending = none) (hr : s.svl.replies = []) :
    SendsOn (Reply.frame ⟨.ordinary, tag, type, st, b, false⟩) [] (answer tag type st b s) := by
  rw [answer, pushReply_idle h hr]
  exact ⟨rfl, [], rfl⟩

theorem SendsOn.notice {f : OutFrame} {rs : List Reply} {s : State} (h : SendsOn f rs s) (ev : Event) (p1 p2 : Nat) :
    SendsOn f rs (notice ev p1 p2 s) := by
  simpa only [SendsOn, notice_svl_busy h.1] using h

/-! ### The output of results that nothing is bound to -/

/-- Two states that give results the same way: the buffer and its mode, the line, the notices and the link agree. -/
structure SameOutput (t w : State) : Prop where
  results : t.smu.results = w.smu.results
  params : t.smu.params = w.smu.params
  wtb : t.wtb = w.wtb
  evu : t.evu = w.evu
  svl : t.svl = w.svl

/-- The sender acts by the notices and the link alone (R187). -/
theorem pump_congr {t w : State} (he : t.evu = w.evu) (hv : t.svl = w.svl) :
    (pump t).evu = (pump w).evu ∧ (pump t).svl = (pump w).svl := by
  unfold pump
  rw [he, hv]
  split
  · exact ⟨he, hv⟩
  · simp [he, hv]
  · split <;> simp [he, hv]
  · exact ⟨he, hv⟩

theorem SameOutput.notice {t w : State} (h : SameOutput t w) (ev : Event) (p1 p2 : Nat) :
    SameOutput (notice ev p1 p2 t) (notice ev p1 p2 w) := by
  have ho : (Machine.notice ev p1 p2 t).evu = (Machine.notice ev p1 p2 w).evu ∧
      (Machine.notice ev p1 p2 t).svl = (Machine.notice ev p1 p2 w).svl := by
    unfold Machine.notice
    dsimp only
    rw [h.evu, h.wtb]
    split
    · exact ⟨h.evu, h.svl⟩
    · exact pump_congr (by simp [h.evu]) h.svl
  exact ⟨by simpa using h.results, by simpa using h.params, by simpa using h.wtb, ho.1, ho.2⟩

theorem SameOutput.raise {t w : State} (h : SameOutput t w) {ev : Event} (hu : w.evu.routeFor ev = none) (p1 p2 : Nat) :
    SameOutput (raise ev p1 p2 t) (raise ev p1 p2 w) := by
  rw [raise_unrouted _ _ _ _ hu, raise_unrouted _ _ _ _ (h.evu ▸ hu)]
  exact h.notice ..

/-- No route takes the occurrences of a result. -/
def Evu.leavesSpots (e : Evu) : Prop := e.routeFor .spotDone = none ∧ e.routeFor .spotOverrun = none

theorem raise_routes_of_unrouted {ev : Event} {p1 p2 : Nat} {s : State} (h : s.evu.routeFor ev = none) :
    (raise ev p1 p2 s).evu.routes = s.evu.routes := by
  rw [raise_unrouted _ _ _ _ h, notice_evu_routes]

theorem Evu.leavesSpots.congr {e e' : Evu} (h : e.leavesSpots) (hr : e'.routes = e.routes) : e'.leavesSpots :=
  ⟨(Evu.routeFor_congr hr _).trans h.1, (Evu.routeFor_congr hr _).trans h.2⟩

theorem SameOutput.results_set {t w : State} (h : SameOutput t w) (rs : List SpotResult) :
    SameOutput (t.onSmu (fun m => { m with results := rs })) (w.onSmu (fun m => { m with results := rs })) :=
  ⟨rfl, h.params, h.wtb, h.evu, h.svl⟩

/-- A result is offered the same way, and the routes stand (R116). -/
theorem SameOutput.offer {t w : State} (h : SameOutput t w) (hu : w.evu.leavesSpots) (r : SpotResult) :
    SameOutput (offerResult r t) (offerResult r w) ∧ (offerResult r w).evu.leavesSpots := by
  obtain ⟨hd, ho⟩ := hu
  unfold offerResult
  dsimp only
  rw [h.results, h.params]
  split
  · have h1 : SameOutput (t.onSmu (fun m => { m with results := m.results ++ [r] }))
        (w.onSmu (fun m => { m with results := m.results ++ [r] })) :=
      ⟨congrArg (· ++ [r]) h.results, h.params, h.wtb, h.evu, h.svl⟩
    exact ⟨h1.raise hd .., .congr ⟨hd, ho⟩ (raise_routes_of_unrouted hd)⟩
  · split
    · split
      next old rest _ =>
        have h1 := (h.results_set (rest ++ [r])).raise ho old.tag (old.number.getD 0)
        have h2 := Evu.leavesSpots.congr ⟨hd, ho⟩ (raise_routes_of_unrouted (p1 := old.tag) (p2 := old.number.getD 0)
          (s := w.onSmu (fun m => { m with results := rest ++ [r] })) ho)
        exact ⟨h1.raise h2.1 .., h2.congr (raise_routes_of_unrouted h2.1)⟩
      next => exact ⟨h.raise hd .., .congr ⟨hd, ho⟩ (raise_routes_of_unrouted hd)⟩
    · have h1 := h.raise ho r.tag (r.number.getD 0)
      have h2 := Evu.leavesSpots.congr ⟨hd, ho⟩ (raise_routes_of_unrouted (p1 := r.tag) (p2 := r.number.getD 0) ho)
      exact ⟨h1.raise h2.1 .., h2.congr (raise_routes_of_unrouted h2.1)⟩

/-- What the notices of a result and its place in the buffer keep, an offer keeps whose occurrences are not routed. -/
theorem offerResult_keeps_unrouted {P : State → Prop} (hn : ∀ ev p1 p2 t, P t → P (notice ev p1 p2 t))
    (hres : ∀ t rs, P t → P (t.onSmu (fun m => { m with results := rs }))) {s : State} (hu : s.evu.leavesSpots)
    (r : SpotResult) (h : P s) : P (offerResult r s) := by
  have hr : ∀ ev p1 p2 (t : State), t.evu.routeFor ev = none → P t → P (raise ev p1 p2 t) := fun ev p1 p2 t ht h => by
    rw [raise_unrouted _ _ _ _ ht]
    exact hn _ _ _ _ h
  have hover : ∀ p1 p2 q1 q2 (t : State), t.evu.leavesSpots → P t →
      P (raise .spotDone q1 q2 (raise .spotOverrun p1 p2 t)) := fun p1 p2 q1 q2 t ht h =>
    hr _ _ _ _ (ht.congr (raise_routes_of_unrouted ht.2)).1 (hr _ _ _ _ ht.2 h)
  unfold offerResult
  dsimp only
  split
  · exact hr _ _ _ _ hu.1 (hres _ _ h)
  · split
    · split
      · exact hover _ _ _ _ _ hu (hres _ _ h)
      · exact hr _ _ _ _ hu.1 h
    · exact hover _ _ _ _ _ hu h

/-- Such an offer leaves the queue, the standing context and the held stops. -/
theorem offerResult_queue {s : State} (hu : s.evu.leavesSpots) (r : SpotResult) :
    (offerResult r s).smu.contexts = s.smu.contexts ∧ (offerResult r s).smu.standing = s.smu.standing ∧
      (offerResult r s).smu.heldStops = s.smu.heldStops ∧ (offerResult r s).smu.params = s.smu.params :=
  offerResult_keeps_unrouted (P := fun t => t.smu.contexts = s.smu.contexts ∧ t.smu.standing = s.smu.standing ∧
    t.smu.heldStops = s.smu.heldStops ∧ t.smu.params = s.smu.params) (fun _ _ _ _ h => by simpa using h) (fun _ _ h => h)
    hu r ⟨rfl, rfl, rfl, rfl⟩

/-! ### The pending contexts that end MISSED -/

theorem takeFirst_none {p : SpotContext → Bool} {cs : List SpotContext} :
    takeFirst p cs = none ↔ cs.filter p = [] := by
  induction cs with
  | nil => simp [takeFirst]
  | cons c cs ih => by_cases h : p c <;> simp [takeFirst, h, ih]

theorem takeFirst_split {p : SpotContext → Bool} {cs rest : List SpotContext} {c : SpotContext}
    (h : takeFirst p cs = some (c, rest)) : p c = true ∧ ∃ pre post, cs = pre ++ c :: post ∧ rest = pre ++ post ∧
      pre.filter p = [] := by
  induction cs generalizing rest with
  | nil => simp [takeFirst] at h
  | cons x xs ih =>
    unfold takeFirst at h
    split at h
    next hx =>
      obtain ⟨rfl, rfl⟩ := Prod.mk.inj (Option.some.inj h)
      exact ⟨hx, [], _, rfl, rfl, rfl⟩
    next hx =>
      simp only [Option.map_eq_some_iff, Prod.exists, Prod.mk.injEq] at h
      obtain ⟨c', rest', h, rfl, rfl⟩ := h
      obtain ⟨hc, pre, post, rfl, rfl, hp⟩ := ih h
      exact ⟨hc, x :: pre, post, rfl, rfl, by simp [hx, hp]⟩

/-- With no context to end nothing happens. -/
theorem missAll_none {p : SpotContext → Bool} {s : State} (h : s.smu.contexts.filter p = []) : missAll p s = s := by
  unfold missAll
  cases s.smu.contexts.length with
  | zero => rfl
  | succ n => simp [missPending, takeFirst_none.2 h]

/-- The standing context is the last one taken, whether it is taken first or later (R111). -/
theorem standing_of_taken {p : SpotContext → Bool} {pre post : List SpotContext} {c : SpotContext} {keep : Bool}
    {standing : Option SpotContext} (hc : p c = true) (hpre : pre.filter p = []) :
    (if keep = true ∧ pre ++ post ≠ [] ∧ (∀ x ∈ pre ++ post, p x = true) then (pre ++ post).getLast?
      else if pre ++ post = [] ∧ keep = true then some c else standing) =
    if keep = true ∧ pre ++ c :: post ≠ [] ∧ (∀ x ∈ pre ++ c :: post, p x = true) then (pre ++ c :: post).getLast?
      else standing := by
  cases pre with
  | nil => cases post <;> cases keep <;> simp [hc]
  | cons x xs =>
    have hx : p x = false := by
      by_contra hx
      simp [hx] at hpre
    simp [hx]

/-- The contexts of a kind end MISSED in queue order, and in KEEP mode the last of a queue they empty stands (R111,
R118). -/
theorem missPending_spec (p : SpotContext → Bool) (fuel : Nat) {s w : State} (h : SameOutput s w)
    (hu : w.evu.leavesSpots) (hf : (s.smu.contexts.filter p).length ≤ fuel) :
    SameOutput (missPending p fuel s)
      (((s.smu.contexts.filter p).map (fun c => c.resultOf .missed)).foldl (fun w r => offerResult r w) w) ∧
    (missPending p fuel s).smu.contexts = s.smu.contexts.filter (fun c => !p c) ∧
    (missPending p fuel s).smu.standing =
      if s.smu.params.keep = true ∧ s.smu.contexts ≠ [] ∧ (∀ c ∈ s.smu.contexts, p c = true)
      then s.smu.contexts.getLast? else s.smu.standing := by
  induction fuel generalizing s w with
  | zero =>
    have hn : s.smu.contexts.filter p = [] := List.length_eq_zero_iff.1 (Nat.le_zero.1 hf)
    have ha : ∀ c ∈ s.smu.contexts, p c = false := by simpa using List.filter_eq_nil_iff.1 hn
    refine ⟨by rw [hn]; exact h, (List.filter_eq_self.2 fun c hc => by simp [ha c hc]).symm, (if_neg ?_).symm⟩
    rintro ⟨-, hne, hall⟩
    obtain ⟨c, hc⟩ := List.exists_mem_of_ne_nil _ hne
    exact Bool.false_ne_true ((ha c hc).symm.trans (hall c hc))
  | succ n ih =>
    cases ht : takeFirst p s.smu.contexts with
    | none =>
      have hn := takeFirst_none.1 ht
      have ha : ∀ c ∈ s.smu.contexts, p c = false := by simpa using List.filter_eq_nil_iff.1 hn
      have hs : missPending p (n + 1) s = s := by simp only [missPending, ht]
      refine ⟨by rw [hn, hs]; exact h, by rw [hs, List.filter_eq_self.2 (by simpa using ha)], ?_⟩
      rw [hs, if_neg]
      rintro ⟨-, hne, hall⟩
      obtain ⟨c, hc⟩ := List.exists_mem_of_ne_nil _ hne
      exact Bool.false_ne_true ((ha c hc).symm.trans (hall c hc))
    | some x =>
      obtain ⟨c, rest⟩ := x
      obtain ⟨hc, pre, post, hs, rfl, hpre⟩ := takeFirst_split ht
      have hm : missPending p (n + 1) s =
          missPending p n (endSpot c .missed (s.onSmu (fun m => m.consume c (pre ++ post)))) := by
        simp only [missPending, ht]
      obtain ⟨h1, hu1⟩ := SameOutput.offer (t := s.onSmu (fun m => m.consume c (pre ++ post)))
        ⟨h.results, h.params, h.wtb, h.evu, h.svl⟩ hu (c.resultOf .missed)
      obtain ⟨hq, hst, -, hpar⟩ := offerResult_queue (s := s.onSmu (fun m => m.consume c (pre ++ post))) (h.evu ▸ hu)
        (c.resultOf .missed)
      rw [hm]
      change (endSpot c .missed (s.onSmu (fun m => m.consume c (pre ++ post)))).smu.contexts = pre ++ post at hq
      change (endSpot c .missed _).smu.standing = (if pre ++ post = [] ∧ _ then _ else _) at hst
      change (endSpot c .missed _).smu.params = s.smu.params at hpar
      change SameOutput (endSpot c .missed _) _ at h1
      generalize endSpot c .missed (s.onSmu (fun m => m.consume c (pre ++ post))) = t at hq hst hpar h1
      have hfil : s.smu.contexts.filter p = c :: post.filter p := by simp [hs, hpre, hc]
      obtain ⟨i1, i2, i3⟩ := ih h1 hu1 (by rw [hq]; simpa [hfil, hpre] using hf)
      refine ⟨by rw [hfil]; simpa [hq, hpre] using i1, by rw [i2, hq, hs]; simp [hc], ?_⟩
      rw [i3, hq, hpar, hst, hs]
      exact standing_of_taken hc hpre

theorem missAll_spec (p : SpotContext → Bool) {s w : State} (h : SameOutput s w) (hu : w.evu.leavesSpots) :
    SameOutput (missAll p s)
      (((s.smu.contexts.filter p).map (fun c => c.resultOf .missed)).foldl (fun w r => offerResult r w) w) ∧
    (missAll p s).smu.contexts = s.smu.contexts.filter (fun c => !p c) ∧
    (missAll p s).smu.standing =
      if s.smu.params.keep = true ∧ s.smu.contexts ≠ [] ∧ (∀ c ∈ s.smu.contexts, p c = true)
      then s.smu.contexts.getLast? else s.smu.standing :=
  missPending_spec p _ h hu (List.length_filter_le ..)

@[simp] theorem missAll_smu_bus (p : SpotContext → Bool) (s : State) : (missAll p s).smu.bus = s.smu.bus :=
  missPending_keeps (fun t => t.smu.bus = s.smu.bus) p (fun _ _ _ h => by rw [endSpot_smu_bus]; exact h) _ s rfl
@[simp] theorem missAll_smu_scan (p : SpotContext → Bool) (s : State) : (missAll p s).smu.scan = s.smu.scan :=
  missPending_keeps (fun t => t.smu.scan = s.smu.scan) p (fun _ _ _ h => by rw [endSpot_smu_scan]; exact h) _ s rfl
@[simp] theorem missAll_smu_overrun (p : SpotContext → Bool) (s : State) : (missAll p s).smu.overrun = s.smu.overrun :=
  missPending_keeps (fun t => t.smu.overrun = s.smu.overrun) p (fun _ _ _ h => by rw [endSpot_smu_overrun]; exact h) _ s rfl

/-! ### The spots that JOB STOP and RECOVER end -/

theorem abandonScans_smu (s : State) : ∃ b a st, (abandonScans s).smu =
    { s.smu with scan := none, overrun := none, bus := b, active := a, staged := st } := by
  unfold abandonScans dropScanMeasurement
  split
  · split
    next b _ _ _ _ _ =>
      obtain ⟨a, st, h⟩ := applyStaged_smu b.slot (dropBus s)
      exact ⟨none, a, st, by rw [State.onSmu_smu, h]; rfl⟩
    all_goals exact ⟨_, _, _, rfl⟩
  · exact ⟨_, _, _, rfl⟩

theorem abandonScans_output {s w : State} (h : SameOutput s w) : SameOutput (abandonScans s) w := by
  obtain ⟨b, a, st, hm⟩ := abandonScans_smu s
  exact ⟨by rw [hm]; exact h.results, by rw [hm]; exact h.params, by simpa using h.wtb, by simpa using h.evu,
    by simpa using h.svl⟩

/-- The spot in progress gives its ABANDONED result, and no held stop a reply (R118). -/
theorem abandonSpot_offers {s w : State} (c : SpotContext) (h : SameOutput s w) (hu : w.evu.leavesSpots)
    (hh : s.smu.heldStops = []) :
    SameOutput (abandonSpot c s) (offerResult (c.resultOf .abandoned) w) ∧
      (abandonSpot c s).smu.contexts = s.smu.contexts ∧ (abandonSpot c s).smu.standing = s.smu.standing := by
  obtain ⟨hs, -⟩ := SameOutput.offer (t := dropBus s) ⟨h.results, h.params, h.wtb, h.evu, h.svl⟩ hu
    (c.resultOf .abandoned)
  obtain ⟨hq, hst, hheld, -⟩ := offerResult_queue (s := dropBus s) (h.evu ▸ hu) (c.resultOf .abandoned)
  obtain ⟨a, st, hm⟩ := applyStaged_smu c.slot (endSpot c .abandoned (dropBus s))
  have hr : abandonSpot c s =
      (applyStaged c.slot (endSpot c .abandoned (dropBus s))).onSmu (fun m => { m with heldStops := [] }) := by
    have hn : (applyStaged c.slot (endSpot c .abandoned (dropBus s))).smu.heldStops = [] := by
      rw [hm]
      exact hheld.trans hh
    simp only [abandonSpot, releaseStops, hn, List.foldl_nil]
  rw [hr]
  refine ⟨⟨?_, ?_, ?_, ?_, ?_⟩, ?_, ?_⟩
  · rw [State.onSmu_smu, hm]; exact hs.results
  · rw [State.onSmu_smu, hm]; exact hs.params
  · rw [State.onSmu_wtb, applyStaged_wtb]; exact hs.wtb
  · rw [State.onSmu_evu, applyStaged_evu]; exact hs.evu
  · rw [State.onSmu_svl, applyStaged_svl]; exact hs.svl
  · rw [State.onSmu_smu, hm]; exact hq
  · rw [State.onSmu_smu, hm]; exact hst

theorem abandonSpotIf_offers {s w : State} (q : SpotContext → Bool) (h : SameOutput s w) (hu : w.evu.leavesSpots)
    (hh : s.smu.heldStops = []) : ∃ w', w' = ((s.smu.spotInProgress.filter q).toList.map (fun c =>
        c.resultOf .abandoned)).foldl (fun w r => offerResult r w) w ∧ w'.evu.leavesSpots ∧
      SameOutput (abandonSpotIf q s) w' ∧ (abandonSpotIf q s).smu.contexts = s.smu.contexts ∧
      (abandonSpotIf q s).smu.standing = s.smu.standing ∧ (abandonSpotIf q s).smu.params = s.smu.params := by
  cases hc : s.smu.spotInProgress with
  | none => exact ⟨w, rfl, hu, by rwa [abandonSpotIf_none hc], by rw [abandonSpotIf_none hc]; exact ⟨rfl, rfl, rfl⟩⟩
  | some c =>
    cases hq : q c with
    | false =>
      refine ⟨w, ?_, hu, by rwa [abandonSpotIf_false hc hq], by rw [abandonSpotIf_false hc hq]; exact ⟨rfl, rfl, rfl⟩⟩
      rw [Option.filter_some_neg (by simp [hq])]
      rfl
    | true =>
      obtain ⟨h1, h2, h3⟩ := abandonSpot_offers c h hu hh
      refine ⟨_, ?_, (SameOutput.offer h hu (c.resultOf .abandoned)).2, ?_⟩
      · rw [Option.filter_some_pos hq]
        rfl
      · rw [abandonSpotIf_some hc hq]
        exact ⟨h1, h2, h3, h1.params.trans ((offerResult_queue hu _).2.2.2.trans h.params.symm)⟩

/-- The results of what JOB STOP and RECOVER end, in their order (R118; log 44). -/
theorem endedSpots_offers {s w : State} (q p : SpotContext → Bool) (h : SameOutput s w)
    (hu : w.evu.leavesSpots) (hh : s.smu.heldStops = []) :
    SameOutput (missAll p (abandonSpotIf q s)) (((s.smu.spotInProgress.filter q).toList.map (fun c =>
      c.resultOf .abandoned) ++ (s.smu.contexts.filter p).map (fun c => c.resultOf .missed)).foldl
        (fun w r => offerResult r w) w) ∧
    (missAll p (abandonSpotIf q s)).smu.contexts = s.smu.contexts.filter (fun c => !p c) ∧
    (missAll p (abandonSpotIf q s)).smu.standing =
      if s.smu.params.keep = true ∧ s.smu.contexts ≠ [] ∧ (∀ c ∈ s.smu.contexts, p c = true)
      then s.smu.contexts.getLast? else s.smu.standing := by
  obtain ⟨w', hw', hu', hs, hc, hst, hp⟩ := abandonSpotIf_offers q h hu hh
  have hm := missAll_spec p hs hu'
  rw [hc, hst, hp] at hm
  rwa [List.foldl_append, ← hw']

/-! ### JOB STOP and RECOVER -/

/-- What both requests enter THREAD with (R14, R18): the reply and LINE-STATE have joined. -/
def threadBy (tag type : Byte) (s : State) : State := enterThread (answer tag type .ok [] s)

/-- The rest of both requests: the spots with a record end, and the lanes drop their cuts (R118, R146, R147). -/
def leaveTrack (q : SpotContext → Bool) (y : State) : State := gapLanes (missAll SpotContext.isRecordBound (abandonSpotIf q y))

theorem threadBy_wtb (tag type : Byte) (s : State) : (threadBy tag type s).wtb =
    { s.wtb with line := .thread, resumeArmed := false, hw := s.wtb.wp, newWeb := false } := by
  simp [threadBy, enterThread]

theorem execJobStop_running {tag : Byte} {s : State} (h : s.wtb.line = .run ∨ s.wtb.line = .hold) :
    execJobStop tag s = .next (leaveTrack SpotContext.isTargeted
      (abandonScans (embossAtStop (emptyTrack (threadBy tag 0x05#8 s))))) :=
  congrArg _ (if_pos (by rcases h with h | h <;> simp [State.running, h]))

theorem execRecover_fault {tag : Byte} {s : State} (h : s.wtb.line = .fault) (hc : ∀ c, s.wtb.latched.get c = false) :
    execRecover tag s = .next (leaveTrack (fun _ => false) (embossAtRecover (emptyTrack (threadBy tag 0x07#8 s)))) := by
  refine congrArg _ ((if_neg (by simp [h])).trans ((if_neg (by simp [Latches.any_eq_false hc])).trans ?_))
  obtain he | ⟨c, -, hf, -⟩ := abandonSpotIf_cases (fun _ => false) (embossAtRecover (emptyTrack (threadBy tag 0x07#8 s)))
  · simp only [leaveTrack, he]
    rfl
  · exact absurd hf Bool.false_ne_true

theorem emptyTrack_tku_eq (s : State) : (emptyTrack s).tku = { s.tku with
    scanner := .off, halfSeen := none, coastCount := 0, track := [], departed := []
    cursors := ⟨none, none, none, none⟩, splices := [], readCursor := s.tku.nextRepeat } := rfl

/-- What both requests bring the part to before its spots end (R14, R18): the replied state `u` with the track emptied,
the emboss unit out of the track's work, and the measurement unit without scans at JOB STOP. -/
structure Emptied (s u y : State) : Prop where
  tku : y.tku = { s.tku with
    scanner := .off, halfSeen := none, coastCount := 0, track := [], departed := []
    cursors := ⟨none, none, none, none⟩, splices := [], readCursor := s.tku.nextRepeat }
  wtb : y.wtb = u.wtb
  rku : y.rku = s.rku
  output : SameOutput y u
  params : y.epu.params = s.epu.params
  reengage : y.epu.reengage = false
  queue : y.smu.contexts = s.smu.contexts ∧ y.smu.standing = s.smu.standing ∧ y.smu.heldStops = s.smu.heldStops ∧
    y.smu.params = s.smu.params
  spot : y.smu.spotInProgress = s.smu.spotInProgress
  rest : y.rlu = s.rlu ∧ y.btu = s.btu ∧ y.lbp = s.lbp ∧ y.pins = s.pins ∧ y.pending = s.pending

theorem emptied_stop (tag type : Byte) (s : State) :
    Emptied s (threadBy tag type s) (abandonScans (embossAtStop (emptyTrack (threadBy tag type s)))) where
  tku := by simp [emptyTrack_tku_eq, threadBy, enterThread]
  wtb := by simp
  rku := by simp [threadBy, enterThread]
  output := abandonScans_output ⟨by simp, by simp, by simp, by simp, by simp⟩
  params := by simp [threadBy, enterThread]
  reengage := by
    rw [abandonScans_epu]
    exact (embossAtStop_outOfStep _).2.1
  queue := by
    obtain ⟨b, a, st, hm⟩ := abandonScans_smu (embossAtStop (emptyTrack (threadBy tag type s)))
    rw [hm]
    simp [threadBy, enterThread]
  spot := (abandonScans_spotInProgress _).trans (by simp [threadBy, enterThread])
  rest := by simp [threadBy, enterThread]

theorem emptied_recover (tag type : Byte) (s : State) :
    Emptied s (threadBy tag type s) (embossAtRecover (emptyTrack (threadBy tag type s))) where
  tku := by simp [embossAtRecover, emptyTrack_tku_eq, threadBy, enterThread]
  wtb := by simp [embossAtRecover]
  rku := by simp [embossAtRecover, threadBy, enterThread]
  output := ⟨by simp [embossAtRecover], by simp [embossAtRecover], by simp [embossAtRecover],
    by simp [embossAtRecover], by simp [embossAtRecover]⟩
  params := by simp [embossAtRecover, threadBy, enterThread]
  reengage := rfl
  queue := by simp [embossAtRecover, threadBy, enterThread]
  spot := by simp [embossAtRecover, threadBy, enterThread]
  rest := by simp [embossAtRecover, threadBy, enterThread]

section
variable {s u y : State} (h : Emptied s u y) (q : SpotContext → Bool)
include h

omit h in
/-- A property that head work keeps holds of the spots' end. -/
theorem spotsEnd_keeps {P : State → Prop} (hP : HeadClosed P) (hy : P y) :
    P (missAll SpotContext.isRecordBound (abandonSpotIf q y)) := hP.missAll _ _ (hP.abandonSpotIf _ _ hy)

theorem Emptied.halted (hu : u.running = false) : Halted y (missAll SpotContext.isRecordBound (abandonSpotIf q y)) :=
  spotsEnd_keeps q (halted_head (by unfold State.running; rw [h.wtb]; exact hu)) ⟨rfl, rfl, rfl, h.reengage⟩

theorem Emptied.lane (hu : u.running = false) (l : Lane) : (leaveTrack q y).lane l = (s.lane l).disarm.gap := by
  have hr : (missAll SpotContext.isRecordBound (abandonSpotIf q y)).rku = s.rku := (h.halted q hu).rku.trans h.rku
  have hg : (leaveTrack q y).rku = { s.rku with laneA := s.rku.laneA.disarm.gap, laneB := s.rku.laneB.disarm.gap } :=
    congrArg (fun r : Rku => { r with laneA := r.laneA.disarm.gap, laneB := r.laneB.disarm.gap }) hr
  cases l <;> simp [State.lane, Rku.lane, hg]

theorem Emptied.sendsOn {f : OutFrame} {rs : List Reply} (hu : SendsOn f rs u) : SendsOn f rs (leaveTrack q y) := by
  have hy : SendsOn f rs y := by simpa only [SendsOn, h.output.svl] using hu
  exact spotsEnd_keeps q (sendsOn_head f rs) hy

theorem Emptied.quiet (hc : ∀ c ∈ s.smu.contexts, c.target = .immediate ∨ (c.target = .next ∧ c.bound = none))
    (hs : s.smu.spotInProgress = none) : leaveTrack q y = gapLanes y := by
  have hf : y.smu.contexts.filter SpotContext.isRecordBound = [] := by
    rw [h.queue.1, List.filter_eq_nil_iff]
    intro c hm
    rcases hc c hm with ht | ⟨ht, hb⟩
    · simp [SpotContext.isRecordBound, ht]
    · simp [SpotContext.isRecordBound, ht, hb]
  rw [leaveTrack, abandonSpotIf_none (h.spot.trans hs), missAll_none hf]

/-- The results, the queue and the output that the spots' end leaves (R118). -/
theorem Emptied.offers (hu : s.evu.leavesSpots) (hr : u.evu.routes = s.evu.routes) (hh : s.smu.heldStops = []) :
    SameOutput (missAll SpotContext.isRecordBound (abandonSpotIf q y))
      (((s.smu.spotInProgress.filter q).toList.map (fun c => c.resultOf .abandoned) ++
        (s.smu.contexts.filter SpotContext.isRecordBound).map (fun c => c.resultOf .missed)).foldl
          (fun w r => offerResult r w) u) ∧
    (leaveTrack q y).smu.contexts = s.smu.contexts.filter (fun c => !c.isRecordBound) ∧
    (leaveTrack q y).smu.standing =
      if s.smu.params.keep = true ∧ s.smu.contexts ≠ [] ∧ (∀ c ∈ s.smu.contexts, c.isRecordBound = true)
      then s.smu.contexts.getLast? else s.smu.standing := by
  obtain ⟨hc, hst, hheld, hp⟩ := h.queue
  have ho := endedSpots_offers q SpotContext.isRecordBound h.output (hu.congr hr) (hheld.trans hh)
  rw [h.spot, hc, hst, hp] at ho
  exact ho

end

theorem SpotContext.isRecordBound_iff (c : SpotContext) : c.isRecordBound = true ↔
    (∃ n, c.target = .number n) ∨ (c.target = .next ∧ c.bound.isSome = true) := by
  cases h : c.target <;> simp [SpotContext.isRecordBound, h]

theorem SpotContext.isTargeted_iff (c : SpotContext) : c.isTargeted = true ↔ c.target ≠ .immediate := by
  cases h : c.target <;> simp [SpotContext.isTargeted, h]

/-- The bus that JOB STOP leaves where a spot is in progress (R118). -/
theorem leaveTrack_bus {y : State} {c : SpotContext} (hy : y.smu.spotInProgress = some c) :
    (leaveTrack SpotContext.isTargeted y).smu.bus = if c.target = .immediate then y.smu.bus else none := by
  rw [leaveTrack, gapLanes_smu, missAll_smu_bus]
  split
  next ht => rw [abandonSpotIf_false hy (by simp [SpotContext.isTargeted, ht])]
  next ht => rw [abandonSpotIf_some hy ((SpotContext.isTargeted_iff c).2 ht), abandonSpot_smu_bus]

theorem abandonScans_bus_of_spot {s : State} {c : SpotContext} (h : s.smu.spotInProgress = some c) :
    (abandonScans s).smu.bus = s.smu.bus := by
  have hd : dropScanMeasurement s = s := by
    unfold dropScanMeasurement
    split
    next hb =>
      split
      next hu => exact absurd (h.symm.trans (Smu.spotInProgress_of_scan hb hu)) (by simp)
      all_goals rfl
    next => rfl
  rw [abandonScans, hd]
  rfl

theorem threadBy_stopped (tag type : Byte) (s : State) : (threadBy tag type s).running = false := by
  simp [State.running, threadBy_wtb]

theorem SendsOn.enterThread {f : OutFrame} {rs : List Reply} {s : State} (h : SendsOn f rs s) :
    SendsOn f rs (enterThread s) := SendsOn.notice (s := s.onWtb _) h ..

/-- What JOB STOP and RECOVER have in common (R14, R18). -/
theorem leaveTrack_spec {tag type : Byte} {s y : State} (q : SpotContext → Bool) (h : Emptied s (threadBy tag type s) y) :
    (leaveTrack q y).wtb = { s.wtb with line := .thread, resumeArmed := false, hw := s.wtb.wp, newWeb := false } ∧
    (leaveTrack q y).tku = { s.tku with
        scanner := .off, halfSeen := none, coastCount := 0, track := [], departed := []
        cursors := ⟨none, none, none, none⟩, splices := [], readCursor := s.tku.nextRepeat } ∧
    (leaveTrack q y).rlu = s.rlu ∧ (leaveTrack q y).epu.params = s.epu.params ∧ (leaveTrack q y).epu.reengage = false ∧
    (∀ l : Lane, ((leaveTrack q y).lane l).cut = none ∧ ((leaveTrack q y).lane l).force = false ∧
        ((leaveTrack q y).lane l).params = (s.lane l).params ∧ ((leaveTrack q y).lane l).turret = (s.lane l).turret ∧
        ((leaveTrack q y).lane l).state = (if (s.lane l).state = .armed then .winding else (s.lane l).state) ∧
        ((leaveTrack q y).lane l).roll =
          (s.lane l).roll.map (fun r => { r with flags := { r.flags with trackGap := true } })) ∧
    (leaveTrack q y).rku.history = s.rku.history ∧ (leaveTrack q y).rku.nextRoll = s.rku.nextRoll ∧
    (leaveTrack q y).btu.batches = s.btu.batches ∧ (leaveTrack q y).lbp = s.lbp ∧ (leaveTrack q y).pins = s.pins ∧
    (leaveTrack q y).pending = s.pending := by
  have hz := h.halted q (threadBy_stopped tag type s)
  obtain ⟨hrlu, hbtu, hlbp, hpins, hpend⟩ := h.rest
  refine ⟨?_, ?_, ?_, ?_, ?_, fun l => ?_, ?_, ?_, ?_, ?_, ?_, ?_⟩
  · exact (gapLanes_wtb _).trans (hz.wtb.trans (h.wtb.trans (threadBy_wtb ..)))
  · simpa [leaveTrack] using h.tku
  · simpa [leaveTrack] using hrlu
  · exact hz.params.trans h.params
  · exact hz.reengage
  · rw [h.lane q (threadBy_stopped tag type s)]
    exact ⟨rfl, rfl, rfl, rfl, rfl, rfl⟩
  · exact (gapLanes_rku_history _).trans (congrArg Rku.history (hz.rku.trans h.rku))
  · have hr : (missAll SpotContext.isRecordBound (abandonSpotIf q y)).rku = s.rku := hz.rku.trans h.rku
    exact (congrArg Rku.nextRoll hr :)
  · simpa [leaveTrack] using congrArg Btu.batches hbtu
  · simpa [leaveTrack] using hlbp
  · simpa [leaveTrack] using hpins
  · simpa [leaveTrack] using hpend

/-- A unit out of step stands through the spots' end (R178; log 38). -/
theorem leaveTrack_epu {y : State} (q : SpotContext → Bool) (hr : y.running = false) (he : y.epu.outOfStep) :
    (leaveTrack q y).epu = y.epu := (spotsEnd_keeps q (rested_head hr he) (.refl y)).epu

/-- What JOB STOP alone does to the emboss and the measurement unit (R86, R102, R118). -/
theorem stop_spec (tag : Byte) (s t : State) (ht : t = leaveTrack SpotContext.isTargeted
      (abandonScans (embossAtStop (emptyTrack (threadBy tag 0x05#8 s))))) :
    (s.epu.state = .engaged → t.epu.npc = false ∧ t.epu.state = (if s.nipClosed then .releasing else .opened)) ∧
    (s.epu.state = .syncing → t.epu.state = .opened) ∧ (t.smu.scan = none ∧ t.smu.overrun = none) ∧
    ∀ c, s.smu.spotInProgress = some c → t.smu.bus = if c.target = .immediate then s.smu.bus else none := by
  subst ht
  have hr : (abandonScans (embossAtStop (emptyTrack (threadBy tag 0x05#8 s)))).running = false := by
    simp [State.running, threadBy_wtb]
  have hs : (emptyTrack (threadBy tag 0x05#8 s)).epu = s.epu := by simp [threadBy, enterThread]
  have hn : (emptyTrack (threadBy tag 0x05#8 s)).nipClosed = s.nipClosed := by
    simp [State.nipClosed, threadBy, enterThread]
  obtain ⟨ho, -, he, hy⟩ := embossAtStop_outOfStep (emptyTrack (threadBy tag 0x05#8 s))
  rw [hs, hn] at he
  rw [hs] at hy
  have hepu := leaveTrack_epu SpotContext.isTargeted hr (by rwa [abandonScans_epu])
  rw [abandonScans_epu] at hepu
  have hE := emptied_stop tag 0x05#8 s
  refine ⟨fun h => by rw [hepu]; exact he h, fun h => by rw [hepu]; exact hy h, ?_, fun c hc => ?_⟩
  · simp [leaveTrack]
  · rw [leaveTrack_bus (hE.spot.trans hc), abandonScans_bus_of_spot (c := c)]
    · simp [threadBy, enterThread]
    · simpa [threadBy, enterThread] using hc

theorem recover_emboss (tag : Byte) {s : State} (h : s.epu.state = .releasing) :
    (leaveTrack (fun _ => false) (embossAtRecover (emptyTrack (threadBy tag 0x07#8 s)))).epu.state = .opened := by
  have hs : (embossAtRecover (emptyTrack (threadBy tag 0x07#8 s))).epu.state = .opened := by
    simp [embossAtRecover, threadBy, enterThread, h]
  rw [leaveTrack_epu]
  · exact hs
  · simp [State.running, embossAtRecover, threadBy_wtb]
  · exact .inr (.inl hs)

/-- The results that the obligation writes out are those of the ended contexts. -/
theorem abandoned_eq {s : State} {q : SpotContext → Bool} {abandoned : List SpotResult}
    (hn : (∀ c, s.smu.spotInProgress = some c → q c = false) → abandoned = [])
    (hs : ∀ c, s.smu.spotInProgress = some c → q c = true → abandoned = [c.resultOf .abandoned]) :
    (s.smu.spotInProgress.filter q).toList.map (fun c => c.resultOf .abandoned) = abandoned := by
  cases hc : s.smu.spotInProgress with
  | none => rw [hn (by simp [hc])]; rfl
  | some c =>
    cases hq : q c with
    | false => rw [hn (by simp [hc, hq]), Option.filter_some_neg (by simp [hq])]; rfl
    | true => rw [hs c hc hq, Option.filter_some_pos hq]; rfl

/-- Settles O20. -/
theorem stopAndRecoverEmptyTrack : Obligations.StopAndRecoverEmptyTrack := by
  refine ⟨fun tag type s i hi => ?_, fun tag s hr hh => congrArg _ (if_neg (by simp [State.running, hr, hh])),
    fun tag s hf => congrArg _ (if_pos hf), fun tag s hf hc => congrArg _ ((if_neg (by simp [hf])).trans
      (if_pos (s.wtb.latched.any_iff.2 hc)))⟩
  obtain ⟨q, y, hx, hE, hq, hemb, hsyn, hrel, hscan, hbus⟩ : ∃ q y, exec i s = .next (leaveTrack q y) ∧
      Emptied s (threadBy tag type s) y ∧
      (∀ c, q c = true ↔ i = .jobStop tag ∧ c.target ≠ .immediate) ∧
      (s.epu.state = .engaged → i = .jobStop tag → (leaveTrack q y).epu.npc = false ∧
        (leaveTrack q y).epu.state = (if s.nipClosed then .releasing else .opened)) ∧
      (s.epu.state = .syncing → i = .jobStop tag → (leaveTrack q y).epu.state = .opened) ∧
      (s.epu.state = .releasing → i = .recover tag → (leaveTrack q y).epu.state = .opened) ∧
      (i = .jobStop tag → (leaveTrack q y).smu.scan = none ∧ (leaveTrack q y).smu.overrun = none) ∧
      (∀ c, i = .jobStop tag → s.smu.spotInProgress = some c →
        (leaveTrack q y).smu.bus = if c.target = .immediate then s.smu.bus else none) := by
    rcases hi with ⟨rfl, rfl, hl⟩ | ⟨rfl, rfl, hl, hc⟩
    · obtain ⟨he, hs, hsc, hb⟩ := stop_spec tag s _ rfl
      exact ⟨_, _, execJobStop_running hl, emptied_stop .., fun c => by simp [SpotContext.isTargeted_iff],
        fun h _ => he h, fun h _ => hs h, fun _ h => by simp at h, fun _ => hsc, fun c _ => hb c⟩
    · exact ⟨_, _, execRecover_fault hl hc, emptied_recover .., fun c => by simp, fun _ h => by simp at h,
        fun _ h => by simp at h, fun h _ => recover_emboss tag h, fun h => by simp at h, fun _ h => by simp at h⟩
  obtain ⟨hwtb, htku, hrlu, hpar, hre, hlane, hhist, hroll, hbat, hrest⟩ := leaveTrack_spec q hE
  have hu : threadBy tag type s = noticeLineState .request
      { answer tag type .ok [] s with wtb := (leaveTrack q y).wtb } := by
    rw [hwtb]
    exact enterThread_answer ..
  refine ⟨leaveTrack q y, threadBy tag type s, hx, hwtb, hu, fun hc hs => ?_, fun hn hr => ?_, fun f hf => ?_, htku, hrlu,
    hpar, hre, hemb, hsyn, hrel, hscan, hbus, fun bound abandoned v hd ho hh hb hab0 hab1 hv => ?_, hlane, hhist, hroll,
    hbat, hrest⟩
  · rw [hE.quiet q hc hs]
    exact ⟨hE.output.svl, hE.output.evu⟩
  · exact (hE.sendsOn q (sendsOn_answer_idle hn hr).enterThread).1
  · obtain ⟨h1, later, h2⟩ := hE.sendsOn q (sendsOn_answer hf).enterThread
    exact ⟨h1, later, by rw [h2]; simp⟩
  · have hbd : bound = SpotContext.isRecordBound := funext fun c => Bool.eq_iff_iff.2 ((hb c).trans c.isRecordBound_iff.symm)
    have he : (s.smu.spotInProgress.filter q).toList.map (fun c => c.resultOf .abandoned) = abandoned :=
      abandoned_eq (fun hn => hab0 fun c hc => by
          have hnq := mt (hq c).2 (by simp [hn c hc])
          rcases hi with ⟨hi, -⟩ | ⟨hi, -⟩
          · exact .inr (by simpa [hi] using hnq)
          · exact .inl hi)
        fun c hc hqc => hab1 c ((hq c).1 hqc).1 hc ((hq c).1 hqc).2
    obtain ⟨hs, hc, hst⟩ := hE.offers q ⟨hd, ho⟩ (by simp [threadBy, enterThread]) hh
    rw [he] at hs
    subst hbd hv
    exact ⟨hc, hs.results, hst, hs.svl, hs.evu⟩

end Sys2Proof.Machine
end

section
/-! Little-endian fields and link frames (R184, R191). -/

namespace Sys2Proof.Machine

theorem ofLe_le1 (n : Nat) : ofLe (le1 n) = n % 256 := by simp [le1, ofLe]

theorem ofLe_le2 (n : Nat) : ofLe (le2 n) = n % 65536 := by
  simp only [le2, ofLe, BitVec.toNat_ofNat]
  omega

theorem ofLe_append (bs cs : List Byte) : ofLe (bs ++ cs) = ofLe bs + 256 ^ bs.length * ofLe cs := by
  induction bs with
  | nil => simp [ofLe]
  | cons b bs ih =>
    simp only [List.cons_append, ofLe, ih, List.length_cons, Nat.pow_succ]
    ring

@[simp] theorem length_le2 (n : Nat) : (le2 n).length = 2 := rfl

@[simp] theorem length_le4 (n : Nat) : (le4 n).length = 4 := rfl

theorem ofLe_le4 (n : Nat) : ofLe (le4 n) = n % 4294967296 := by
  rw [le4, ofLe_append, ofLe_le2, ofLe_le2, length_le2]
  omega

/-- A link frame whose LEN fits two bytes is read back as what it carries (R191). -/
theorem parseLink_linkFrame (type : Byte) {body : List Byte} (h : body.length + 1 < 65536) :
    parseLink (linkFrame type body) = some (type, body) := by
  have hl : ofLe (le2 (body.length + 1)) = body.length + 1 := by rw [ofLe_le2, Nat.mod_eq_of_lt h]
  simp only [linkFrame, lenAndCheck, le2, List.length_cons, List.cons_append, List.nil_append, parseLink] at hl ⊢
  simp [hl]

/-! ### Label states and the grant (R165, R168) -/

/-- The label state of the records of a roll number is written. -/
def Rku.labelled (k : Rku) (roll : Nat) (st : LabelState) : Rku :=
  { k with history := k.history.map (fun x => if x.number = roll then { x with label := st } else x) }

theorem Rku.labelled_labelled (k : Rku) (roll : Nat) (st st' : LabelState) :
    (k.labelled roll st).labelled roll st' = k.labelled roll st' := by
  simp only [Rku.labelled, List.map_map]
  congr 2
  funext x
  by_cases h : x.number = roll <;> simp [h]

theorem writeLabel_linked {j : LabelJob} (h : j.linked = true) (st : LabelState) (s : State) :
    writeLabel j st s = { s with rku := s.rku.labelled j.roll st } := if_pos h

theorem writeLabel_unlinked {j : LabelJob} (h : j.linked = false) (st : LabelState) (s : State) :
    writeLabel j st s = s := if_neg (by simp [h])

/-- While a job is in flight nothing is granted. -/
theorem grant_busy {s : State} (h : s.lbp.inFlight.isSome = true) : grant s = s := by
  unfold grant
  split
  next hn _ => simp [hn] at h
  next => rfl

theorem grant_empty {s : State} (ha : s.lbp.listA = []) (hb : s.lbp.listB = []) : grant s = s := by
  unfold grant
  split
  next hg => exact absurd ((Lbp.grantLane_eq_none _).2 ⟨ha, hb⟩) (by simp [hg])
  next => rfl

/-- The grant to a lane: the head job of its list goes out in PRINT (R168, R169). -/
theorem grant_lane {s : State} {l : Lane} {j : LabelJob} {js : List LabelJob} (hi : s.lbp.inFlight = none)
    (hg : s.lbp.grantLane = some l) (hl : s.lbp.list l = j :: js) :
    grant s = writeLabel j .printing { s with lbp := { s.lbp.putList l js with
      inFlight := some ⟨j, 1⟩, exchange := s.lbp.exchange + 1, lastGranted := l, timer := none
      printing := some (printFrame (s.lbp.exchange + 1) j) } } := by
  have he : (s.lbp.putList l js).exchange = s.lbp.exchange := by cases l <;> rfl
  simp only [grant, hi, hg, grantTo, hl, State.onLbp, Lbp.sendPrint, he]

/-- The grant goes to the lane other than the last granted where that has a job waiting (R168). -/
theorem Lbp.grantLane_other {b : Lbp} (h : b.list (otherLane b.lastGranted) ≠ []) :
    b.grantLane = some (otherLane b.lastGranted) := if_pos h

theorem Lbp.grantLane_same {b : Lbp} (ho : b.list (otherLane b.lastGranted) = []) (h : b.list b.lastGranted ≠ []) :
    b.grantLane = some b.lastGranted := (if_neg (by simp [ho])).trans (if_pos h)

theorem joinLabel_busy {j : LabelJob} {s : State} (hj : j.linked = true) (h : s.lbp.inFlight.isSome = true) :
    joinLabel j s = { s with
      rku := s.rku.labelled j.roll .queued, lbp := s.lbp.putList j.lane (s.lbp.list j.lane ++ [j]) } := by
  rw [joinLabel, writeLabel_linked hj, grant_busy]
  · rfl
  · cases hl : j.lane <;> simpa [hl, Lbp.putList] using h

theorem Lbp.putList_putList (b : Lbp) (l : Lane) (js ks : List LabelJob) :
    (b.putList l js).putList l ks = b.putList l ks := by cases l <;> rfl

theorem Lbp.putList_list (b : Lbp) (l : Lane) : b.putList l (b.list l) = b := by cases l <;> rfl

/-- On an idle link with empty lists a job goes out at once (R167, R168). -/
theorem joinLabel_idle {j : LabelJob} {s : State} (hj : j.linked = true) (hi : s.lbp.inFlight = none)
    (ha : s.lbp.listA = []) (hb : s.lbp.listB = []) :
    joinLabel j s = { s with
      rku := s.rku.labelled j.roll .printing
      lbp := { s.lbp with
        inFlight := some ⟨j, 1⟩, exchange := s.lbp.exchange + 1, lastGranted := j.lane, timer := none
        printing := some (printFrame (s.lbp.exchange + 1) j) } } := by
  have hg : (s.lbp.putList j.lane (s.lbp.list j.lane ++ [j])).grantLane = some j.lane := by
    cases hl : j.lane <;> cases hw : s.lbp.lastGranted <;>
      simp [Lbp.putList, Lbp.grantLane, Lbp.list, otherLane, ha, hb, hw]
  have hl : (s.lbp.putList j.lane (s.lbp.list j.lane ++ [j])).list j.lane = [j] := by
    cases hl : j.lane <;> simp [Lbp.putList, Lbp.list, ha, hb]
  have hn : (s.lbp.putList j.lane (s.lbp.list j.lane ++ [j])).inFlight = none := by
    cases j.lane <;> exact hi
  have he : s.lbp.list j.lane = [] := by cases j.lane <;> assumption
  have hp : (s.lbp.putList j.lane (s.lbp.list j.lane ++ [j])).putList j.lane [] = s.lbp := by
    rw [Lbp.putList_putList, ← he, Lbp.putList_list]
  have hx : (s.lbp.putList j.lane (s.lbp.list j.lane ++ [j])).exchange = s.lbp.exchange := by
    cases j.lane <;> rfl
  rw [joinLabel, writeLabel_linked hj, grant_lane (l := j.lane) (j := j) (js := []) hn hg hl, writeLabel_linked hj]
  simp only [State.onLbp, Rku.labelled_labelled, hp, hx]

/-! ### The label requests (R165, R171, R172) -/

/-- The states of the jobs of a list, all of one roll, written through their links. -/
theorem foldl_writeLabel {n : Nat} {st : LabelState} (js : List LabelJob) (s : State) (h : ∀ j ∈ js, j.roll = n) :
    js.foldl (fun t j => writeLabel j st t) s = { s with rku := { s.rku with
      history := s.rku.history.map (fun x =>
        if x.number = n ∧ (∃ j ∈ js, j.linked = true) then { x with label := st } else x) } } := by
  induction js generalizing s with
  | nil => simp
  | cons j js ih =>
    have hj : j.roll = n := h j (List.mem_cons_self ..)
    rw [List.foldl_cons, ih _ fun k hk => h k (List.mem_cons_of_mem _ hk)]
    cases hl : j.linked with
    | false => simp [writeLabel_unlinked hl, hl]
    | true =>
      rw [writeLabel_linked hl]
      simp only [Rku.labelled, List.map_map, List.mem_cons, exists_eq_or_imp, hl, true_or, and_true]
      congr 3
      funext x
      by_cases hx : x.number = n <;> simp [hj, hx]

theorem Lbp.queued_length (b : Lbp) (n : Nat) : (b.queued n).length =
    (b.listA.filter (fun j => j.roll == n)).length + (b.listB.filter (fun j => j.roll == n)).length := by
  simp [Lbp.queued]

theorem discardJobs_eq (n : Nat) (s : State) : discardJobs n s = { s with
    rku := { s.rku with history := s.rku.history.map (fun x =>
      if x.number = n ∧ (∃ j ∈ s.lbp.listA ++ s.lbp.listB, j.roll = n ∧ j.linked = true) then
        { x with label := .discarded } else x) }
    lbp := { s.lbp with
      listA := s.lbp.listA.filter (fun j => j.roll != n), listB := s.lbp.listB.filter (fun j => j.roll != n) } } := by
  rw [discardJobs, foldl_writeLabel]
  · simp only [Lbp.queued, List.mem_filter, beq_iff_eq, and_assoc]
    rfl
  · intro j hj
    simpa using (List.mem_filter.1 hj).2

/-- A reprint of a roll that the history holds (R171). -/
theorem execLabelReprint_found (tag : Byte) {n : Nat} {r : RollRecord} {s : State} (hn : 1 ≤ n ∧ n ≤ 65535)
    (hr : s.rku.history.find? (fun x => x.number == n) = some r) : execLabelReprint tag n s = .next
      (if Config.labelCapacity ≤ (s.lbp.list r.lane).length then answer tag 0x49#8 .full (le1 0) s
        else answer tag 0x49#8 .ok [] (joinLabel (buildJob s.lbp.params r) s)) := by
  refine congrArg _ ((if_neg (by simp [within_iff.2 hn])).trans ?_)
  simp only [hr]

/-- Settles O50. -/
theorem labelRequestsAreTaken : Obligations.LabelRequestsAreTaken := by
  refine ⟨fun tag f s => ⟨fun p hf => ?_, fun hf => ?_⟩, fun tag n s => ⟨fun hb => ?_, fun h1 h2 => ⟨fun hn => ?_,
    fun r j hr hj => ⟨fun hf => ?_, fun hf hi => ?_, fun hi ha hb => ?_⟩, fun ha hb => ⟨fun f hf hn => ?_, fun hn => ?_⟩,
    fun k hk h0 => ?_⟩⟩, fun p r => ⟨_, rfl, ?_⟩⟩
  · show execLabelSet tag f s = _
    simp only [execLabelSet, hf, State.onLbp]
  · show execLabelSet tag f s = _
    simp only [execLabelSet, hf]
  · have hw : (!within 1 65535 n) = true := by
      rw [Bool.not_eq_true', within_eq_false]
      omega
    exact ⟨congrArg _ (if_pos hw), congrArg _ (if_pos hw)⟩
  · refine congrArg _ ((if_neg (by simp [within_iff.2 ⟨h1, h2⟩])).trans ?_)
    have hx : s.rku.history.find? (fun r => r.number == n) = none := by simpa using hn
    simp only [hx]
  · refine (execLabelReprint_found tag ⟨h1, h2⟩ hr).trans (congrArg _ (if_pos hf))
  · refine (execLabelReprint_found tag ⟨h1, h2⟩ hr).trans (congrArg _ ((if_neg (by simpa [Config.labelCapacity] using hf)).trans (congrArg _ ?_)))
    rw [← hj, joinLabel_busy (by rw [hj]; rfl) hi]
    have hl : j.lane = r.lane := by rw [hj]; rfl
    have hroll : j.roll = n := by
      have hn : r.number = n := by simpa using List.find?_some hr
      rw [hj]
      exact hn
    rw [hl, hroll]
    cases r.lane <;> rfl
  · have he : s.lbp.list r.lane = [] := by cases r.lane <;> assumption
    refine (execLabelReprint_found tag ⟨h1, h2⟩ hr).trans (congrArg _ ((if_neg (by simp [he, Config.labelCapacity])).trans (congrArg _ ?_)))
    rw [← hj, joinLabel_idle (by rw [hj]; rfl) hi ha hb]
    have hl : j.lane = r.lane := by rw [hj]; rfl
    have hroll : j.roll = n := by
      have hn : r.number = n := by simpa using List.find?_some hr
      rw [hj]
      exact hn
    rw [hl, hroll]
    rfl
  · refine congrArg _ ((if_neg (by simp [within_iff.2 ⟨h1, h2⟩])).trans ((if_neg ?_).trans (if_pos ?_)))
    · rw [not_not, ← List.length_eq_zero_iff, Lbp.queued_length, ha, hb]
      rfl
    · simp [hf, hn]
  · refine congrArg _ ((if_neg (by simp [within_iff.2 ⟨h1, h2⟩])).trans ((if_neg ?_).trans (if_neg ?_)))
    · rw [not_not, ← List.length_eq_zero_iff, Lbp.queued_length, ha, hb]
      rfl
    · simpa using hn
  · refine congrArg _ ((if_neg (by simp [within_iff.2 ⟨h1, h2⟩])).trans ((if_pos ?_).trans ?_))
    · rw [ne_eq, ← List.length_eq_zero_iff, Lbp.queued_length, ← hk]
      exact h0
    · rw [Lbp.queued_length, ← hk, discardJobs_eq]
  · refine ⟨rfl, rfl, fun h => ?_, rfl, rfl, rfl, rfl, fun h => ⟨if_pos h, fun c hc => ?_⟩, fun h => if_neg h, fun h => ?_,
      fun h => ?_, fun h => ?_, fun h => ?_, fun h => ?_⟩
    · simp only [buildJob, labelLength, if_neg (not_lt.2 h)]
      omega
    · simp [buildJob, RollRecord.labelCode, h, hc]
    · rcases h with h | h | h <;> simp [buildJob, RollRecord.labelCode, h, codeHold]
    · rcases h with h | h <;> simp [buildJob, RollRecord.labelCode, h, codeReject]
    · simp [buildJob, RollRecord.labelCode, h, codePartial]
    · simp [buildJob, LabelParams.template, h]
    · simp [buildJob, LabelParams.template, h]

/-! ### The print exchange (R168 to R170) -/

theorem writeLabel_rku (j : LabelJob) (st : LabelState) (s : State) : writeLabel j st s = { s with
    rku := if j.linked = true then s.rku.labelled j.roll st else s.rku } := by
  cases hl : j.linked with
  | false => rw [writeLabel_unlinked hl]; rfl
  | true => rw [writeLabel_linked hl]; rfl

theorem endJob_eq (f : InFlight) (st : LabelState) (ev : Event) (s : State) : endJob f st ev s =
    grant { raise ev f.job.lane.code f.job.roll (writeLabel f.job st s) with
      lbp := { s.lbp with inFlight := none, printing := none, timer := none } } := by
  simp [endJob, State.onLbp, writeLabel_rku]

theorem failAttempt_again {f : InFlight} {s : State} (code : Byte) (ha : f.attempt = 1) (hr : s.lbp.params.retries = 1) :
    failAttempt f code s = { s with lbp := { s.lbp with
      lastFailure := code, inFlight := some { f with attempt := 2 }, exchange := s.lbp.exchange + 1, timer := none
      printing := some (printFrame (s.lbp.exchange + 1) f.job) } } := if_pos ⟨ha, hr⟩

theorem failAttempt_failed {f : InFlight} {s : State} (code : Byte) (h : f.attempt ≠ 1 ∨ s.lbp.params.retries ≠ 1) :
    failAttempt f code s = endJob f .failed .labelFailed (s.onLbp (fun b => { b with lastFailure := code })) := by
  refine if_neg ?_
  rintro ⟨ha, hr⟩
  exact h.elim (fun h => h ha) fun h => h hr

theorem execPrinterDone_other {frame : List Byte} {s : State}
    (h : ∀ e z, parseLink frame = some (0x81#8, [e, z]) → ¬(z = 0 ∧ e = s.lbp.exchange)) :
    execPrinterDone frame s = .next s := by
  unfold execPrinterDone
  split
  next hp =>
    refine congrArg _ (if_neg ?_)
    rintro ⟨rfl, hz, he⟩
    exact h _ _ hp ⟨hz, he⟩
  next => rfl

theorem execPrinterFault_other {frame : List Byte} {s : State}
    (h : ∀ e z, parseLink frame = some (0x82#8, [e, z]) → e ≠ s.lbp.exchange) :
    execPrinterFault frame s = .next s := by
  unfold execPrinterFault
  split
  next hp =>
    refine congrArg _ (if_neg ?_)
    rintro ⟨rfl, he⟩
    exact h _ _ hp he
  next => rfl

theorem parseLink_pair (type a b : Byte) : parseLink (linkFrame type [a, b]) = some (type, [a, b]) :=
  parseLink_linkFrame type (by simp)

theorem parseLink_pair_inj {type type' a b a' b' : Byte}
    (h : parseLink (linkFrame type [a, b]) = some (type', [a', b'])) : a = a' ∧ b = b' := by
  rw [parseLink_pair] at h
  simp only [Option.some.injEq, Prod.mk.injEq, List.cons.injEq, and_true] at h
  exact h.2

theorem execPrinterDone_done {f : InFlight} {s : State} (hf : s.lbp.inFlight = some f) :
    execPrinterDone (linkFrame 0x81#8 [s.lbp.exchange, 0]) s = .next (endJob f .done .labelDone s) := by
  simp [execPrinterDone, hf, parseLink_pair]

theorem execPrinterFault_fault {f : InFlight} {s : State} (code : Byte) (hf : s.lbp.inFlight = some f) :
    execPrinterFault (linkFrame 0x82#8 [s.lbp.exchange, code]) s = .next (failAttempt f code s) := by
  simp [execPrinterFault, hf, parseLink_pair]

theorem execLabelTimeout_running {f : InFlight} {s : State} (hf : s.lbp.inFlight = some f) (ht : s.lbp.timer.isSome = true) :
    execLabelTimeout s = .next (failAttempt f 0 s) := by
  obtain ⟨n, hn⟩ := Option.isSome_iff_exists.1 ht
  simp only [execLabelTimeout, hf, hn]

/-- Settles O51. -/
theorem printExchangeRuns : Obligations.PrintExchangeRuns := by
  refine ⟨fun frame s hi => ⟨?_, ?_, ?_⟩, fun f s hf => ?_⟩
  · show execPrinterDone frame s = _
    simp only [execPrinterDone, hi]
  · show execPrinterFault frame s = _
    simp only [execPrinterFault, hi]
  · show execLabelTimeout s = _
    simp only [execLabelTimeout, hi]
  intro written failed again done granted thenGrant
  have hgrant : ∀ u : State, u.lbp.inFlight = none → u.lbp.lastGranted = s.lbp.lastGranted →
      u.lbp.exchange = s.lbp.exchange → grant u = thenGrant u := by
    intro u hi hw hx
    have hto : ∀ l j js, u.lbp.grantLane = some l → u.lbp.list l = j :: js →
        grant u = granted l j (u.lbp.putList l js) u := fun l j js hg hl => by
      rw [grant_lane hi hg hl, writeLabel_rku, hx]
      rfl
    have hto' : ∀ l j js b, u.lbp.grantLane = some l → u.lbp.list l = j :: js → u.lbp.putList l js = b →
        grant u = granted l j b u := fun l j js b hg hl hb => hb ▸ hto l j js hg hl
    simp only [thenGrant]
    cases hl : s.lbp.lastGranted <;> rw [hl] at hw <;> cases ha : u.lbp.listA <;> cases hb : u.lbp.listB <;> dsimp only
    case a.nil.nil | b.nil.nil => exact grant_empty ha hb
    case a.nil.cons | a.cons.cons =>
      exact hto' .b _ _ _ (by simp [Lbp.grantLane, hw, otherLane, Lbp.list, hb]) hb (by simp [Lbp.putList, ha])
    case b.cons.nil | b.cons.cons =>
      exact hto' .a _ _ _ (by simp [Lbp.grantLane, hw, otherLane, Lbp.list, ha]) ha (by simp [Lbp.putList, hb])
    case a.cons.nil =>
      exact hto' .a _ _ _ (by simp [Lbp.grantLane, hw, otherLane, Lbp.list, ha, hb]) ha (by simp [Lbp.putList, hb])
    case b.nil.cons =>
      exact hto' .b _ _ _ (by simp [Lbp.grantLane, hw, otherLane, Lbp.list, ha, hb]) hb (by simp [Lbp.putList, ha])
  have hdone : endJob f .done .labelDone s = thenGrant { done with
      lbp := { s.lbp with inFlight := none, printing := none, timer := none } } := by
    have hd : done = raise .labelDone f.job.lane.code f.job.roll (writeLabel f.job .done s) :=
      congrArg (fun n => raise .labelDone n f.job.roll (writeLabel f.job .done s)) (by cases f.job.lane <;> rfl)
    refine (endJob_eq ..).trans (Eq.trans ?_ (hgrant _ rfl rfl rfl))
    rw [hd]
  have hfailed : ∀ code, f.attempt ≠ 1 ∨ s.lbp.params.retries ≠ 1 → failAttempt f code s = thenGrant (failed code) := by
    intro code h
    have hw : writeLabel f.job .failed (s.onLbp (fun b => { b with lastFailure := code })) =
        { written .failed with lbp := { s.lbp with lastFailure := code } } := by
      cases hl : f.job.linked <;> simp [writeLabel, written, hl, State.onLbp, State.onRku]
    have hd : failed code = { raise .labelFailed f.job.lane.code f.job.roll
        (writeLabel f.job .failed (s.onLbp (fun b => { b with lastFailure := code }))) with
        lbp := { s.lbp with lastFailure := code, inFlight := none, printing := none, timer := none } } := by
      rw [hw]
      exact congrArg (fun n => { raise .labelFailed n f.job.roll
        { written .failed with lbp := { s.lbp with lastFailure := code } } with
        lbp := { s.lbp with lastFailure := code, inFlight := none, printing := none, timer := none } })
          (by cases f.job.lane <;> rfl)
    refine (failAttempt_failed code h).trans ((endJob_eq ..).trans (Eq.trans ?_ (hgrant _ ?_ ?_ ?_)))
    · rw [hd]
      rfl
    all_goals rfl
  refine ⟨?_, fun z hz => ?_, fun e he => ?_, fun frame hp => ⟨?_, ?_⟩, fun frame type body hp => ⟨fun h => ?_, fun h => ?_⟩,
    fun code => ⟨fun h1 h2 => ?_, fun h => ?_, fun e he => ?_⟩, fun ht => ⟨fun h1 h2 => ?_, fun h => ?_⟩, fun ht => ?_,
    fun hp => ?_, fun hp => ?_⟩
  · exact (execPrinterDone_done hf).trans (congrArg _ hdone)
  · exact execPrinterDone_other fun e' z' h hx => hz ((parseLink_pair_inj h).2.trans hx.1)
  · exact execPrinterDone_other fun e' z' h hx => he ((parseLink_pair_inj h).1.trans hx.2)
  · exact execPrinterDone_other fun e' z' h => by simp [hp] at h
  · exact execPrinterFault_other fun e' z' h => by simp [hp] at h
  · refine execPrinterDone_other fun e' z' hx => ?_
    obtain ⟨rfl, rfl⟩ := Prod.mk.inj (Option.some.inj (hp.symm.trans hx))
    simp at h
  · refine execPrinterFault_other fun e' z' hx => ?_
    obtain ⟨rfl, rfl⟩ := Prod.mk.inj (Option.some.inj (hp.symm.trans hx))
    simp at h
  · exact (execPrinterFault_fault code hf).trans (congrArg _ (failAttempt_again code h1 h2))
  · exact (execPrinterFault_fault code hf).trans (congrArg _ (hfailed code h))
  · exact execPrinterFault_other fun e' z' h hx => he ((parseLink_pair_inj h).1.trans hx)
  · exact (execLabelTimeout_running hf ht).trans (congrArg _ (failAttempt_again 0 h1 h2))
  · exact (execLabelTimeout_running hf ht).trans (congrArg _ (hfailed 0 h))
  · show execLabelTimeout s = _
    simp only [execLabelTimeout, hf, ht]
  · obtain ⟨bytes, hb⟩ := Option.isSome_iff_exists.1 hp
    show execPrintSent s = _
    simp only [execPrintSent, hb]
    rfl
  · show execPrintSent s = _
    simp only [execPrintSent, hp]

end Sys2Proof.Machine
end

section
/-! Rolls: their judging and finalising, and the end of a job (R15, R140 to R143, R149). -/

namespace Sys2Proof.Machine

/-! ### Finalising (R140, R143, R167) -/

theorem enterHistory_room {x : RollRecord} {s : State} (h : s.rku.history.length < 64) : enterHistory x s =
    { s with rku := { s.rku with history := s.rku.history ++ [x] } } := if_pos h

theorem enterHistory_full {x old : RollRecord} {rest : List RollRecord} {s : State} (h : 64 ≤ s.rku.history.length)
    (hh : s.rku.history = old :: rest) : enterHistory x s = { s with
      rku := { s.rku with history := rest ++ [x] }, lbp := s.lbp.unlink (fun k => k.roll == old.number) } := by
  refine (if_neg (by simpa [Config.historyCapacity] using h)).trans ?_
  simp only [hh]
  rfl

@[simp] theorem enterHistory_lbp_params (x : RollRecord) (s : State) :
    (enterHistory x s).lbp.params = s.lbp.params := by
  unfold enterHistory
  split
  · rfl
  · split <;> rfl

/-- Finalising from the verdict and the batch table's answer on (R140). -/
theorem finalise_eq {how : Closing} {l : Lane} {r : OpenRoll} {closing : Pos} {s u w : State} {d : Disposition}
    {ans : Option (BatchCode × Nat)} {x : RollRecord} (hd : dispose how l r (sdiff closing r.opening) s = (u, d, ans))
    (hx : x = rollRecord l r (sdiff closing r.opening) d ans (if u.lbp.params.enabled l then .none else .off))
    (hw : w = raise .rollDone l.code r.number (enterHistory x u)) :
    finalise how l r closing s = if u.lbp.params.enabled l then offerLabel (buildJob u.lbp.params x) w else w := by
  subst hw hx
  simp only [finalise, hd, raise_lbp, enterHistory_lbp_params]

theorem offerLabel_full {j : LabelJob} {s : State} (hj : j.linked = true) (h : 4 ≤ (s.lbp.list j.lane).length) :
    offerLabel j s = raise .labelQueueFull j.lane.code j.roll { s with rku := s.rku.labelled j.roll .notQueued } := by
  refine (if_neg (by simpa [Config.labelCapacity] using h)).trans ?_
  rw [writeLabel_linked hj]

theorem offerLabel_room {j : LabelJob} {s : State} (h : (s.lbp.list j.lane).length < 4) :
    offerLabel j s = joinLabel j s := if_pos h

/-! ### The judging of a roll (R141, R142) -/

theorem RollCounts.mean_some {c : RollCounts} (h : 0 < c.samples) : c.mean = some ⟨(c.sums.r + c.samples / 2) / c.samples,
    (c.sums.g + c.samples / 2) / c.samples, (c.sums.b + c.samples / 2) / c.samples⟩ := if_neg (by omega)

/-- A mean rounded half up stays within the bound of its values. -/
theorem roundedMean_le {sum n : Nat} (hn : 0 < n) (h : sum ≤ 4095 * n) : (sum + n / 2) / n ≤ 4095 := by
  rw [← Nat.lt_succ_iff, Nat.div_lt_iff_lt_mul hn]
  omega

theorem roundedMean_bounds {sum n : Nat} (hn : 0 < n) :
    2 * sum < (2 * ((sum + n / 2) / n) + 1) * n ∧ 2 * ((sum + n / 2) / n) * n ≤ 2 * sum + n := by
  have h1 := Nat.div_add_mod (sum + n / 2) n
  have h2 := Nat.mod_lt (sum + n / 2) hn
  generalize (sum + n / 2) / n = q at *
  generalize (sum + n / 2) % n = m at *
  have h3 : (2 * q + 1) * n = 2 * (n * q) + n := by ring
  have h4 : 2 * q * n = 2 * (n * q) := by ring
  omega

theorem verdict_byCut {p : LaneParams} {r : OpenRoll} {len : Int} (hl : p.minLength ≤ len)
    (hd : r.counts.defectRepeats ≤ p.defectLimit) : verdict .byCut p r len =
      if r.flags.trackGap then .decided .holdGap
      else match r.counts.mean with
        | none => .decided .holdUnshaded
        | some m => .candidate m :=
  (if_neg (by simp)).trans ((if_neg (by omega)).trans (if_neg (by omega)))

theorem dispose_decided {how : Closing} {l : Lane} {r : OpenRoll} {len : Int} {s : State} {d : Disposition}
    (h : verdict how (s.lane l).params r len = .decided d) : dispose how l r len s = (s, d, none) := by
  simp only [dispose, h]

theorem dispose_candidate {how : Closing} {l : Lane} {r : OpenRoll} {len : Int} {s : State} {m : Rgb}
    (h : verdict how (s.lane l).params r len = .candidate m) : dispose how l r len s =
      ((takeCandidate ⟨r.number, l, len, m⟩ s).state,
        (if (takeCandidate ⟨r.number, l, len, m⟩ s).answer.isSome then .good else .holdUnbatched),
        (takeCandidate ⟨r.number, l, len, m⟩ s).answer) := by
  simp only [dispose, h]

section
variable {P : State → Prop} (hr : ∀ ev p1 p2 t, P t → P (raise ev p1 p2 t)) (hb : ∀ t f, P t → P (t.onBtu f))
include hr hb

theorem closeIfFull_keeps (n : Nat) (s : State) (h : P s) : P (closeIfFull n s) := by
  unfold closeIfFull
  split
  · exact h
  · split
    · exact hr _ _ _ _ (hb _ _ h)
    · exact h

theorem openBatch_keeps (c : Candidate) (s : State) (h : P s) : P (openBatch c s).state := by
  have hd : P (displaceBatch s) := by
    unfold displaceBatch
    split
    · exact h
    · split
      · exact h
      · exact hr _ _ _ _ (hb _ _ h)
  unfold openBatch
  split
  · exact h
  · exact closeIfFull_keeps hr hb _ _ (hr _ _ _ _ (hb _ _ hd))

/-- What an occurrence and every change of the batch table keep, the taking of a candidate keeps (R155). -/
theorem takeCandidate_keeps (c : Candidate) (s : State) (h : P s) : P (takeCandidate c s).state := by
  unfold takeCandidate
  dsimp only
  split
  · exact openBatch_keeps hr hb c _ (hb _ _ h)
  · split
    · exact closeIfFull_keeps hr hb _ _ (hb _ _ (hb _ _ h))
    · exact openBatch_keeps hr hb c _ (hb _ _ h)

end

@[simp] theorem takeCandidate_lbp (c : Candidate) (s : State) : (takeCandidate c s).state.lbp = s.lbp :=
  takeCandidate_keeps (P := fun t => t.lbp = s.lbp) (fun _ _ _ _ h => by simpa using h) (fun _ _ h => h) c s rfl

/-- Settles O46. -/
theorem rollsAreJudged : Obligations.RollsAreJudged := by
  refine ⟨⟨fun c hc => ⟨_, RollCounts.mean_some hc, rfl, rfl, rfl, roundedMean_bounds hc, roundedMean_le hc,
    roundedMean_le hc, roundedMean_le hc, fun h1 h2 => ?_⟩, fun p r len => ⟨if_pos rfl, fun h => ?_, fun h1 h2 => ?_,
    fun h1 h2 => ⟨fun h => ?_, fun h h0 => ?_, fun m h hm => ?_⟩⟩⟩, fun how l r closing len s u d ans hlen hd => ?_⟩
  · simp [h1, h2]
  · exact (if_neg (by simp)).trans (if_pos h)
  · exact (if_neg (by simp)).trans ((if_neg (by omega)).trans (if_pos h2))
  · rw [verdict_byCut h1 h2, if_pos h]
  · have hm : r.counts.mean = none := if_pos h0
    rw [verdict_byCut h1 h2, if_neg (by simp [h]), hm]
  · rw [verdict_byCut h1 h2, if_neg (by simp [h]), hm]
  · intro lane labelled labelIs
    have hdis : dispose how l r (sdiff closing r.opening) s = (u, d, ans) := by
      subst hlen
      rcases hd with ⟨hv, rfl, rfl⟩ | ⟨m, hv, rfl, rfl, rfl⟩
      · exact dispose_decided hv
      · exact dispose_candidate hv
    have hlbp : u.lbp = s.lbp := by
      rcases hd with ⟨-, rfl, -⟩ | ⟨m, -, rfl, -⟩
      · rfl
      · exact takeCandidate_lbp _ s
    have hlab : labelled = s.lbp.params.enabled l := by cases l <;> rfl
    have hlane : lane = l.code := by cases l <;> rfl
    obtain ⟨x, hx⟩ : ∃ x : RollRecord, x = ⟨r.number, l, r.counts, len, r.flags, r.counts.mean, ans.map (·.1),
      ans.map (·.2), d, if labelled then .none else .off⟩ := ⟨_, rfl⟩
    obtain ⟨w, hw⟩ : ∃ w, w = raise .rollDone lane r.number (enterHistory x u) := ⟨_, rfl⟩
    obtain ⟨j, hj⟩ : ∃ j, j = buildJob s.lbp.params x := ⟨_, rfl⟩
    have hfin : finalise how l r closing s = if labelled then offerLabel j w else w := by
      rw [hlab, ← hlbp, hj, ← hlbp]
      refine finalise_eq hdis ?_ (hlane ▸ hw)
      rw [hx, hlab, hlbp, hlen]
      rfl
    have hjl : j.lane = l := by rw [hj, hx]; rfl
    have hjr : j.roll = r.number := by rw [hj, hx]; rfl
    have hjk : j.linked = true := by rw [hj]; rfl
    refine ⟨x, w, j, hx, hj, fun h => by rw [hw, enterHistory_room h], fun old rest h hh => by
      rw [hw, enterHistory_full h hh], fun h => hfin.trans (if_neg (by simp [h])), fun h => ?_⟩
    rw [if_pos h] at hfin
    refine ⟨fun hl => ?_, fun hl hi => ?_, fun hi ha hb => ?_⟩
    · rw [hfin, offerLabel_full hjk (by rwa [hjl]), hjl, hjr, ← hlane]
      rfl
    · rw [hfin, offerLabel_room (by rwa [hjl]), joinLabel_busy hjk hi, hjl, hjr]
      cases l <;> rfl
    · rw [hfin, offerLabel_room (by cases hjl' : j.lane <;> simp [Lbp.list, ha, hb]), joinLabel_idle hjk hi ha hb, hjl, hjr]
      rfl

end Sys2Proof.Machine
end

section
/-! The end of a job (R15, R149). -/

namespace Sys2Proof.Machine

/-! ### An idle line takes no spots -/

/-- An action leaves the measurement unit of an idle line alone (R109, R110). -/
theorem runAction_smu_of_idle {s : State} (h : s.wtb.line = .idle) (slot : Fin 4) (a : RouteAction) (ls : List Lane) :
    (runAction slot a ls s).state.smu = s.smu := by
  cases a with
  | spot t =>
    cases t with
    | none =>
      have ha : triggerAnswer s = .wrongState := if_pos (.inl h)
      exact congrArg State.smu (spotTrigger_refused (by simp [ha]) (by simp [ha]))
    | some t =>
      have hr : spotRefusal s = some .wrongState := if_pos (.inl h)
      simp only [runAction, hr]
  | cut t =>
    cases t with
    | lane l => exact cutLane_smu l s
    | event => exact congrArg State.smu (foldl_cutLane_of_stopped (by simp [State.running, h]))
  | holdLine => simp only [runAction, h]
  | releaseEmboss =>
    simp only [runAction]
    split <;> simp
  | newBatch => rfl

theorem raise_smu_of_idle {s : State} (h : s.wtb.line = .idle) (ev : Event) (p1 p2 : Nat) :
    (raise ev p1 p2 s).smu = s.smu :=
  raise_frame State.smu (fun _ _ _ _ => notice_smu ..) (fun _ _ => countRoute_smu ..) _ _ _ s (runAction_smu_of_idle h)

/-! ### What the finalising of the open rolls leaves alone -/

/-- What an occurrence and every change of the label port and of the rolls keep, the end of an open roll at JOB END
keeps: it is decided without the batch table (R149). -/
theorem endRoll_keeps {P : State → Prop} (hr : ∀ ev p1 p2 t, P t → P (raise ev p1 p2 t))
    (hl : ∀ t f, P t → P (t.onLbp f)) (hk : ∀ t f, P t → P (t.onRku f)) (l : Lane) (s : State) (h : P s) :
    P (endRoll l s) := by
  have hw : ∀ j st t, P t → P (writeLabel j st t) := fun j st t h => by
    obtain ⟨g, hg⟩ := writeLabel_eq j st t
    rw [hg]
    exact hk _ _ h
  have hg : ∀ t, P t → P (grant t) := fun t h => by
    obtain ⟨g, hg⟩ := grant_eq t
    rw [hg]
    exact hk _ _ (hl _ _ h)
  unfold endRoll
  split
  next r hroll =>
    have hs : P (s.onLane l (fun k => { k with roll := none })) := by cases l <;> exact hk _ _ h
    rw [finalise_eq (dispose_decided (if_pos rfl)) rfl rfl]
    have hf : ∀ x, P (raise .rollDone l.code r.number (enterHistory x (s.onLane l (fun k => { k with roll := none })))) := by
      intro x
      refine hr _ _ _ _ ?_
      unfold enterHistory
      split
      · exact hk _ _ hs
      · split
        · exact hl _ _ (hk _ _ hs)
        · exact hs
    split
    · unfold offerLabel
      split
      · exact hg _ (hw _ _ _ (hl _ _ (hf _)))
      · exact hr _ _ _ _ (hw _ _ _ (hf _))
    · exact hf _
  next => exact h

/-- The state apart from the rolls, the label port, the notices and the link is as in `r`. -/
structure Closing.Rest (r t : State) : Prop where
  wtb : t.wtb = r.wtb
  tku : t.tku = r.tku
  rlu : t.rlu = r.rlu
  epu : t.epu = r.epu
  smu : t.smu = r.smu
  sequence : t.btu.sequence = r.btu.sequence
  levels : t.evu.levels = r.evu.levels
  pins : t.pins = r.pins
  pending : t.pending = r.pending

theorem Closing.Rest.raise {r t : State} (hl : r.wtb.line = .idle) (he : r.epu.outOfStep) (h : Closing.Rest r t)
    (ev : Event) (p1 p2 : Nat) : Closing.Rest r (raise ev p1 p2 t) := by
  have hi : t.wtb.line = .idle := h.wtb ▸ hl
  have hs : t.running = false := by simp [State.running, hi]
  exact ⟨(raise_wtb_of_stopped hs ..).trans h.wtb, by simpa using h.tku, by simpa using h.rlu,
    (raise_epu_of_outOfStep (h.epu ▸ he) ..).trans h.epu, (raise_smu_of_idle hi ..).trans h.smu,
    by simpa using h.sequence, by simpa using h.levels, by simpa using h.pins, by simpa using h.pending⟩

theorem rollsAtEnd_rest {s : State} (hl : s.wtb.line = .idle) (he : s.epu.outOfStep) :
    Closing.Rest s (rollsAtEnd s) := by
  have hk : ∀ l t, Closing.Rest s t → Closing.Rest s (endRoll l t) := fun l t h =>
    endRoll_keeps (fun _ _ _ t h => h.raise hl he ..) (fun _ _ ⟨h1, h2, h3, h4, h5, h6, h7, h8, h9⟩ =>
      ⟨h1, h2, h3, h4, h5, h6, h7, h8, h9⟩) (fun _ _ ⟨h1, h2, h3, h4, h5, h6, h7, h8, h9⟩ =>
      ⟨h1, h2, h3, h4, h5, h6, h7, h8, h9⟩) l t h
  obtain ⟨h1, h2, h3, h4, h5, h6, h7, h8, h9⟩ := hk .b _ (hk .a s ⟨rfl, rfl, rfl, rfl, rfl, rfl, rfl, rfl, rfl⟩)
  exact ⟨h1, h2, h3, h4, h5, h6, h7, h8, h9⟩

/-- The replies of a busy sender through the end of the rolls. -/
theorem SendsOn.rollsAtEnd {f : OutFrame} {rs : List Reply} {s : State} (h : SendsOn f rs s) :
    SendsOn f rs (rollsAtEnd s) := by
  have hk : ∀ l t, SendsOn f rs t → SendsOn f rs (endRoll l t) := fun l t h =>
    endRoll_keeps (sendsOn_head f rs).raise (fun _ _ h => h) (fun _ _ h => h) l t h
  exact hk .b _ (hk .a s h)

/-! ### The rolls that enter the history -/

/-- A roll record but for its label state. -/
def RollRecord.unlabelled (x : RollRecord) : RollRecord := { x with label := .off }

/-- The roll unit with another history of the same records, but for their label states. -/
def Rku.SameRolls (k k' : Rku) : Prop :=
  ∃ h, k' = { k with history := h } ∧ h.map RollRecord.unlabelled = k.history.map RollRecord.unlabelled

theorem Rku.SameRolls.refl (k : Rku) : k.SameRolls k := ⟨_, rfl, rfl⟩

theorem Rku.SameRolls.trans {k k' k'' : Rku} (h : k.SameRolls k') (h' : k'.SameRolls k'') : k.SameRolls k'' := by
  obtain ⟨a, rfl, ha⟩ := h
  obtain ⟨b, rfl, hb⟩ := h'
  exact ⟨b, rfl, hb.trans ha⟩

theorem Rku.sameRolls_labelled (k : Rku) (n : Nat) (st : LabelState) : k.SameRolls (k.labelled n st) := by
  refine ⟨_, rfl, ?_⟩
  rw [List.map_map]
  refine List.map_congr_left fun x _ => ?_
  by_cases hx : x.number = n <;> simp [hx, RollRecord.unlabelled]

theorem writeLabel_sameRolls (j : LabelJob) (st : LabelState) (s : State) : s.rku.SameRolls (writeLabel j st s).rku := by
  rw [writeLabel_rku]
  split
  · exact s.rku.sameRolls_labelled _ _
  · exact .refl _

theorem grant_sameRolls (s : State) : s.rku.SameRolls (grant s).rku := by
  unfold grant
  split
  · unfold grantTo
    split
    · exact .refl _
    · exact writeLabel_sameRolls _ _ (s.onLbp _)
  · exact .refl _

theorem offerLabel_sameRolls {j : LabelJob} {s : State} (h : s.running = false) : s.rku.SameRolls (offerLabel j s).rku := by
  unfold offerLabel
  split
  · exact (writeLabel_sameRolls j .queued (s.onLbp _)).trans (grant_sameRolls _)
  · rw [raise_rku_of_stopped (by simpa [State.running, writeLabel_rku] using h)]
    exact writeLabel_sameRolls j .notQueued s

/-- The record of a roll that JOB END closes (R149), but for its label state. -/
def OpenRoll.ended (r : OpenRoll) (l : Lane) : RollRecord :=
  ⟨r.number, l, r.counts, sdiff r.lastRef r.opening, r.flags, r.counts.mean, none, none, .partialRoll, .off⟩

/-- The history `h` ends in what the history `g` ended in, followed by `x`, where labels do not count. -/
def History.Gains (g h : List RollRecord) (x : RollRecord) : Prop :=
  ∃ before, h.map RollRecord.unlabelled = before ++ [x] ∧
    ∀ pre z, g.map RollRecord.unlabelled = pre ++ [z] → ∃ pre', before = pre' ++ [z]

theorem enterHistory_gains (x : RollRecord) (s : State) : ∃ h, (enterHistory x s).rku = { s.rku with history := h } ∧
    History.Gains s.rku.history h x.unlabelled := by
  by_cases hl : s.rku.history.length < 64
  · refine ⟨_, by rw [enterHistory_room hl], s.rku.history.map RollRecord.unlabelled, by simp, fun pre z h => ⟨pre, h⟩⟩
  · cases hh : s.rku.history with
    | nil => simp [hh] at hl
    | cons old rest =>
      refine ⟨_, by rw [enterHistory_full (by omega) hh], rest.map RollRecord.unlabelled, by simp, fun pre z h => ?_⟩
      cases pre with
      | nil =>
        simp only [List.map_cons, List.nil_append, List.cons.injEq, List.map_eq_nil_iff] at h
        simp [hh, h.2] at hl
      | cons y ys => exact ⟨ys, (List.cons.inj h).2⟩

theorem History.Gains.sameRolls {g : List RollRecord} {k k' : Rku} {x : RollRecord}
    (h : History.Gains g k.history x) (hk : k.SameRolls k') : History.Gains g k'.history x := by
  obtain ⟨h', rfl, hm⟩ := hk
  unfold History.Gains at h ⊢
  rwa [hm]

theorem enterHistory_running (x : RollRecord) (s : State) : (enterHistory x s).running = s.running := by
  unfold enterHistory
  split
  · rfl
  · split <;> rfl

/-- The end of an open roll closes the roll and gives the history its record (R149). -/
theorem endRoll_rku {l : Lane} {s : State} {r : OpenRoll} (hs : s.running = false) (hr : (s.lane l).roll = some r) :
    ∃ h, (endRoll l s).rku = { (s.onLane l (fun k => { k with roll := none })).rku with history := h } ∧
      History.Gains s.rku.history h (r.ended l) := by
  have hx : endRoll l s = finalise .byJobEnd l r r.lastRef (s.onLane l (fun k => { k with roll := none })) := by
    simp only [endRoll, hr]
  rw [hx, finalise_eq (dispose_decided (if_pos rfl)) rfl rfl]
  obtain ⟨t, ht⟩ : ∃ t, t = s.onLane l (fun k => { k with roll := none }) := ⟨_, rfl⟩
  obtain ⟨x, hxx⟩ : ∃ x, x = rollRecord l r (sdiff r.lastRef r.opening) .partialRoll none
    (if (s.onLane l (fun k => { k with roll := none })).lbp.params.enabled l then .none else .off) := ⟨_, rfl⟩
  rw [← hxx, ← ht]
  have hts : t.running = false := by rw [ht]; cases l <;> exact hs
  have hth : t.rku.history = s.rku.history := by rw [ht]; cases l <;> rfl
  have hxr : x.unlabelled = r.ended l := by rw [hxx]; rfl
  obtain ⟨h, hh, hg⟩ := enterHistory_gains x t
  rw [hth, hxr] at hg
  have hw : (raise .rollDone l.code r.number (enterHistory x t)).rku = { t.rku with history := h } :=
    (raise_rku_of_stopped ((enterHistory_running x t).trans hts) ..).trans hh
  split
  · have hrun : (raise .rollDone l.code r.number (enterHistory x t)).running = false := by
      unfold State.running
      rw [raise_wtb_of_stopped ((enterHistory_running x t).trans hts)]
      exact (enterHistory_running x t).trans hts
    have ho := offerLabel_sameRolls (j := buildJob t.lbp.params x) hrun
    rw [hw] at ho
    have hg' := History.Gains.sameRolls (k := { t.rku with history := h }) hg ho
    obtain ⟨h', hk, -⟩ := ho
    rw [hk] at hg' ⊢
    exact ⟨h', rfl, hg'⟩
  · exact ⟨h, hw, hg⟩

theorem endRoll_none {l : Lane} {s : State} (h : (s.lane l).roll = none) : endRoll l s = s := by
  simp only [endRoll, h]

theorem LaneControl.noRoll {k : LaneControl} (h : k.roll = none) : { k with roll := none } = k := by
  rw [← h]

/-- What the end of one lane's roll leaves of the roll unit, with a roll open or none. -/
theorem endRoll_spec (l : Lane) {s : State} (hs : s.running = false) : ∃ h before,
    (endRoll l s).rku = { (s.onLane l (fun k => { k with roll := none })).rku with history := h } ∧
    h.map RollRecord.unlabelled = before ++ ((s.lane l).roll.map (·.ended l)).toList ∧
    ∀ pre z, s.rku.history.map RollRecord.unlabelled = pre ++ [z] → ∃ pre', before = pre' ++ [z] := by
  cases hr : (s.lane l).roll with
  | none =>
    refine ⟨s.rku.history, s.rku.history.map RollRecord.unlabelled, ?_, by simp, fun pre z h => ⟨pre, h⟩⟩
    rw [endRoll_none hr]
    cases l
    · exact congrArg (fun k => { s.rku with laneA := k }) (LaneControl.noRoll hr).symm
    · exact congrArg (fun k => { s.rku with laneB := k }) (LaneControl.noRoll hr).symm
  | some r =>
    obtain ⟨h, hk, before, hb, hp⟩ := endRoll_rku hs hr
    exact ⟨h, before, hk, hb, hp⟩

/-- The roll unit at JOB END: every lane OFF without a roll, and the open rolls at the end of the history, lane A's
first (R149). -/
theorem rollsAtEnd_rku {s : State} (hs : s.running = false) : ∃ h before,
    (rollsAtEnd s).rku = { s.rku with
      laneA := ({ s.rku.laneA with roll := none } : LaneControl).off
      laneB := ({ s.rku.laneB with roll := none } : LaneControl).off, history := h } ∧
    h.map RollRecord.unlabelled =
      before ++ ((s.lane .a).roll.map (·.ended .a)).toList ++ ((s.lane .b).roll.map (·.ended .b)).toList := by
  obtain ⟨h1, b1, hk1, hm1, -⟩ := endRoll_spec .a hs
  have hs1 : (endRoll .a s).running = false := endRoll_keeps (P := fun t => t.running = false)
    (fun ev p1 p2 t ht => by
      unfold State.running
      rw [raise_wtb_of_stopped ht]
      exact ht) (fun _ _ h => h) (fun _ _ h => h) .a s hs
  obtain ⟨h2, b2, hk2, hm2, hp2⟩ := endRoll_spec .b hs1
  have hb : (endRoll .a s).lane .b = s.lane .b := by
    show (endRoll .a s).rku.laneB = s.rku.laneB
    rw [hk1]
    rfl
  rw [hb] at hm2
  have hh : (endRoll .a s).rku.history = h1 := by rw [hk1]
  rw [hh, hm1] at hp2
  refine ⟨h2, ?_⟩
  have hrku : (rollsAtEnd s).rku = { s.rku with
      laneA := ({ s.rku.laneA with roll := none } : LaneControl).off
      laneB := ({ s.rku.laneB with roll := none } : LaneControl).off, history := h2 } := by
    have hx : (rollsAtEnd s).rku = (fun r : Rku => { r with laneA := r.laneA.off, laneB := r.laneB.off })
      (endRoll .b (endRoll .a s)).rku := rfl
    have hy : ((endRoll .a s).onLane .b (fun k => { k with roll := none })).rku =
      { (endRoll .a s).rku with laneB := { (endRoll .a s).rku.laneB with roll := none } } := rfl
    rw [hx, hk2, hy, hk1]
    rfl
  cases hr : (s.lane .a).roll with
  | none => exact ⟨b2, hrku, by rw [hm2]; simp⟩
  | some r =>
    rw [hr] at hp2
    obtain ⟨pre', hpre⟩ := hp2 _ _ rfl
    exact ⟨pre', hrku, by rw [hm2, hpre]; simp⟩

theorem rollsAtEnd_none {s : State} (h : ∀ l, (s.lane l).roll = none) : rollsAtEnd s = s.onRku (fun r => { r with
    laneA := r.laneA.off, laneB := r.laneB.off }) := by
  rw [rollsAtEnd, endRoll_none (h .a), endRoll_none (h .b)]

/-! ### JOB END -/

/-- The state the rolls end in, and the head work that ends before them (R15, R118). -/
def idleBy (tag : Byte) (s : State) : State := enterIdle (answer tag 0x06#8 .ok [] s)

theorem SendsOn.enterIdle {f : OutFrame} {rs : List Reply} {s : State} (h : SendsOn f rs s) :
    SendsOn f rs (enterIdle s) := SendsOn.notice (s := s.onWtb _) h ..

theorem execJobEnd_thread {tag : Byte} {s : State} (h : s.wtb.line = .thread) :
    execJobEnd tag s = .next (endBlocks (idleBy tag s)) := congrArg _ (if_pos h)

theorem idleBy_wtb (tag : Byte) (s : State) : (idleBy tag s).wtb = { s.wtb with line := .idle, resumeArmed := false } := by
  simp [idleBy, enterIdle]

/-- The part as the spots end at JOB END. -/
def beforeSpotsEnd (s : State) : State := embossAtEnd (zeroTrims s)

theorem endBlocks_eq (s : State) : endBlocks s =
    ((rollsAtEnd (shadeAtEnd (beforeSpotsEnd s))).onBtu (fun b => { b with batches := [] })).onEvu
      (fun e => { e with routes := Vector.replicate 4 none }) := rfl

theorem shadeAtEnd_smu (s : State) : (shadeAtEnd s).smu.contexts = [] ∧ (shadeAtEnd s).smu.standing = none ∧
    (shadeAtEnd s).smu.spotInProgress = none ∧ (shadeAtEnd s).smu.calRun = s.smu.calRun :=
  ⟨rfl, rfl, abandonSpotIf_true_spotInProgress s, abandonSpotIf_smu_calRun _ s⟩

theorem shadeAtEnd_none {s : State} (h : s.smu.spotInProgress = none) :
    shadeAtEnd s = s.onSmu (fun m => { m with contexts := [], standing := none }) := by
  rw [shadeAtEnd, abandonSpotIf_none h]

theorem shadeAtEnd_sequence (s : State) : (shadeAtEnd s).btu.sequence = s.btu.sequence := by
  refine (⟨fun _ _ _ _ h => by simpa using h, fun _ _ h => by simpa using h, fun _ _ _ h => h, fun c t _ h => ?_⟩ :
    HeadClosed (fun t => t.btu.sequence = s.btu.sequence)).shadeAtEnd s rfl
  exact abandonSpot_keeps (P := fun t => t.btu.sequence = s.btu.sequence) (Q := fun t => t.btu.sequence = s.btu.sequence) (fun _ _ _ _ h => by simpa using h)
    (fun _ _ _ h => h) (fun _ h => h) (fun _ _ h => by simpa using h) c t h

/-- The part as the spots end at JOB END, unit by unit. -/
theorem beforeSpotsEnd_frame (tag : Byte) (s : State) :
    (beforeSpotsEnd (idleBy tag s)).wtb = { s.wtb with line := .idle, resumeArmed := false } ∧
    (beforeSpotsEnd (idleBy tag s)).tku = s.tku ∧
    (beforeSpotsEnd (idleBy tag s)).rlu = { s.rlu with channels := s.rlu.channels.map (fun c => { c with owed := 0 }) } ∧
    (beforeSpotsEnd (idleBy tag s)).epu = { s.epu with state := .none, npc := false, closeTimer := none, reengage := false } ∧
    (beforeSpotsEnd (idleBy tag s)).smu = s.smu ∧ (beforeSpotsEnd (idleBy tag s)).rku = s.rku ∧
    (beforeSpotsEnd (idleBy tag s)).btu = s.btu ∧ (beforeSpotsEnd (idleBy tag s)).evu.levels = s.evu.levels ∧
    (beforeSpotsEnd (idleBy tag s)).pins = s.pins ∧ (beforeSpotsEnd (idleBy tag s)).pending = s.pending := by
  simp [beforeSpotsEnd, embossAtEnd, zeroTrims, idleBy, enterIdle]

/-- The record of an open roll as the history shows it. -/
theorem mem_of_unlabelled {h : List RollRecord} {x : RollRecord} (hx : x ∈ h.map RollRecord.unlabelled) :
    ∃ y ∈ h, y.number = x.number ∧ y.lane = x.lane ∧ y.disposition = x.disposition ∧ y.length = x.length ∧
      y.counts = x.counts ∧ y.flags = x.flags ∧ y.mean = x.mean ∧ y.code = x.code ∧ y.distance = x.distance := by
  obtain ⟨y, hy, rfl⟩ := List.mem_map.1 hx
  exact ⟨y, hy, rfl, rfl, rfl, rfl, rfl, rfl, rfl, rfl, rfl⟩

theorem numbers_unlabelled (h : List RollRecord) :
    (h.map RollRecord.unlabelled).map (·.number) = h.map (·.number) := by
  rw [List.map_map]
  rfl

theorem idleBy_eq (tag : Byte) (s : State) : idleBy tag s = noticeLineState .request
    { answer tag 0x06#8 .ok [] s with wtb := { s.wtb with line := .idle, resumeArmed := false } } := by
  simp only [idleBy, enterIdle, State.onWtb, answer_wtb]

/-- Settles O21. -/
theorem jobEndClosesJob : Obligations.JobEndClosesJob := by
  refine ⟨fun tag s hl => ?_, fun tag s hl => congrArg _ (if_neg hl)⟩
  obtain ⟨y, hy⟩ : ∃ y, y = beforeSpotsEnd (idleBy tag s) := ⟨_, rfl⟩
  obtain ⟨hyw, hyt, hyr, hye, hym, hyk, hyb, hyv, hyp, hyq⟩ := hy ▸ beforeSpotsEnd_frame tag s
  have hyo : y.epu.outOfStep := .inl (by rw [hye])
  obtain ⟨z, hzz⟩ : ∃ z, z = shadeAtEnd y := ⟨_, rfl⟩
  have hz : Rested y z := hzz ▸ (rested_head (by simp [State.running, hyw]) hyo).shadeAtEnd y (.refl y)
  obtain ⟨hc, hst, hsp, hcal⟩ := hzz ▸ shadeAtEnd_smu y
  have hzl : z.wtb.line = .idle := by rw [hz.wtb, hyw]
  have hr := rollsAtEnd_rest hzl (hz.epu ▸ hyo)
  obtain ⟨h, before, hk, hm⟩ := rollsAtEnd_rku (s := z) (by simp [State.running, hzl])
  have hzk : z.rku = s.rku := hz.rku.trans hyk
  have hlane : ∀ l, z.lane l = s.lane l := fun l => congrArg (fun k : Rku => k.lane l) hzk
  rw [hlane, hlane] at hm
  rw [hzk] at hk
  have hx : endBlocks (idleBy tag s) = ((rollsAtEnd z).onBtu (fun b => { b with batches := [] })).onEvu
      (fun e => { e with routes := Vector.replicate 4 none }) := by rw [hzz, hy]; rfl
  have hwtb : (rollsAtEnd z).wtb = { s.wtb with line := .idle, resumeArmed := false } := hr.wtb.trans (hz.wtb.trans hyw)
  have hsends : ∀ f rs, SendsOn f rs (answer tag 0x06#8 .ok [] s) → SendsOn f rs (rollsAtEnd z) := fun f rs hf => by
    have hy' : SendsOn f rs y := by
      rw [hy]
      exact hf.enterIdle
    exact (hzz ▸ (sendsOn_head f rs).shadeAtEnd y hy' : SendsOn f rs z).rollsAtEnd
  refine ⟨_, idleBy tag s, execJobEnd_thread hl, ?_⟩
  rw [hx]
  refine ⟨hwtb, ?_, ?_, fun hn hs => ?_, fun hn hrep => (hsends _ _ (sendsOn_answer_idle hn hrep)).1, fun f hf => ?_, ?_,
    ?_, ?_, ?_, ?_, ?_, ?_, ?_, ?_, ?_, fun l => ?_, fun l r hroll => ?_, ?_, ?_, rfl, ?_, fun i => ?_, ?_, ?_, ?_⟩
  · exact hr.tku.trans ((hzz ▸ shadeAtEnd_tku y : z.tku = y.tku).trans hyt)
  · rw [show ((rollsAtEnd z).onBtu _ |>.onEvu _).wtb = (rollsAtEnd z).wtb from rfl, hwtb]
    exact idleBy_eq tag s
  · have hz0 : z = y.onSmu (fun m => { m with contexts := [], standing := none }) :=
      hzz.trans (shadeAtEnd_none (by rw [hym]; exact hs))
    have hq := rollsAtEnd_none (s := z) fun l => (congrArg LaneControl.roll (hlane l)).trans (hn l)
    have he : (rollsAtEnd z).evu = (idleBy tag s).evu ∧ (rollsAtEnd z).svl = (idleBy tag s).svl := by
      rw [hq, hz0, hy]
      exact ⟨rfl, rfl⟩
    refine ⟨he.2, ?_⟩
    rw [State.onEvu_evu, State.onBtu_evu, he.1]
  · obtain ⟨h1, later, h2⟩ := hsends _ _ (sendsOn_answer hf)
    exact ⟨h1, later, h2.trans (by simp)⟩
  · exact hr.rlu.trans ((hzz ▸ shadeAtEnd_rlu y : z.rlu = y.rlu).trans hyr)
  · exact congrArg Epu.state (hr.epu.trans (hz.epu.trans hye))
  · exact congrArg Epu.npc (hr.epu.trans (hz.epu.trans hye))
  · exact congrArg Epu.reengage (hr.epu.trans (hz.epu.trans hye))
  · exact (congrArg Epu.params (hr.epu.trans (hz.epu.trans hye)) :)
  · exact (congrArg Epu.releaseWatch (hr.epu.trans (hz.epu.trans hye)) :)
  · exact (congrArg Smu.contexts hr.smu).trans hc
  · exact (congrArg Smu.standing hr.smu).trans hst
  · exact (congrArg Smu.spotInProgress hr.smu).trans hsp
  · exact (congrArg Smu.calRun hr.smu).trans (hcal.trans (congrArg Smu.calRun hym))
  · have hl' : ∀ l, (rollsAtEnd z).lane l = ({ s.lane l with roll := none } : LaneControl).off := fun l => by
      cases l <;> simp [State.lane, Rku.lane, hk]
    show ((rollsAtEnd z).lane l).state = _ ∧ ((rollsAtEnd z).lane l).roll = _ ∧ ((rollsAtEnd z).lane l).cut = _ ∧
      ((rollsAtEnd z).lane l).turret = _ ∧ ((rollsAtEnd z).lane l).params = _
    rw [hl' l]
    exact ⟨rfl, rfl, rfl, rfl, rfl⟩
  · have hmem : r.ended l ∈ h.map RollRecord.unlabelled := by
      rw [hm]
      cases l <;> simp [hroll]
    obtain ⟨x, hx, hxs⟩ := mem_of_unlabelled hmem
    exact ⟨x, by rw [show ((rollsAtEnd z).onBtu _ |>.onEvu _).rku = (rollsAtEnd z).rku from rfl, hk]; exact hx, hxs⟩
  · refine ⟨before.map (·.number), ?_⟩
    rw [show ((rollsAtEnd z).onBtu _ |>.onEvu _).rku = (rollsAtEnd z).rku from rfl, hk, ← numbers_unlabelled, hm]
    show _ = _ ++ ([(s.lane .a).roll, (s.lane .b).roll].filterMap id).map (·.number)
    cases (s.lane .a).roll <;> cases (s.lane .b).roll <;> simp [OpenRoll.ended]
  · exact (congrArg Rku.nextRoll hk :)
  · exact hr.sequence.trans ((hzz ▸ shadeAtEnd_sequence y : z.btu.sequence = y.btu.sequence).trans (congrArg _ hyb))
  · simp
  · exact hr.levels.trans (hz.levels.trans hyv)
  · exact hr.pins.trans ((hzz ▸ shadeAtEnd_pins y : z.pins = y.pins).trans hyp)
  · exact hr.pending.trans ((hzz ▸ shadeAtEnd_pending y : z.pending = y.pending).trans hyq)

end Sys2Proof.Machine
end

section
/-! The trims (R66 to R71), and the reading of the track and of the roll history (R48, R49, R144, R145). -/

namespace Sys2Proof.Machine

/-! ### Trims -/

theorem clampInt_eq {x a b : Int} (h : a ≤ b) : clampInt x a b = max a (min b x) := by
  unfold clampInt
  split
  · omega
  · split <;> omega

/-- The channel of a state's trims changed, the rest as it stands. -/
theorem onChannel_eq (c : Fin 9) (f : TrimChannel → TrimChannel) (s : State) :
    s.onRlu (fun r => r.onChannel c f) = { s with rlu := { s.rlu with
      channels := s.rlu.channels.set c (f s.rlu.channels[c]) } } := rfl

theorem addOwed_within {c : Fin 9} {a : Int} {n : Nat} {s : State} (h1 : -4095 ≤ s.rlu.channels[c].owed + a)
    (h2 : s.rlu.channels[c].owed + a ≤ 4095) : addOwed c a n s = { s with rlu := { s.rlu with
      channels := s.rlu.channels.set c { s.rlu.channels[c] with owed := s.rlu.channels[c].owed + a } } } := by
  have hk : clampInt (s.rlu.channels[c].owed + a) (-Config.owedLimit) Config.owedLimit = s.rlu.channels[c].owed + a := by
    rw [clampInt_eq (by decide), show Config.owedLimit = 4095 from rfl]
    omega
  unfold addOwed
  dsimp only
  rw [hk, if_pos rfl, onChannel_eq]

theorem addOwed_beyond {c : Fin 9} {a k : Int} {n : Nat} {s : State}
    (hk : clampInt (s.rlu.channels[c].owed + a) (-Config.owedLimit) Config.owedLimit = k)
    (h : k ≠ s.rlu.channels[c].owed + a) : addOwed c a n s = raise .trimSaturated (c.val + 1) n { s with
      rlu := { s.rlu with channels := s.rlu.channels.set c { s.rlu.channels[c] with owed := k } } } := by
  unfold addOwed
  dsimp only
  rw [hk, if_neg h, onChannel_eq]

/-- The owed trim after an addition (R66). -/
theorem addOwed_owed (c : Fin 9) (a : Int) (n : Nat) (s : State) :
    (addOwed c a n s).rlu.channels[c].owed = max (-4095) (min 4095 (s.rlu.channels[c].owed + a)) := by
  have hk := clampInt_eq (x := s.rlu.channels[c].owed + a) (a := -Config.owedLimit) (b := Config.owedLimit) (by decide)
  by_cases h : clampInt (s.rlu.channels[c].owed + a) (-Config.owedLimit) Config.owedLimit = s.rlu.channels[c].owed + a
  · rw [h] at hk
    rw [addOwed_within]
    · simpa [Config.owedLimit] using hk
    all_goals
      rw [show Config.owedLimit = 4095 from rfl] at hk
      omega
  · rw [addOwed_beyond rfl h, hk]
    simp [Config.owedLimit]

theorem channelIndex_val (c : Fin 9) : channelIndex (c.val + 1) = some c := by
  simp [channelIndex]

theorem channelIndex_eq_none {n : Nat} : channelIndex n = none ↔ n = 0 ∨ 9 < n := by
  simp [channelIndex]
  omega

/-- A loop owns a channel: its station in AUTO, or for channel 9 the emboss unit in step (R71). -/
theorem loopOwns_iff {c : Fin 9} {s : State} : loopOwns c s = true ↔
    (∃ k : Fin 8, k.val = c.val ∧ s.rlu.stations[k].mode = .auto) ∨
      (c.val = 8 ∧ (s.epu.state = .syncing ∨ s.epu.state = .engaged)) := by
  unfold loopOwns
  split
  next h =>
    rw [beq_iff_eq]
    refine ⟨fun hm => .inl ⟨⟨c.val, h⟩, rfl, hm⟩, ?_⟩
    rintro (⟨k, hk, hm⟩ | ⟨h8, -⟩)
    · simpa [← hk] using hm
    · omega
  next h =>
    have h8 : c.val = 8 := by omega
    rw [Bool.or_eq_true, beq_iff_eq, beq_iff_eq]
    refine ⟨fun hm => .inr ⟨h8, hm⟩, ?_⟩
    rintro (⟨k, hk, -⟩ | ⟨-, hm⟩)
    · omega
    · exact hm

theorem execTrim_inRange (tag : Byte) {c : Fin 9} {n : Int} (s : State) (h1 : -4095 ≤ n) (h2 : n ≤ 4095) :
    execTrim tag (c.val + 1) n s = .next
      (if s.wtb.line = .idle ∨ s.wtb.line = .fault ∨ loopOwns c s = true then answer tag 0x1A#8 .wrongState [] s
        else answer tag 0x1A#8 .ok (sle2 (addOwed c n 0 s).rlu.channels[c].owed) (addOwed c n 0 s)) := by
  have hb : ¬(n < -Config.owedLimit ∨ Config.owedLimit < n) := by
    rw [show Config.owedLimit = 4095 from rfl]
    omega
  simp only [execTrim, channelIndex_val, if_neg hb]

theorem execTrimPulse_eq (c : Fin 9) (s : State) : execTrimPulse (c.val + 1) s = .next
    (if s.rlu.channels[c].owed = 0 ∨ (s.wtb.line ≠ .thread ∧ s.wtb.line ≠ .run) then s
      else if 0 < s.rlu.channels[c].owed then { s with rlu := { s.rlu with
        channels := s.rlu.channels.set c ⟨s.rlu.channels[c].owed - 1, s.rlu.channels[c].total + 1, true⟩ } }
      else { s with rlu := { s.rlu with
        channels := s.rlu.channels.set c ⟨s.rlu.channels[c].owed + 1, s.rlu.channels[c].total - 1, false⟩ } }) := by
  simp only [execTrimPulse, channelIndex_val, onChannel_eq]

/-- Settles O32. -/
theorem trimsAddAndPulse : Obligations.TrimsAddAndPulse := by
  refine ⟨fun c a n s => ⟨addOwed_within, fun h => ?_, fun h => ?_⟩, fun tag c n s h1 h2 => ⟨fun hi hf hk he => ?_,
    fun h => ?_⟩, fun tag c n s h => ?_, fun c s => ⟨fun hl ho => ?_, fun hl ho => ?_, fun h => ?_⟩⟩
  · refine addOwed_beyond ?_ (by omega)
    rw [clampInt_eq (by decide), show Config.owedLimit = 4095 from rfl]
    omega
  · refine addOwed_beyond ?_ (by omega)
    rw [clampInt_eq (by decide), show Config.owedLimit = 4095 from rfl]
    omega
  · refine (execTrim_inRange tag s h1 h2).trans (congrArg _ ((if_neg ?_).trans (by rw [addOwed_owed])))
    rw [loopOwns_iff]
    rintro (h | h | ⟨k, hkc, hm⟩ | ⟨h8, hs⟩)
    · exact hi h
    · exact hf h
    · exact hk k hkc hm
    · exact hs.elim (he h8).1 (he h8).2
  · refine (execTrim_inRange tag s h1 h2).trans (congrArg _ (if_pos ?_))
    rwa [loopOwns_iff]
  · show execTrim tag c n s = _
    unfold execTrim
    cases hc : channelIndex c with
    | none => rfl
    | some k =>
      have hn : ¬(c = 0 ∨ 9 < c) := fun hn => by simp [channelIndex_eq_none.2 hn] at hc
      refine congrArg _ (if_pos ?_)
      rw [show Config.owedLimit = 4095 from rfl]
      omega
  · refine (execTrimPulse_eq c s).trans (congrArg _ ((if_neg ?_).trans (if_pos ho)))
    rintro (h0 | ⟨ht, hr⟩)
    · omega
    · exact hl.elim ht hr
  · refine (execTrimPulse_eq c s).trans (congrArg _ ((if_neg ?_).trans (if_neg (by omega))))
    rintro (h0 | ⟨ht, hr⟩)
    · omega
    · exact hl.elim ht hr
  · refine (execTrimPulse_eq c s).trans (congrArg _ (if_pos ?_))
    rcases h with h | h | h | h
    · exact .inr (by simp [h])
    · exact .inr (by simp [h])
    · exact .inr (by simp [h])
    · exact .inl h

/-! ### The track -/

theorem dropWhile_split {α : Type} {p : α → Bool} {before after : List α} {r : α} (hb : ∀ x ∈ before, p x = true)
    (hr : p r = false) : (before ++ r :: after).dropWhile p = r :: after := by
  rw [List.dropWhile_append_of_pos hb, List.dropWhile_cons_of_neg (by simp [hr])]

theorem record?_isSome {t : Tku} {n : Nat} : (t.record? n).isSome = true ↔ ∃ r ∈ t.track, r.number = n := by
  simp [Tku.record?]

/-- TRACK READ in range, by what it answers (R49). -/
theorem execTrackRead_inRange (tag : Byte) {count : Nat} (s : State) (h1 : 1 ≤ count) (h4 : count ≤ 4)
    {st : Status} {rs : List RepeatRecord} {c : Nat} (hr : readTrack count s.tku = (st, rs, c)) :
    execTrackRead tag count s = .next (answer tag 0x13#8 st (le1 rs.length ++ le4 c ++ rs.flatMap RepeatRecord.bytes)
      { s with tku := { s.tku with readCursor := c } }) := by
  refine congrArg _ ((if_neg (by simp [within_iff.2 ⟨h1, h4⟩])).trans ?_)
  simp only [hr]
  rfl

theorem execTrackSeek_some (tag : Byte) (x : SeekTarget) (s : State) {st : Status} {c : Nat}
    (h : seekTrack x s.tku = (st, c)) : execTrackSeek tag (some x) s = .next (answer tag 0x12#8 st (le4 c)
      { s with tku := { s.tku with readCursor := c } }) := by
  simp only [execTrackSeek, h]
  rfl

/-- Settles O24. -/
theorem trackIsSoughtAndRead : Obligations.TrackIsSoughtAndRead := by
  refine ⟨fun tag s => ⟨s.tku.oldestOrNext, s.tku.newestOrNext, fun h => ?_, fun r h => ?_, fun r h => ?_,
    execTrackSeek_some _ _ _ rfl, execTrackSeek_some _ _ _ rfl, fun n h0 hn => ?_, fun n h0 hl hn => ?_,
    fun n hl hn => ?_, rfl, ?_⟩, fun tag count s => ⟨fun h1 h4 hc before after r last ht hr hb hlast => ?_,
    fun h1 h4 hc => ?_, fun h1 h4 hc hn => ?_, fun h => ?_⟩⟩
  · simp [Tku.oldestOrNext, Tku.newestOrNext, h]
  · simp [Tku.oldestOrNext, h]
  · simp [Tku.newestOrNext, h]
  · refine execTrackSeek_some _ _ _ ((if_neg h0).trans (if_pos ?_))
    rw [record?_isSome]
    exact hn.symm
  · refine execTrackSeek_some _ _ _ ((if_neg h0).trans ((if_neg ?_).trans (if_neg (by omega))))
    rw [record?_isSome]
    rintro (⟨r, hr, hrn⟩ | he)
    · exact hn r hr hrn
    · omega
  · refine execTrackSeek_some _ _ _ ((if_neg (by omega)).trans ((if_neg ?_).trans (if_pos hl)))
    rw [record?_isSome]
    rintro (⟨r, hr, hrn⟩ | he)
    · exact hn r hr hrn
    · omega
  · exact execTrackSeek_some _ _ _ (by simp [seekTrack])
  · refine ⟨_, rfl, execTrackRead_inRange tag s h1 h4 ((if_neg hc).trans ((if_neg ?_).trans ?_))⟩
    · rw [Option.isNone_iff_eq_none, ← Option.not_isSome_iff_eq_none, not_not, record?_isSome]
      exact ⟨r, by simp [ht], hr⟩
    · dsimp only
      rw [ht, dropWhile_split (fun x hx => by simpa using hb x hx) (by simp [hr]), hlast]
      rfl
  · exact (execTrackRead_inRange tag s h1 h4 (if_pos hc)).trans (by rw [List.flatMap_nil, List.append_nil]; rfl)
  · refine ⟨s.tku.oldestOrNext, fun h => by simp [Tku.oldestOrNext, h], fun r h => by simp [Tku.oldestOrNext, h],
      (execTrackRead_inRange tag s h1 h4 ((if_neg hc).trans (if_pos ?_))).trans (by
        rw [List.flatMap_nil, List.append_nil]; rfl)⟩
    rw [Option.isNone_iff_eq_none, ← Option.not_isSome_iff_eq_none, record?_isSome]
    rintro ⟨r, hr, hrn⟩
    exact hn r hr hrn
  · refine congrArg _ (if_pos ?_)
    rw [Bool.not_eq_true', within_eq_false]
    omega

/-! ### The roll history -/

theorem execRollSeek_some (tag : Byte) (x : SeekTarget) (s : State) {st : Status} {c : Option Nat}
    (h : seekRoll x s.rku = (st, c)) : execRollSeek tag (some x) s = .next (answer tag 0x3A#8 st (rollCursorBytes c)
      { s with rku := { s.rku with readCursor := c } }) := by
  simp only [execRollSeek, h]
  rfl

/-- ROLL READ in range, by what it answers (R145). -/
theorem execRollRead_inRange (tag : Byte) {count : Nat} (s : State) (h1 : 1 ≤ count) (h4 : count ≤ 4)
    {st : Status} {rs : List RollRecord} {c : Option Nat} (hr : readRolls count s.rku = (st, rs, c)) :
    execRollRead tag count s = .next (answer tag 0x3B#8 st (le1 rs.length ++ le2 (c.getD 0) ++ rs.flatMap RollRecord.bytes)
      { s with rku := { s.rku with readCursor := c } }) := by
  refine congrArg _ ((if_neg (by simp [within_iff.2 ⟨h1, h4⟩])).trans ?_)
  simp only [hr]
  rfl

theorem Rku.isOpen_iff {s : State} {n : Nat} :
    s.rku.isOpen n = true ↔ ∃ l o, (s.lane l).roll = some o ∧ o.number = n := by
  simp only [Rku.isOpen, Bool.or_eq_true, beq_iff_eq, Option.map_eq_some_iff]
  exact ⟨fun h => h.elim (fun h => ⟨.a, h⟩) fun h => ⟨.b, h⟩, fun ⟨l, h⟩ => by
    cases l
    · exact .inl h
    · exact .inr h⟩

/-- Where a numbered ROLL SEEK of a number that the history does not hold goes (R144). -/
theorem seekRoll_absent {s : State} {n : Nat} (h1 : 1 ≤ n) (h2 : n ≤ 65535) (h : ∀ r ∈ s.rku.history, r.number ≠ n) :
    seekRoll (.number n) s.rku = if s.rku.isOpen n || !s.rku.given n then (.notFound, s.rku.readCursor)
      else (.gone, s.rku.history.head?.map (·.number)) :=
  (if_neg (by simp [within_iff.2 ⟨h1, h2⟩])).trans (if_neg (by simpa using h))

theorem length_optional_code {c : Option BatchCode} (h : ∀ x, c = some x → x.length = 5) :
    (c.getD [0, 0, 0, 0, 0]).length = 5 := by
  cases c with
  | none => rfl
  | some x => exact h x rfl

theorem RegEntry.length_bytes (e : RegEntry) : e.bytes.length = 4 := by
  unfold RegEntry.bytes
  split <;> simp [le1, sle2]

theorem ShadeEntry.length_bytes (e : ShadeEntry) : e.bytes.length = 8 := by
  unfold ShadeEntry.bytes
  split <;> simp [le1]

theorem length_flatMap_const {α : Type} {f : α → List Byte} {k : Nat} (h : ∀ x, (f x).length = k) (xs : List α) :
    (xs.flatMap f).length = k * xs.length := by
  induction xs with
  | nil => rfl
  | cons x xs ih => rw [List.flatMap_cons, List.length_append, h, ih, List.length_cons, Nat.mul_succ, Nat.add_comm]

theorem length_lengthBytes (l : Option SpanLength) : (lengthBytes l).length = 5 := by cases l <;> rfl

theorem length_embossBytes (e : Option EmbossEntry) : (embossBytes e).length = 5 := by
  unfold embossBytes
  split <;> rfl

theorem length_shadeBytes (es : Option (List ShadeEntry)) : (shadeBytes es).length = 1 + 8 * (es.getD []).length := by
  cases es with
  | none => rfl
  | some es => simp [shadeBytes, length_flatMap_const ShadeEntry.length_bytes, le1, Nat.add_comm]

theorem length_meanBytes (m : Option Rgb) : (meanBytes m).length = 6 := by cases m <;> rfl

theorem RepeatRecord.length_bytes (r : RepeatRecord) :
    r.bytes.length = 26 + 4 * r.regs.length + 8 * (r.shade.getD []).length := by
  simp only [RepeatRecord.bytes, List.length_append, length_le4, length_le2, length_lengthBytes, length_embossBytes,
    length_shadeBytes, length_flatMap_const RegEntry.length_bytes, le1, List.length_singleton]
  omega

theorem RollRecord.length_bytes {r : RollRecord} (h : ∀ c, r.code = some c → c.length = 5) : r.bytes.length = 61 := by
  have hc := length_optional_code h
  simp only [RollRecord.bytes, RollCounts.bytes, sle4, le1, List.length_append, length_le2, length_le4,
    length_meanBytes, hc, List.length_singleton]

theorem Batch.length_bytes {b : Batch} (h : b.code.length = 5) : b.bytes.length = 30 := by
  simp [Batch.bytes, le8, le1, h]

/-- Settles O47. -/
theorem rollHistoryIsRead : Obligations.RollHistoryIsRead := by
  refine ⟨fun tag s => ⟨fun c => { s with rku := { s.rku with readCursor := c } }, rollCursorBytes,
    s.rku.history.head?.map (·.number), s.rku.history.getLast?.map (·.number), fun _ => rfl, fun _ => rfl, rfl, rfl, rfl,
    execRollSeek_some _ _ _ rfl, execRollSeek_some _ _ _ rfl, rfl, execRollSeek_some _ _ _ rfl, fun n h1 h2 =>
      ⟨fun h => ?_, fun h => ⟨fun ho => ?_, fun ho hg => ?_⟩⟩, fun n h => ?_, fun n h1 h4 => ⟨fun hc => ?_, fun c hc hn => ?_,
      fun before r after hh hc hb => ?_⟩⟩, RepeatRecord.length_bytes, fun r => RollRecord.length_bytes,
    fun b => Batch.length_bytes⟩
  · refine execRollSeek_some _ _ _ ((if_neg (by simp [within_iff.2 ⟨h1, h2⟩])).trans (if_pos ?_))
    simpa using h
  · refine execRollSeek_some _ _ _ ((seekRoll_absent h1 h2 h).trans (if_pos ?_))
    rw [Bool.or_eq_true, Rku.isOpen_iff]
    exact ho.imp_right fun ⟨hw, hn⟩ => by simp [Rku.given, hw, hn]
  · refine execRollSeek_some _ _ _ ((seekRoll_absent h1 h2 h).trans (if_neg ?_))
    rw [Bool.or_eq_true, Rku.isOpen_iff]
    rintro (⟨l, o, hl, hon⟩ | hng)
    · exact ho l o hl hon
    · rcases hg with hw | hn
      · simp [Rku.given, hw] at hng
      · simp [Rku.given, hn] at hng
  · refine congrArg _ (if_pos ?_)
    rw [Bool.not_eq_true', within_eq_false]
    omega
  · refine (execRollRead_inRange tag s h1 h4 (by simp only [readRolls, hc]; rfl)).trans ?_
    have hs : ({ s with rku := { s.rku with readCursor := none } } : State) = s := by rw [← hc]
    rw [List.flatMap_nil, List.append_nil, hs]
    rfl
  · have hd : s.rku.history.dropWhile (fun r => r.number != c) = [] := by simpa using hn
    refine (execRollRead_inRange tag s h1 h4 (by simp only [readRolls, hc, hd, if_true]; rfl)).trans ?_
    rw [List.flatMap_nil, List.append_nil]
    rfl
  · have hd : s.rku.history.dropWhile (fun x => x.number != r.number) = r :: after := by
      rw [hh]
      exact dropWhile_split (fun x hx => by simpa using hb x hx) (by simp)
    refine (execRollRead_inRange tag s h1 h4 (by simp only [readRolls, hc, hd]; rfl)).trans ?_
    rw [List.length_take, List.length_cons]

end Sys2Proof.Machine
end

section
/-! The taking of good candidates by the batch table (R154 to R158). -/

namespace Sys2Proof.Machine

/-! ### The nearest batch -/

theorem nearerBatch_of_not {p : BatchParams} {mean : Rgb} {best : Option Batch} {b : Batch}
    (h : qualifies p mean b = false) : nearerBatch p mean best b = best := if_neg (by simp [h])

theorem nearerBatch_first {p : BatchParams} {mean : Rgb} {b : Batch} (h : qualifies p mean b = true) :
    nearerBatch p mean none b = some b := if_pos h

theorem nearerBatch_next {p : BatchParams} {mean : Rgb} {a b : Batch} (h : qualifies p mean b = true) :
    nearerBatch p mean (some a) b =
      some (if distance2 p mean b.reference < distance2 p mean a.reference then b else a) :=
  (if_pos h).trans (apply_ite some _ _ _).symm

/-- The fold over a list finds a qualifying batch of it, or keeps what it had. -/
theorem foldl_nearer_none (p : BatchParams) (mean : Rgb) (bs : List Batch) :
    bs.foldl (nearerBatch p mean) none = none ↔ ∀ b ∈ bs, qualifies p mean b = false := by
  induction bs using List.reverseRecOn with
  | nil => simp
  | append_singleton bs b ih =>
    rw [List.foldl_append, List.foldl_cons, List.foldl_nil]
    cases hq : qualifies p mean b with
    | false =>
      rw [nearerBatch_of_not hq, ih]
      simp [or_imp, forall_and, hq]
    | true =>
      refine iff_of_false ?_ fun h => by simpa [hq] using h b (by simp)
      cases bs.foldl (nearerBatch p mean) none with
      | none => simp [nearerBatch_first hq]
      | some a => simp [nearerBatch_next hq]

/-- The nearest of a list ordered by age: of equals the oldest (R155). -/
theorem foldl_nearer_some {p : BatchParams} {mean : Rgb} {bs : List Batch} {a : Batch}
    (h : bs.foldl (nearerBatch p mean) none = some a) : a ∈ bs ∧ qualifies p mean a = true ∧
      (bs.Pairwise (fun a b => a.sequence < b.sequence) → ∀ c ∈ bs, qualifies p mean c = true →
        distance2 p mean a.reference < distance2 p mean c.reference ∨
        (distance2 p mean a.reference = distance2 p mean c.reference ∧ a.sequence ≤ c.sequence)) := by
  induction bs using List.reverseRecOn generalizing a with
  | nil => simp at h
  | append_singleton bs b ih =>
    rw [List.foldl_append, List.foldl_cons, List.foldl_nil] at h
    simp only [List.mem_append, List.mem_singleton, List.pairwise_append, List.pairwise_singleton, true_and, forall_eq]
    cases hq : qualifies p mean b with
    | false =>
      rw [nearerBatch_of_not hq] at h
      obtain ⟨hm, ha, hn⟩ := ih h
      refine ⟨.inl hm, ha, fun ⟨hp, _⟩ c hc hcq => ?_⟩
      rcases hc with hc | rfl
      · exact hn hp c hc hcq
      · simp [hq] at hcq
    | true =>
      cases hbest : bs.foldl (nearerBatch p mean) none with
      | none =>
        rw [hbest, nearerBatch_first hq] at h
        obtain rfl := Option.some.inj h
        refine ⟨.inr rfl, hq, fun _ c hc hcq => ?_⟩
        rcases hc with hc | rfl
        · simp [(foldl_nearer_none p mean bs).1 hbest c hc] at hcq
        · exact .inr ⟨rfl, le_rfl⟩
      | some x =>
        rw [hbest, nearerBatch_next hq] at h
        obtain ⟨hm, hx, hn⟩ := ih hbest
        replace h := Option.some.inj h
        split at h
        next hd =>
          subst h
          refine ⟨.inr rfl, hq, fun ⟨hp, _⟩ c hc hcq => ?_⟩
          rcases hc with hc | rfl
          · rcases hn hp c hc hcq with hl | ⟨he, -⟩ <;> exact .inl (by omega)
          · exact .inr ⟨rfl, le_rfl⟩
        next hd =>
          subst h
          refine ⟨.inl hm, hx, fun ⟨hp, hlast⟩ c hc hcq => ?_⟩
          rcases hc with hc | rfl
          · exact hn hp c hc hcq
          · have hs := hlast x hm
            omega

theorem Btu.mem_compared {t : Btu} {b : Batch} :
    b ∈ t.compared ↔ b ∈ t.batches ∧ (t.params.mode = .currentOnly → b.sequence + 1 = t.sequence) := by
  cases hm : t.params.mode <;> simp [Btu.compared, hm]

theorem Btu.compared_pairwise {t : Btu} (h : t.batches.Pairwise (fun a b => a.sequence < b.sequence)) :
    t.compared.Pairwise (fun a b => a.sequence < b.sequence) := by
  unfold Btu.compared
  split
  · exact h
  · exact h.filter _

/-- A qualifying batch is near in the sense of R155. -/
theorem Btu.compared_qualifies {t : Btu} {mean : Rgb} {b : Batch} :
    (b ∈ t.compared ∧ qualifies t.params mean b = true) ↔ b ∈ t.batches ∧
      distance2 t.params mean b.reference ≤ 16 * t.params.tol ^ 2 ∧
      (t.params.mode = .currentOnly → b.sequence + 1 = t.sequence) := by
  rw [Btu.mem_compared, qualifies_iff]
  tauto

theorem Btu.nearest_mem {t : Btu} {mean : Rgb} {b : Batch} (h : t.nearest mean = some b) : b ∈ t.batches :=
  (Btu.mem_compared.1 (foldl_nearer_some h).1).1

/-! ### Closing at the rolls per batch -/

theorem closeIfFull_open {n : Nat} {s : State} (h : ∀ x ∈ s.btu.batches, x.sequence = n →
    x.rolls < s.btu.params.rollsPerBatch) : closeIfFull n s = s := by
  unfold closeIfFull
  split
  · rfl
  next b hb =>
    exact if_neg (Nat.not_le.2 (h b (List.mem_of_find?_eq_some hb) (by simpa using List.find?_some hb)))

theorem closeIfFull_full {n : Nat} {s : State} (hx : ∃ x ∈ s.btu.batches, x.sequence = n)
    (h : ∀ x ∈ s.btu.batches, x.sequence = n → s.btu.params.rollsPerBatch ≤ x.rolls) :
    closeIfFull n s = raise .batchClosed 2 n { s with btu := { s.btu with
      batches := s.btu.batches.filter (fun x => x.sequence != n) } } := by
  unfold closeIfFull
  split
  next hn => 
    obtain ⟨x, hm, hs⟩ := hx
    simpa [hs] using List.find?_eq_none.1 hn x hm
  next b hb => exact if_pos (h b (List.mem_of_find?_eq_some hb) (by simpa using List.find?_some hb))

/-! ### A full table -/

/-- Of two batches the one whose last take is the earlier. -/
def earlierTake (best : Option Batch) (b : Batch) : Option Batch :=
  match best with
  | none => some b
  | some a => if b.lastTake.toNat < a.lastTake.toNat then some b else best

theorem leastRecent_eq_foldl (bs : List Batch) : leastRecent bs = bs.foldl earlierTake none := rfl

theorem earlierTake_mem {best : Option Batch} {b x : Batch} (h : earlierTake best b = some x) : x = b ∨ best = some x := by
  cases best with
  | none => exact .inl (Option.some.inj h).symm
  | some a =>
    by_cases hl : b.lastTake.toNat < a.lastTake.toNat
    · exact .inl (Option.some.inj ((if_pos hl).symm.trans h)).symm
    · exact .inr ((if_neg hl).symm.trans h)

theorem earlierTake_first {a b : Batch} (h : b ≠ a → a.lastTake.toNat ≤ b.lastTake.toNat) :
    earlierTake (some a) b = some a := by
  refine if_neg ?_
  by_cases hb : b = a
  · simp [hb]
  · exact Nat.not_lt.2 (h hb)

/-- The strictly earliest last take is found. -/
theorem foldl_earlierTake {old : Batch} (bs : List Batch) (best : Option Batch) (hm : best = some old ∨ old ∈ bs)
    (h : ∀ x, x ∈ bs ∨ best = some x → x ≠ old → old.lastTake.toNat < x.lastTake.toNat) :
    bs.foldl earlierTake best = some old := by
  induction bs generalizing best with
  | nil => simpa using hm
  | cons b bs ih =>
    have hof : ∀ x, earlierTake best b = some x → x = b ∨ best = some x := fun x hx => earlierTake_mem hx
    refine ih _ ?_ fun x hx => h x ?_
    · rcases hm with rfl | hm
      · exact .inl (earlierTake_first fun hne => (h b (by simp) hne).le)
      · rcases List.mem_cons.1 hm with rfl | hm
        · cases hb : best with
          | none => exact .inl rfl
          | some a =>
            by_cases ha : a = old
            · exact .inl (ha ▸ earlierTake_first fun _ => le_rfl)
            · exact .inl (if_pos (h a (.inr hb) ha))
        · exact .inr hm
    · rcases hx with hx | hx
      · exact .inl (List.mem_cons_of_mem _ hx)
      · exact (hof x hx).imp_left fun hxb => by simp [hxb]

theorem leastRecent_eq {bs : List Batch} {old : Batch} (hm : old ∈ bs)
    (h : ∀ x ∈ bs, x ≠ old → old.lastTake.toNat < x.lastTake.toNat) : leastRecent bs = some old :=
  foldl_earlierTake bs none (.inr hm) fun x hx => h x (by simpa using hx)

/-- The table with room for one more (R157, R158). -/
theorem displaceBatch_room {s : State} (h : s.btu.batches.length < 16) : displaceBatch s = s := if_pos h

theorem displaceBatch_full {s : State} {old : Batch} (h : 16 ≤ s.btu.batches.length) (hm : old ∈ s.btu.batches)
    (hl : ∀ x ∈ s.btu.batches, x ≠ old → old.lastTake.toNat < x.lastTake.toNat) :
    displaceBatch s = raise .batchClosed 3 old.sequence { s with btu := { s.btu with
      batches := s.btu.batches.filter (fun x => x.sequence != old.sequence) } } := by
  refine (if_neg (by simpa [Config.batchCapacity] using h)).trans ?_
  simp only [leastRecent_eq hm hl]
  rfl

/-- The making of room takes at most a batch out of the table. -/
theorem displaceBatch_btu (s : State) : (displaceBatch s).btu.sequence = s.btu.sequence ∧
    (displaceBatch s).btu.params = s.btu.params ∧ (displaceBatch s).btu.takes = s.btu.takes ∧
    ∀ x ∈ (displaceBatch s).btu.batches, x ∈ s.btu.batches := by
  unfold displaceBatch
  split
  · exact ⟨rfl, rfl, rfl, fun _ h => h⟩
  · split
    · exact ⟨rfl, rfl, rfl, fun _ h => h⟩
    · refine ⟨by simp [closeBatch], by simp [closeBatch], by simp [closeBatch], fun x hx => ?_⟩
      simp only [closeBatch, raise_btu_batches, State.onBtu_btu, List.mem_filter] at hx
      exact hx.1

/-! ### The taking -/

/-- The state as a candidate is taken (R155). -/
def countTake (s : State) : State := s.onBtu (fun b => { b with takes := b.takes + 1 })

theorem takeCandidate_opens {c : Candidate} {s : State} (h : s.btu.breakPending = true ∨ s.btu.nearest c.mean = none) :
    takeCandidate c s = openBatch c (countTake s) := by
  have hn : (countTake s).btu.nearest c.mean = s.btu.nearest c.mean := rfl
  unfold takeCandidate
  rw [show s.onBtu (fun b => { b with takes := b.takes + 1 }) = countTake s from rfl]
  dsimp only
  rw [hn]
  rcases h with h | h
  · exact if_pos h
  · rw [h]
    exact ite_self _

/-- A new batch opens on a table with room (R157). -/
theorem openBatch_eq {c : Candidate} {s : State} (h : s.btu.sequence ≤ 999) : openBatch c s =
    ⟨closeIfFull s.btu.sequence (raise .batchOpened c.lane.code s.btu.sequence ((displaceBatch s).onBtu (fun b => { b with
      batches := b.batches ++ [firstEntry c s.btu], sequence := s.btu.sequence + 1, breakPending := false }))),
      some ((firstEntry c s.btu).code, 0)⟩ := by
  obtain ⟨hs, hp, ht, -⟩ := displaceBatch_btu s
  have hf : firstEntry c (displaceBatch s).btu = firstEntry c s.btu := by simp only [firstEntry, hs, hp, ht]
  refine (if_neg (by simpa [Config.lastSequence] using h)).trans ?_
  dsimp only
  rw [hf, hs]
  simp only [State.onBtu, hs]

theorem firstEntry_eq {c : Candidate} {b : Btu} (h : b.sequence ≤ 999) : firstEntry c b =
    ⟨[b.params.char1, b.params.char2, BitVec.ofNat 8 (48 + b.sequence / 100), BitVec.ofNat 8 (48 + b.sequence / 10 % 10),
      BitVec.ofNat 8 (48 + b.sequence % 10)], b.sequence, c.mean, 1, BitVec.ofInt 64 c.length, c.roll, b.takes,
      decide (c.lane = .a), decide (c.lane = .b)⟩ := by
  have hd : b.sequence / 100 % 10 = b.sequence / 100 := by omega
  simp only [firstEntry, batchCode, digit, hd, Bool.beq_eq_decide_eq]

/-- The table after a join (R156). -/
def joined (b : Batch) (c : Candidate) (take : BitVec 32) (x : Batch) : Batch :=
  if x.sequence = b.sequence then { x with
    rolls := x.rolls + 1, totalLength := x.totalLength + BitVec.ofInt 64 c.length, lastRoll := c.roll, lastTake := take
    seenA := x.seenA || decide (c.lane = .a), seenB := x.seenB || decide (c.lane = .b) } else x

theorem joined_sequence {b : Batch} {c : Candidate} {take : BitVec 32} {x : Batch} :
    (joined b c take x).sequence = x.sequence := by
  unfold joined
  split <;> rfl

theorem joinBatch_state (b : Batch) (c : Candidate) (s : State) : (joinBatch b c s).state = closeIfFull b.sequence
    { s with btu := { s.btu with batches := s.btu.batches.map (joined b c s.btu.takes) } } := by
  simp only [joinBatch, Batch.join, Bool.beq_eq_decide_eq]
  rfl

/-- An entry of the joined sequence has one roll more. -/
theorem joined_rolls {b : Batch} {c : Candidate} {take : BitVec 32} {bs : List Batch} {x : Batch}
    (hx : x ∈ bs.map (joined b c take)) (hs : x.sequence = b.sequence) :
    ∃ y ∈ bs, x = joined b c take y ∧ x.rolls = y.rolls + 1 := by
  obtain ⟨y, hy, rfl⟩ := List.mem_map.1 hx
  refine ⟨y, hy, rfl, ?_⟩
  rw [joined_sequence] at hs
  simp [joined, hs]

/-- Settles O49. -/
theorem candidatesFindBatches : Obligations.CandidatesFindBatches := by
  refine ⟨cast_distance2, fun d2 h => ⟨?_, ?_⟩, fun t mean => ⟨?_, fun b hp hn => ?_⟩, fun c b s hp hn =>
    ⟨_, rfl, ?_, fun h => ?_, fun h => ?_⟩, fun c s hn => ⟨fun h => ?_, fun h => ⟨_, rfl, ?_, fun roomy opened hne hroom hfull
      hop => ?_⟩⟩⟩
  · have := reportedDistance_sq_le h
    omega
  · have := lt_succ_reportedDistance_sq h
    omega
  · refine (foldl_nearer_none t.params mean t.compared).trans ⟨fun h b hb hn => ?_, fun h b hb => ?_⟩
    · obtain ⟨hm, hq⟩ := Btu.compared_qualifies.2 ⟨hb, hn⟩
      simp [h b hm] at hq
    · cases hq : qualifies t.params mean b with
      | false => rfl
      | true =>
        obtain ⟨hm, hn⟩ := Btu.compared_qualifies.1 ⟨hb, hq⟩
        exact absurd hn (h b hm)
  · obtain ⟨hm, hq, hb⟩ := foldl_nearer_some hn
    obtain ⟨hmem, hnear⟩ := Btu.compared_qualifies.1 ⟨hm, hq⟩
    refine ⟨hmem, hnear, fun c hc hcn => ?_⟩
    obtain ⟨hcm, hcq⟩ := Btu.compared_qualifies.2 ⟨hc, hcn⟩
    exact hb (Btu.compared_pairwise hp) c hcm hcq
  · rw [takeCandidate_of_nearest hp hn]
    rfl
  · rw [takeCandidate_of_nearest hp hn, joinBatch_state]
    refine closeIfFull_open fun x hx hs => ?_
    obtain ⟨y, hy, rfl, hr⟩ := joined_rolls hx hs
    rw [hr]
    exact h y hy (joined_sequence.symm.trans hs)
  · rw [takeCandidate_of_nearest hp hn, joinBatch_state]
    refine closeIfFull_full ⟨_, List.mem_map_of_mem (Btu.nearest_mem hn), joined_sequence⟩ fun x hx hs => ?_
    obtain ⟨y, hy, rfl, hr⟩ := joined_rolls hx hs
    rw [hr]
    exact h y hy (joined_sequence.symm.trans hs)
  · rw [takeCandidate_opens hn, openBatch, if_pos (by simpa [Config.lastSequence, countTake] using h)]
    exact ⟨rfl, rfl⟩
  · rw [takeCandidate_opens hn, openBatch_eq (show (countTake s).btu.sequence ≤ 999 from h),
      firstEntry_eq (show (countTake s).btu.sequence ≤ 999 from h)]
    rfl
  · have hd : displaceBatch (countTake s) = roomy := by
      by_cases hl : s.btu.batches.length < 16
      · rw [hroom hl]
        exact displaceBatch_room hl
      · obtain ⟨old, hm, hlt, hr⟩ := hfull (Nat.le_of_not_lt hl)
        rw [hr]
        exact displaceBatch_full (s := countTake s) (Nat.le_of_not_lt hl) hm hlt
    rw [takeCandidate_opens hn, openBatch_eq (show (countTake s).btu.sequence ≤ 999 from h),
      firstEntry_eq (show (countTake s).btu.sequence ≤ 999 from h), hd]
    obtain ⟨-, hp, -, hsub⟩ := hd ▸ displaceBatch_btu (countTake s)
    have ho : closeIfFull s.btu.sequence (raise .batchOpened c.lane.code s.btu.sequence (roomy.onBtu (fun b => { b with
        batches := b.batches ++ [_], sequence := s.btu.sequence + 1, breakPending := false }))) =
        closeIfFull s.btu.sequence opened :=
      congrArg _ (hop.trans (congrArg (fun n => raise .batchOpened n s.btu.sequence _) (by cases c.lane <;> rfl))).symm
    have hb := congrArg (fun t => t.btu.batches) hop
    have hpar := congrArg (fun t => t.btu.params) hop
    simp only [raise_btu_batches] at hb
    simp only [raise_btu_params] at hpar
    replace hpar : opened.btu.params = s.btu.params := hpar.trans hp
    have hmem : ∀ x ∈ opened.btu.batches, x.sequence = s.btu.sequence → x.rolls = 1 := fun x hx hs => by
      rw [hb, List.mem_append, List.mem_singleton] at hx
      rcases hx with hx | rfl
      · exact absurd hs (hne x (hsub x hx))
      · rfl
    refine ⟨fun hr => ho.trans (closeIfFull_open fun x hx hs => ?_), fun hr => ho.trans (closeIfFull_full ?_ fun x hx hs => ?_)⟩
    · rw [hmem x hx hs, hpar]
      exact hr
    · exact ⟨_, by rw [hb]; exact List.mem_append_right _ (List.mem_singleton_self _), rfl⟩
    · rw [hmem x hx hs, hpar]
      exact hr

end Sys2Proof.Machine
end

section
/-! The nip: its confirming, its watches and its release (R81 to R84, R87). -/

namespace Sys2Proof.Machine

/-- The nip's level stands through an occurrence. -/
theorem raise_nipClosed (ev : Event) (p1 p2 : Nat) (s : State) : (raise ev p1 p2 s).nipClosed = s.nipClosed := by
  simp [State.nipClosed]

/-- The unit opens under R87: the flag is acted on in RUN, and stands elsewhere. -/
theorem actOnReengage_opened {s : State} (hs : s.epu.state = .opened) (hw : s.epu.releaseWatch = none) :
    actOnReengage s = { s with epu := { s.epu with
      state := if s.wtb.line = .run ∧ s.epu.reengage = true ∧ s.epu.params.autoReengage = true then .syncing else .opened
      engageCount := if s.wtb.line = .run ∧ s.epu.reengage = true ∧ s.epu.params.autoReengage = true then 0
        else s.epu.engageCount
      settle := if s.wtb.line = .run ∧ s.epu.reengage = true ∧ s.epu.params.autoReengage = true then 0 else s.epu.settle
      reengage := s.epu.reengage && decide (s.wtb.line ≠ .run) } } := by
  by_cases hl : s.wtb.line = .run
  · cases hr : s.epu.reengage with
    | true =>
      rw [actOnReengage_acts hs hw hl hr]
      cases ha : s.epu.params.autoReengage
      · simp [State.onEpu, hl, hs]
      · simp [enterSyncing, State.onEpu, hl]
    | false =>
      rw [actOnReengage_stands (.inr (.inr hr))]
      obtain ⟨wtb, tku, rlu, epu⟩ := s
      cases epu
      simp_all
  · have hn : actOnReengage s = s := if_neg fun h => hl h.2.2.1
    rw [hn]
    obtain ⟨wtb, tku, rlu, epu⟩ := s
    cases epu
    simp_all

/-- NPF open ends a release (R84). -/
theorem nipSeenOpen_releasing {s : State} (hs : s.epu.state = .releasing) : nipSeenOpen s = { s with epu := { s.epu with
      releaseWatch := none
      state := if s.wtb.line = .run ∧ s.epu.reengage = true ∧ s.epu.params.autoReengage = true then .syncing else .opened
      engageCount := if s.wtb.line = .run ∧ s.epu.reengage = true ∧ s.epu.params.autoReengage = true then 0
        else s.epu.engageCount
      settle := if s.wtb.line = .run ∧ s.epu.reengage = true ∧ s.epu.params.autoReengage = true then 0 else s.epu.settle
      reengage := s.epu.reengage && decide (s.wtb.line ≠ .run) } } := by
  refine (if_pos hs).trans ?_
  rw [actOnReengage_opened]
  all_goals rfl

theorem nipSeenOpen_stands {s : State} (hs : s.epu.state ≠ .releasing) :
    nipSeenOpen s = { s with epu := { s.epu with releaseWatch := none } } := if_neg hs

/-- EMBOSS-NIP and the release that follows (R81). -/
theorem embossNip_eq (reason : Nat) (s : State) : embossNip reason s = enterReleasing
    { raise .embossNip reason 0 s with epu := { (raise .embossNip reason 0 s).epu with reengage := false } } := rfl

theorem embossNip_closed {reason : Nat} {s : State} (h : s.nipClosed = true) : embossNip reason s =
    { raise .embossNip reason 0 s with epu := { (raise .embossNip reason 0 s).epu with
      reengage := false, state := .releasing, npc := false, closeTimer := none
      releaseWatch := some (raise .embossNip reason 0 s).epu.params.nipTimeout } } :=
  (enterReleasing_closed (s := (raise .embossNip reason 0 s).onEpu _) ((raise_nipClosed ..).trans h)).trans rfl

theorem embossNip_open {reason : Nat} {s : State} (h : s.nipClosed = false) : embossNip reason s =
    { raise .embossNip reason 0 s with epu := { (raise .embossNip reason 0 s).epu with
      reengage := false, state := .opened, npc := false, closeTimer := none, releaseWatch := none } } := by
  have hn : (raise .embossNip reason 0 s).nipClosed = false := (raise_nipClosed ..).trans h
  rw [embossNip_eq]
  refine (if_neg (by simpa [State.nipClosed] using hn)).trans ?_
  rw [actOnReengage_stands]
  · rfl
  · exact .inr (.inr rfl)

/-- EMBOSS-OUT and the release that follows, with NPF closed (R82). -/
theorem embossOut_closed {reason n : Nat} {s : State} (h : s.nipClosed = true) : embossOut reason n s =
    { raise .embossOut reason n s with epu := { (raise .embossOut reason n s).epu with
      reengage := (raise .embossOut reason n s).epu.reengage || (raise .embossOut reason n s).epu.params.autoReengage
      state := .releasing, npc := false, closeTimer := none
      releaseWatch := some (raise .embossOut reason n s).epu.params.nipTimeout } } := by
  refine (enterReleasing_closed (s := (raise .embossOut reason n s).onEpu _) ((raise_nipClosed ..).trans h)).trans rfl

/-- EMBOSS-OUT with NPF open: the unit opens at once, and acts on the flag that EMBOSS-OUT has set (R82, R87). -/
theorem embossOut_open {reason n : Nat} {s u : State} (h : s.nipClosed = false) (hu : u = raise .embossOut reason n s) :
    embossOut reason n s = { u with epu := { u.epu with
      npc := false, closeTimer := none, releaseWatch := none
      state := if u.wtb.line = .run ∧ u.epu.params.autoReengage = true then .syncing else .opened
      engageCount := if u.wtb.line = .run ∧ u.epu.params.autoReengage = true then 0 else u.epu.engageCount
      settle := if u.wtb.line = .run ∧ u.epu.params.autoReengage = true then 0 else u.epu.settle
      reengage := (u.epu.reengage || u.epu.params.autoReengage) && decide (u.wtb.line ≠ .run) } } := by
  subst hu
  have hn : ((raise .embossOut reason n s).onEpu (fun e => { e with reengage := e.reengage || e.params.autoReengage })).nipClosed
    = false := (raise_nipClosed ..).trans h
  refine (if_neg (by simp [hn])).trans ?_
  rw [actOnReengage_opened]
  · have hp : ∀ (p : Prop) (a b : Bool), (p ∧ (a || b) = true ∧ b = true) ↔ (p ∧ b = true) := by
      intro p a b
      cases a <;> cases b <;> simp
    simp only [State.onEpu, hp]
    rfl
  all_goals rfl

/-- The index loss test (R82). -/
theorem lossTest_lost {s : State} {p : Pos} (hp : s.epu.lastIndex = some p) (hn : s.wtb.newWeb = true)
    (hr : s.running = true) (he : s.epu.state = .engaged) (hl : s.lossLimit < sdiff s.wtb.wp p) :
    lossTest s = embossOut 2 0 s := by
  simp only [lossTest, hp]
  exact if_pos ⟨by simp [State.advancing, hn, hr], he, hl⟩

theorem lossTest_stands {s : State} (h : s.wtb.newWeb = false ∨ s.running = false ∨ s.epu.state ≠ .engaged ∨
    ∀ p, s.epu.lastIndex = some p → (s.wtb.wp - p).toInt ≤ s.lossLimit) : lossTest s = s := by
  unfold lossTest
  split
  next p hp =>
    refine if_neg ?_
    rintro ⟨ha, he, hl⟩
    simp only [State.advancing, Bool.and_eq_true] at ha
    rcases h with h | h | h | h
    · simp [h] at ha
    · simp [h] at ha
    · exact h he
    · exact absurd (h p hp) (Int.not_le.2 hl)
  next => rfl

theorem latchCause_get (c : StopCause) (s : State) : (latchCause c s).wtb.latched.get c = true := by
  cases hc : s.wtb.latched.get c with
  | true => rw [latchCause_latched hc, hc]
  | false =>
    have hn : (noteCause c s).wtb.latched.get c = true := by simp [noteCause, Latches.get_put]
    rcases hl : s.wtb.line with _ | _ | _ | _ | _
    case idle | fault => rwa [latchCause_stays hc (by simp [hl])]
    all_goals
      rw [latchCause_faults hc (by simp [hl]), enterFault_wtb]
      exact hn

/-- Outside ENGAGED the end of step opens nothing (R86). -/
theorem embossAtStop_of_not_engaged {s : State} (he : s.epu.state ≠ .engaged) :
    (embossAtStop s).epu.releaseWatch = s.epu.releaseWatch ∧ (embossAtStop s).epu.npc = s.epu.npc ∧
      (s.epu.state = .releasing → (embossAtStop s).epu.state = .releasing) := by
  unfold embossAtStop leaveStep
  split
  next h => exact ⟨rfl, rfl, fun hr => absurd (h.symm.trans hr) (by decide)⟩
  next h => exact absurd h he
  all_goals exact ⟨rfl, rfl, id⟩

/-- The latching of NIP-STUCK leaves a unit out of step where it is (R84, R86). -/
theorem latchCause_epu_of_outOfStep {c : StopCause} {s : State} (he : s.epu.state ≠ .engaged) :
    (latchCause c s).epu.releaseWatch = s.epu.releaseWatch ∧ (latchCause c s).epu.npc = s.epu.npc ∧
      (s.epu.state = .releasing → (latchCause c s).epu.state = .releasing) := by
  have hn : (noteCause c s).epu = s.epu := by simp [noteCause]
  cases hc : s.wtb.latched.get c with
  | true =>
    rw [latchCause_latched hc]
    exact ⟨rfl, rfl, id⟩
  | false =>
    rcases hl : s.wtb.line with _ | _ | _ | _ | _
    case idle | fault =>
      rw [latchCause_stays hc (by simp [hl]), hn]
      exact ⟨rfl, rfl, id⟩
    all_goals
      rw [latchCause_faults hc (by simp [hl]), enterFault_epu]
      have hr : (zeroTrims (scannerOff (reportFault (noteCause c s)))).epu = s.epu := by
        simpa [zeroTrims, scannerOff, reportFault] using hn
      rw [← hr] at he ⊢
      exact embossAtStop_of_not_engaged he

/-- Settles O36. -/
theorem nipIsWatched : Obligations.NipIsWatched := by
  intro s closed open_ released
  have hclosed : closed.nipClosed = true := by
    show reading (!s.wtb.polarity.npf) s.wtb.polarity.npf = true
    cases s.wtb.polarity.npf <;> rfl
  have hopen : open_.nipClosed = false := by
    show reading s.wtb.polarity.npf s.wtb.polarity.npf = false
    cases s.wtb.polarity.npf <;> rfl
  refine ⟨fun he hc => congrArg _ (if_pos ⟨he, hc⟩), fun h => congrArg _ (if_neg ?_), fun he hc => ⟨_, rfl, ?_⟩,
    fun he => ?_, fun hr hc => ?_, fun e he hc => ⟨_, rfl, fun hn => ?_, fun hn => ?_⟩, fun e h => ?_, fun hw hc he => ?_,
    fun hw hc he => ?_, fun hw hc he => ?_, fun hw => ?_, fun e => ⟨_, rfl, fun p hp hn hr he hl => ⟨_, rfl, fun hc => ?_,
      fun hc => ?_⟩, fun h => ?_⟩⟩
  · rintro ⟨h1, h2⟩
    exact h.elim (fun h => h h1) fun h => Bool.false_ne_true (h2.symm.trans h)
  · exact congrArg _ ((if_pos ⟨he, hc⟩).trans (embossNip_open hopen))
  · refine congrArg _ ((if_neg ?_).trans (nipSeenOpen_releasing (s := open_) he))
    rintro ⟨h1, -⟩
    exact absurd (h1.symm.trans he) (by decide)
  · refine congrArg _ ((if_neg ?_).trans (nipSeenOpen_stands (s := open_) hr))
    rintro ⟨h1, h2⟩
    exact hc.elim (fun h => h h1) fun h => Bool.false_ne_true (h.symm.trans h2)
  · refine congrArg _ ((if_pos ⟨he, hc⟩).trans (embossNip_closed ?_))
    show reading e s.wtb.polarity.npf = true
    simpa [reading] using hn
  · refine congrArg _ ((if_pos ⟨he, hc⟩).trans (embossNip_open ?_))
    show reading e s.wtb.polarity.npf = false
    simpa [reading] using hn
  · refine congrArg _ (if_neg ?_)
    rintro ⟨h1, h2⟩
    exact h.elim (fun h => h h1) fun h => by simp [h] at h2
  · obtain ⟨h1, h2, h3⟩ := latchCause_epu_of_outOfStep (c := .nipStuck)
      (s := s.onEpu (fun e => { e with releaseWatch := none })) he
    have hx : execReleaseWatchExpiry s = .next (latchCause .nipStuck (s.onEpu (fun e => { e with releaseWatch := none }))) :=
      congrArg _ ((if_pos hw).trans (if_pos hc))
    refine ⟨_, hx, ?_, h1, h2, h3, fun hn hl => ?_, fun hl => ?_⟩
    · exact latchCause_get .nipStuck _
    · rw [latchCause_faults (c := .nipStuck) (s := s.onEpu _) hn hl, enterFault_wtb]
    · rcases hl with hl | hl
      · rw [latchCause_latched (c := .nipStuck) (s := s.onEpu _) hl]
        rfl
      · cases hg : s.wtb.latched.get .nipStuck with
        | true => rw [latchCause_latched (s := s.onEpu _) hg]; rfl
        | false =>
          rw [latchCause_stays (s := s.onEpu _) hg hl]
          simp [noteCause]
  · exact congrArg _ ((if_pos hw).trans ((if_neg (by simp [hc])).trans (nipSeenOpen_releasing he)))
  · exact congrArg _ ((if_pos hw).trans ((if_neg (by simp [hc])).trans (nipSeenOpen_stands he)))
  · exact congrArg _ (if_neg (by simp [hw]))
  · exact congrArg _ ((lossTest_lost hp hn hr he hl).trans (embossOut_closed hc))
  · exact ⟨_, congrArg _ ((lossTest_lost hp hn hr he hl).trans (embossOut_open hc rfl)), rfl, rfl, rfl, rfl, rfl⟩
  · exact congrArg _ (lossTest_stands h)

end Sys2Proof.Machine
end

section
/-! The emboss index: its phase, the controller and the loop (R76 to R82). -/

namespace Sys2Proof.Machine

/-! ### Signed differences of near positions (R2) -/

theorem sdiff_posPlus {p q : Pos} {n : Int} (h1 : -2147483648 ≤ sdiff p q + n) (h2 : sdiff p q + n < 2147483648) :
    sdiff (posPlus p n) q = sdiff p q + n := by
  have he : p + BitVec.ofInt 32 n - q = p - q + BitVec.ofInt 32 n := add_sub_right_comm (α := BitVec 32) _ _ _
  unfold sdiff posPlus at *
  rw [he, BitVec.toInt_add, BitVec.toInt_ofInt, Int.add_bmod_bmod]
  exact Int.bmod_eq_of_le (by omega) (by omega)

/-- The difference of two positions by their distances from a third. -/
theorem sdiff_of_both {p a b : Pos} (h1 : -2147483648 ≤ sdiff p b - sdiff p a) (h2 : sdiff p b - sdiff p a < 2147483648) :
    sdiff a b = sdiff p b - sdiff p a := by
  have he : a - b = (p - b) - (p - a) := (sub_sub_sub_cancel_left (G := BitVec 32) _ _ _).symm
  unfold sdiff at *
  rw [he, BitVec.toInt_sub]
  exact Int.bmod_eq_of_le (by omega) (by omega)

/-! ### The phase of an index (R77) -/

theorem State.embossReference_eq (s : State) (r : RepeatRecord) :
    s.embossReference r = r.origin + BitVec.ofNat 32 (s.tku.path.de + s.epu.params.offset) := by
  unfold embossReference posPlus
  rw [← Nat.cast_add, BitVec.ofInt_natCast]

/-- One record in the search for the reference at or below a limit. -/
def nearerReference (s : State) (limit : Pos) (best : Option RepeatRecord) (r : RepeatRecord) : Option RepeatRecord :=
  if sdiff limit (s.embossReference r) < 0 then best
  else match best with
    | none => some r
    | some b => if 0 < sdiff (s.embossReference r) (s.embossReference b) then some r else best

theorem State.referenceRecord_eq (s : State) (limit : Pos) :
    s.referenceRecord limit = s.tku.track.foldl (nearerReference s limit) none := rfl

section
variable {s : State} {pe : Pos} {h : Int} (h0 : 0 ≤ h) (h1 : h < 1073741824)
include h0 h1

/-- The record found is one at or below the limit whose distance from the index is the least. -/
theorem foldl_nearerReference {rs : List RepeatRecord}
    (hr : ∀ r ∈ rs, (sdiff pe (s.embossReference r)).natAbs < 1073741824) :
    (rs.foldl (nearerReference s (posPlus pe h)) none = none → ∀ q ∈ rs, sdiff pe (s.embossReference q) < -h) ∧
    (∀ b, rs.foldl (nearerReference s (posPlus pe h)) none = some b → b ∈ rs ∧ -h ≤ sdiff pe (s.embossReference b) ∧
      ∀ q ∈ rs, -h ≤ sdiff pe (s.embossReference q) → sdiff pe (s.embossReference b) ≤ sdiff pe (s.embossReference q)) := by
  induction rs using List.reverseRecOn with
  | nil => simp
  | append_singleton rs r ih =>
    obtain ⟨ihn, ihs⟩ := ih fun x hx => hr x (by simp [hx])
    have hd := hr r (by simp)
    have hlim : sdiff (posPlus pe h) (s.embossReference r) = sdiff pe (s.embossReference r) + h :=
      sdiff_posPlus (by omega) (by omega)
    rw [List.foldl_append, List.foldl_cons, List.foldl_nil]
    simp only [List.mem_append, List.mem_singleton]
    by_cases hbeyond : sdiff pe (s.embossReference r) + h < 0
    · have hs : ∀ best, nearerReference s (posPlus pe h) best r = best := fun best => if_pos (by rwa [hlim])
      rw [hs]
      refine ⟨fun hn q hq => ?_, fun b hb => ?_⟩
      · rcases hq with hq | rfl
        · exact ihn hn q hq
        · omega
      · obtain ⟨hm, hl, hmin⟩ := ihs b hb
        refine ⟨.inl hm, hl, fun q hq hql => ?_⟩
        rcases hq with hq | rfl
        · exact hmin q hq hql
        · omega
    · have hs : ∀ best, nearerReference s (posPlus pe h) best r = _ := fun best => if_neg (by rwa [hlim])
      rw [hs]
      cases hbest : rs.foldl (nearerReference s (posPlus pe h)) none with
      | none =>
        refine ⟨nofun, fun b hb => ?_⟩
        obtain rfl := Option.some.inj hb
        refine ⟨.inr rfl, by omega, fun q hq hql => ?_⟩
        rcases hq with hq | rfl
        · have := ihn hbest q hq
          omega
        · exact le_rfl
      | some a =>
        obtain ⟨hm, hl, hmin⟩ := ihs a hbest
        have ha := hr a (by simp [hm])
        have hab : sdiff (s.embossReference r) (s.embossReference a) =
            sdiff pe (s.embossReference a) - sdiff pe (s.embossReference r) := sdiff_of_both (by omega) (by omega)
        dsimp only
        rw [hab]
        refine ⟨fun hn => by split at hn <;> simp at hn, fun b hb => ?_⟩
        split at hb
        next hlt =>
          obtain rfl := Option.some.inj hb
          refine ⟨.inr rfl, by omega, fun q hq hql => ?_⟩
          rcases hq with hq | rfl
          · have := hmin q hq hql
            omega
          · exact le_rfl
        next hge =>
          obtain rfl := Option.some.inj hb
          refine ⟨.inl hm, hl, fun q hq hql => ?_⟩
          rcases hq with hq | rfl
          · exact hmin q hq hql
          · omega

end

/-- The correction that the magnitude law describes (R62). -/
theorem correctionOf_eq {e c : Int} {gain maxStep : Nat} (he : e ≠ 0)
    (hc : c.natAbs = min ((e.natAbs * gain + 128) / 256) maxStep) (hp : 0 < e → 0 ≤ c) (hn : e < 0 → c ≤ 0) :
    correctionOf e gain maxStep = c := by
  unfold correctionOf
  rw [← hc]
  dsimp only
  split
  next h =>
    have := hn h
    omega
  next h =>
    have := hp (by omega)
    omega

theorem correctionOf_eq_zero {e : Int} {gain maxStep : Nat} :
    correctionOf e gain maxStep = 0 ↔ min ((e.natAbs * gain + 128) / 256) maxStep = 0 := by
  unfold correctionOf
  dsimp only
  split <;> omega

/-! ### A reading of EIX (R76) -/

theorem readEix_stands {e : Bool} {s : State} (h : s.wtb.newWeb = false ∨ s.running = false ∨ s.epu.state = .none) :
    readEix e s = { s with pins := { s.pins with eix := e } } := by
  refine if_neg ?_
  rintro ⟨ha, hs⟩
  simp only [State.advancing, Bool.and_eq_true] at ha
  rcases h with h | h | h
  · exact Bool.false_ne_true (h.symm.trans ha.1)
  · exact Bool.false_ne_true (h.symm.trans ha.2)
  · exact hs h

theorem readEix_plain {e : Bool} {s : State} (hn : s.wtb.newWeb = true) (hr : s.running = true) (hs : s.epu.state ≠ .none)
    (he : e = s.wtb.polarity.eix ∨ s.epu.eixPrev = true) : readEix e s = { s with
      pins := { s.pins with eix := e }, epu := { s.epu with eixPrev := decide (e ≠ s.wtb.polarity.eix) } } := by
  have ha : (s.onPins (fun p => { p with eix := e })).eixActive = decide (e ≠ s.wtb.polarity.eix) := by
    cases e <;> cases hp : s.wtb.polarity.eix <;> simp [State.eixActive, reading, hp]
  refine (if_pos ⟨Bool.and_eq_true_iff.2 ⟨hn, hr⟩, hs⟩).trans ?_
  dsimp only
  rw [ha]
  refine if_neg ?_
  rcases he with he | he <;> simp [he]

theorem readEix_edge {e : Bool} {s : State} (hn : s.wtb.newWeb = true) (hr : s.running = true) (hs : s.epu.state ≠ .none)
    (he : e ≠ s.wtb.polarity.eix) (hp : s.epu.eixPrev = false) : readEix e s = workIndex { s with
      pins := { s.pins with eix := e }, epu := { s.epu with eixPrev := true } } := by
  have ha : (s.onPins (fun p => { p with eix := e })).eixActive = true := by
    simpa [State.eixActive, reading] using he
  refine (if_pos ⟨Bool.and_eq_true_iff.2 ⟨hn, hr⟩, hs⟩).trans ?_
  dsimp only
  rw [ha]
  exact if_pos (by simp [hp])

theorem workIndex_eq {s : State} {ph : Option PhaseRegister} (h : s.phaseAt s.wtb.wp = ph) :
    workIndex s = if s.throwsOut ph then embossController s.wtb.wp ph (recordPhase ph s)
      else embossLoop ph (embossController s.wtb.wp ph (recordPhase ph s)) := by
  subst h
  rfl

/-- A unit out of step only records the phase (R77, R78). -/
theorem workIndex_idle {s : State} {ph : Option PhaseRegister} (h : s.phaseAt s.wtb.wp = ph)
    (hs : s.epu.state = .opened ∨ s.epu.state = .releasing) : workIndex s = recordPhase ph s := by
  have hr : (recordPhase ph s).epu.state = s.epu.state := by cases ph <;> rfl
  have ht : s.throwsOut ph = false := by rcases hs with hs | hs <;> simp [State.throwsOut, hs]
  have hc : embossController s.wtb.wp ph (recordPhase ph s) = recordPhase ph s := by
    unfold embossController
    rw [hr]
    rcases hs with hs | hs <;> rw [hs]
  have hl : embossLoop ph (recordPhase ph s) = recordPhase ph s := by
    cases ph with
    | none => rfl
    | some p => exact if_pos (.inr (by rw [hr]; rcases hs with hs | hs <;> simp [hs]))
  rw [workIndex_eq h, if_neg (by simp [ht]), hc, hl]

/-- In step an index that is kept reaches the loop after the controller (R77, R80, R82). -/
theorem workIndex_kept {s : State} {ph : PhaseRegister} (h : s.phaseAt s.wtb.wp = some ph)
    (hk : s.epu.state = .engaged → ph.phase.natAbs ≤ s.faultLimit) : workIndex s =
      embossLoop (some ph) (embossController s.wtb.wp (some ph) (recordPhase (some ph) s)) := by
  have ht : s.throwsOut (some ph) = false := by
    by_cases he : s.epu.state = .engaged
    · simp [State.throwsOut, he, hk he]
    · simp [State.throwsOut, he]
  rw [workIndex_eq h, if_neg (by simp [ht])]

/-- An index that throws the unit out reaches no loop (R82). -/
theorem workIndex_thrown {s : State} {ph : PhaseRegister} (h : s.phaseAt s.wtb.wp = some ph)
    (he : s.epu.state = .engaged) (hk : s.faultLimit < ph.phase.natAbs) :
    workIndex s = embossOut 1 ph.number (recordPhase (some ph) s) := by
  rw [workIndex_eq h, if_pos (by simp [State.throwsOut, he, hk])]
  have hr : (recordPhase (some ph) s).epu.state = .engaged := he
  unfold embossController
  rw [hr]
  exact if_pos hk

theorem workIndex_lost {s : State} (h : s.phaseAt s.wtb.wp = none) (he : s.epu.state = .engaged) :
    workIndex s = embossOut 3 0 (recordPhase none s) := by
  rw [workIndex_eq h, if_pos (by simp [State.throwsOut, he])]
  have hr : (recordPhase none s).epu.state = .engaged := he
  unfold embossController
  rw [hr]

theorem workIndex_syncing_lost {s : State} (h : s.phaseAt s.wtb.wp = none) (hs : s.epu.state = .syncing) :
    workIndex s = (recordPhase none s).onEpu (fun e => { e with engageCount := 0 }) := by
  rw [workIndex_eq h, if_neg (by simp [State.throwsOut, hs])]
  have hr : (recordPhase none s).epu.state = .syncing := hs
  unfold embossController
  rw [hr]
  rfl

section
variable {s : State} {pe : Pos} {ph : PhaseRegister}

theorem embossController_syncing (hs : s.epu.state = .syncing) : embossController pe (some ph) s =
    if ph.phase.natAbs ≤ s.epu.params.engageWindow then
      if s.epu.engageCount + 1 < 3 then s.onEpu (fun e => { e with engageCount := e.engageCount + 1 })
      else enterEngaged pe ph.number s
    else s.onEpu (fun e => { e with engageCount := 0 }) := by
  unfold embossController
  rw [hs]
  rfl

theorem embossController_engaged (hs : s.epu.state = .engaged) (hk : ph.phase.natAbs ≤ s.faultLimit) :
    embossController pe (some ph) s = s.onEpu (fun e => { e with lastIndex := some pe }) := by
  unfold embossController
  rw [hs]
  exact if_neg (Nat.not_lt.2 hk)

/-- The loop outside RUN and out of step (R78). -/
theorem embossLoop_stands (h : s.wtb.line ≠ .run ∨ (s.epu.state ≠ .syncing ∧ s.epu.state ≠ .engaged)) :
    embossLoop (some ph) s = s := if_pos h

theorem embossLoop_acts (hl : s.wtb.line = .run) (hs : s.epu.state = .syncing ∨ s.epu.state = .engaged) :
    embossLoop (some ph) s =
      if 0 < s.epu.settle then s.onEpu (fun e => { e with settle := 0 })
      else if ph.phase.natAbs ≤ s.epu.params.deadband then s
      else if correctionOf ph.phase s.epu.params.gain s.epu.params.maxStep = 0 then s
      else (addOwed embossChannel (correctionOf ph.phase s.epu.params.gain s.epu.params.maxStep) ph.number s).onEpu
        (fun e => { e with settle := 1 }) := by
  refine if_neg ?_
  rintro (h | ⟨h1, h2⟩)
  · exact h hl
  · exact hs.elim h1 h2

end

/-- The phase found lies within half a repeat of the index, no nearer reference lying within it (R77; log 25). -/
theorem phaseAt_spec {s : State} {pe : Pos} (h0 : 0 ≤ s.halfRepeat) (h1 : s.halfRepeat < 1073741824)
    (hr : ∀ r ∈ s.tku.track, (sdiff pe (s.embossReference r)).natAbs < 1073741824) :
    (∀ ph, s.phaseAt pe = some ph → ∃ r ∈ s.tku.track, ph = ⟨sdiff pe (s.embossReference r), r.number⟩ ∧
      -s.halfRepeat ≤ ph.phase ∧ ph.phase ≤ s.halfRepeat ∧
      ∀ q ∈ s.tku.track, sdiff pe (s.embossReference q) < ph.phase → sdiff pe (s.embossReference q) < -s.halfRepeat) ∧
    (s.phaseAt pe = none → ∀ q ∈ s.tku.track,
      sdiff pe (s.embossReference q) < -s.halfRepeat ∨ s.halfRepeat < sdiff pe (s.embossReference q)) := by
  obtain ⟨hnone, hsome⟩ := foldl_nearerReference h0 h1 hr
  unfold State.phaseAt
  dsimp only
  rw [State.referenceRecord_eq]
  cases hb : s.tku.track.foldl (nearerReference s (posPlus pe s.halfRepeat)) none with
  | none => exact ⟨nofun, fun _ q hq => .inl (hnone hb q hq)⟩
  | some b =>
    obtain ⟨hm, hl, hmin⟩ := hsome b hb
    dsimp only
    refine ⟨fun ph h => ?_, fun h q hq => ?_⟩
    · split at h
      next hbound =>
        obtain rfl := Option.some.inj h
        refine ⟨b, hm, rfl, hbound.1, hbound.2, fun q hq hlt => ?_⟩
        by_contra hn
        exact absurd (hmin q hq (by omega)) (Int.not_le.2 hlt)
      next => simp at h
    · split at h
      next => simp at h
      next hbound =>
        by_cases hq' : -s.halfRepeat ≤ sdiff pe (s.embossReference q)
        · have := hmin q hq hq'
          exact .inr (by omega)
        · exact .inl (by omega)

/-- Settles O35. -/
theorem embossIndexIsWorked : Obligations.EmbossIndexIsWorked := by
  refine ⟨fun pe s ref h hh h0 h1 href hnear => ?_, fun e s => ?_⟩
  · have hd : ∀ r, (pe - ref r).toInt = sdiff pe (s.embossReference r) := fun r => by
      rw [href, State.embossReference_eq]
      rfl
    simp only [hd] at hnear ⊢
    rw [hh] at h0 h1 ⊢
    exact phaseAt_spec h0 h1 hnear
  intro p q thrown
  refine ⟨fun h => congrArg _ (readEix_stands h), fun hn hr hs he => congrArg _ (readEix_plain hn hr hs he),
    fun hn hr he hp => ?_, fun ph => ⟨fun h => ?_, fun hl hs => ⟨fun h => ?_, fun h0 h => ?_, fun c h0 hd hc hcp hcn hne => ?_⟩⟩⟩
  · have hx : s.epu.state ≠ .none → exec (.embossIndex e) s = .next (workIndex q) := fun hs =>
      congrArg _ (readEix_edge hn hr hs he hp)
    have hph : q.phaseAt q.wtb.wp = s.phaseAt s.wtb.wp := rfl
    have hsync : ∀ ph, s.epu.state = .syncing → q.phaseAt q.wtb.wp = some ph → workIndex q = embossLoop (some ph) _ :=
      fun ph hs h => (workIndex_kept h fun he => absurd (hs.symm.trans he) (by decide)).trans (congrArg _
        (embossController_syncing (s := recordPhase (some ph) q) hs))
    refine ⟨fun hs => ⟨fun ph h => ?_, fun h => ?_⟩, fun hs h => ?_, fun ph hs h => ⟨fun hw => ?_, fun hw hc => ?_, fun hw hc => ?_⟩,
      fun ph hs h hw => ?_, fun ph hs hnip h hw => ⟨_, rfl, ?_⟩, fun hs hnip h => ⟨_, rfl, ?_⟩, fun ph hs hnip h hw => ?_,
      fun hs hnip h => ?_⟩
    · exact (hx (by rcases hs with hs | hs <;> simp [hs])).trans (congrArg _ (workIndex_idle (s := q) h hs))
    · exact (hx (by rcases hs with hs | hs <;> simp [hs])).trans (congrArg _ (workIndex_idle (s := q) h hs))
    · exact (hx (by simp [hs])).trans (congrArg _ (workIndex_syncing_lost (s := q) h hs))
    · exact (hx (by simp [hs])).trans (congrArg _ ((hsync ph hs h).trans (congrArg _ (if_neg (Nat.not_le.2 hw)))))
    · exact (hx (by simp [hs])).trans (congrArg _ ((hsync ph hs h).trans (congrArg _ ((if_pos hw).trans (if_pos hc)))))
    · exact (hx (by simp [hs])).trans (congrArg _ ((hsync ph hs h).trans (congrArg _ ((if_pos hw).trans
        (if_neg (Nat.not_lt.2 hc))))))
    · exact (hx (by simp [hs])).trans (congrArg _ ((workIndex_kept (s := q) h fun _ => hw).trans (congrArg _
        (embossController_engaged (s := recordPhase (some ph) q) hs hw))))
    · exact (hx (by simp [hs])).trans (congrArg _ ((workIndex_thrown (s := q) h hs hw).trans (embossOut_closed hnip)))
    · exact (hx (by simp [hs])).trans (congrArg _ ((workIndex_lost (s := q) h hs).trans (embossOut_closed hnip)))
    · exact (hx (by simp [hs])).trans (congrArg _ ((workIndex_thrown (s := q) h hs hw).trans (embossOut_open hnip rfl)))
    · exact (hx (by simp [hs])).trans (congrArg _ ((workIndex_lost (s := q) h hs).trans (embossOut_open hnip rfl)))
  · exact embossLoop_stands h
  · exact (embossLoop_acts hl hs).trans (if_pos h)
  · refine (embossLoop_acts hl hs).trans ((if_neg (by omega)).trans ?_)
    split
    · rfl
    next hd => exact if_pos (correctionOf_eq_zero.2 (h.resolve_left hd))
  · have hce := correctionOf_eq (by omega) hc hcp hcn
    have hloop : embossLoop (some ph) s = (addOwed embossChannel c ph.number s).onEpu (fun e => { e with settle := 1 }) := by
      refine (embossLoop_acts hl hs).trans ((if_neg (by omega)).trans ((if_neg (by omega)).trans ((if_neg ?_).trans ?_)))
      · rwa [hce]
      · rw [hce]
    refine ⟨⟨_, rfl, hloop⟩, fun h1 h2 => ?_⟩
    rw [hloop, addOwed_within h1 h2]
    rfl

end Sys2Proof.Machine
end

section
/-! Register entries: the runs, the alarm and the station loop (R55 to R63). -/

namespace Sys2Proof.Machine

/-! ### One station changed -/

/-- The state `t` with the stations of `s` and the station `x` among them. -/
def putStation (s : State) (k : Fin 8) (x : Station) (t : State) : State :=
  { t with rlu := { t.rlu with stations := s.rlu.stations.set k x } }

theorem putStation_stations (s : State) (k : Fin 8) (x : Station) (t : State) :
    (putStation s k x t).rlu.stations = s.rlu.stations.set k x := rfl

/-- A change of the station of a state that holds `x` there and else what `s` holds. -/
theorem onStation_of_set {s t : State} {k : Fin 8} {x : Station} (h : t.rlu.stations = s.rlu.stations.set k x)
    (f : Station → Station) : t.onRlu (fun r => r.onStation k f) = putStation s k (f x) t := by
  simp only [State.onRlu, Rlu.onStation, putStation, h]
  simp

theorem onStation_of_eq {s t : State} (h : t.rlu.stations = s.rlu.stations) (k : Fin 8) (f : Station → Station) :
    t.onRlu (fun r => r.onStation k f) = putStation s k (f s.rlu.stations[k]) t := by
  simp only [State.onRlu, Rlu.onStation, putStation, h]

theorem station_of_set {s t : State} {k : Fin 8} {x : Station} (h : t.rlu.stations = s.rlu.stations.set k x) :
    t.rlu.stations[k] = x := by
  simp [h]

/-- What stands of the stations where one of them is put back. -/
theorem putStation_self {s t : State} {k : Fin 8} {x : Station} (h : t.rlu.stations = s.rlu.stations.set k x) :
    putStation s k x t = t := by
  rw [putStation, ← h]

theorem addOwed_stations (c : Fin 9) (a : Int) (n : Nat) (s : State) :
    (addOwed c a n s).rlu.stations = s.rlu.stations := by
  unfold addOwed
  dsimp only
  split
  · rfl
  · rw [raise_rlu]
    rfl

/-! ### The station loop (R61 to R63) -/

section
variable {s t : State} {k : Fin 8} {n : Nat} {x : Station} (h : t.rlu.stations = s.rlu.stations.set k x)
include h

theorem stationLoop_stands {rd : RegReading} (hs : t.wtb.line ≠ .run ∨ x.mode ≠ .auto) :
    stationLoop k n rd t = t := by
  refine if_pos ?_
  rwa [station_of_set h]

theorem stationLoop_counts {rd : RegReading} (hl : t.wtb.line = .run) (hm : x.mode = .auto) (hs : 0 < x.settle) :
    stationLoop k n rd t = putStation s k { x with settle := x.settle - 1 } t := by
  rw [← onStation_of_set h (fun st => { st with settle := st.settle - 1 })]
  unfold stationLoop
  dsimp only
  rw [station_of_set h, if_neg (by simp [hl, hm]), if_pos hs]

/-- At a settle countdown of 0 a MISSING entry does nothing (R61). -/
theorem stationLoop_missing (hl : t.wtb.line = .run) (hm : x.mode = .auto) (hs : x.settle = 0) :
    stationLoop k n .missing t = t := by
  unfold stationLoop
  dsimp only
  rw [station_of_set h, if_neg (by simp [hl, hm]), if_neg (by omega)]

theorem stationLoop_settled {e : Int} {b : Bool} (hl : t.wtb.line = .run) (hm : x.mode = .auto) (hs : x.settle = 0) :
    stationLoop k n (.error e b) t =
      if e.natAbs ≤ x.params.deadband then t
      else if correctionOf e x.params.gain x.params.maxStep = 0 then t
      else putStation s k { x with settle := settleValue t.tku.path.d[k] t.tku.estimate }
        (addOwed (channelOfStation k) (correctionOf e x.params.gain x.params.maxStep) n t) := by
  have ho := onStation_of_set (t := addOwed (channelOfStation k) (correctionOf e x.params.gain x.params.maxStep) n t)
    ((addOwed_stations ..).trans h) (fun st => { st with settle := settleValue t.tku.path.d[k] t.tku.estimate })
  have hset : (addOwed (channelOfStation k) (correctionOf e x.params.gain x.params.maxStep) n t).settleOf k =
      settleValue t.tku.path.d[k] t.tku.estimate := by
    unfold State.settleOf
    rw [addOwed_tku]
  rw [← ho]
  unfold stationLoop
  dsimp only
  rw [station_of_set h, if_neg (by simp [hl, hm]), if_neg (by omega), hset]

/-- A correction is owed and the countdown reloaded (R62, R63). -/
theorem stationLoop_corrects {e c : Int} {b : Bool} (hl : t.wtb.line = .run) (hm : x.mode = .auto) (hs : x.settle = 0)
    (hd : x.params.deadband < e.natAbs)
    (hc : c.natAbs = min ((e.natAbs * x.params.gain + 128) / 256) x.params.maxStep) (hp : 0 < e → 0 ≤ c)
    (hn : e < 0 → c ≤ 0) (h0 : c ≠ 0) : stationLoop k n (.error e b) t =
      putStation s k { x with settle := settleValue t.tku.path.d[k] t.tku.estimate }
        (addOwed (channelOfStation k) c n t) := by
  have hce := correctionOf_eq (by omega) hc hp hn
  rw [stationLoop_settled h hl hm hs, if_neg (by omega), if_neg (by rwa [hce]), hce]

theorem stationLoop_within {e : Int} {b : Bool} (hs : t.wtb.line ≠ .run ∨ x.mode ≠ .auto ∨ (x.settle = 0 ∧
    (e.natAbs ≤ x.params.deadband ∨ min ((e.natAbs * x.params.gain + 128) / 256) x.params.maxStep = 0))) :
    stationLoop k n (.error e b) t = t := by
  by_cases hl : t.wtb.line = .run
  · by_cases hm : x.mode = .auto
    · rcases hs with hs | hs | ⟨h0, hs⟩
      · exact absurd hl hs
      · exact absurd hm hs
      · rw [stationLoop_settled h hl hm h0]
        split
        · rfl
        next hd => exact if_pos (correctionOf_eq_zero.2 (hs.resolve_left hd))
    · exact stationLoop_stands h (.inr hm)
  · exact stationLoop_stands h (.inl hl)

end

/-! ### The entry and its runs (R55 to R58, R60) -/

theorem satInc_255 (n : Nat) : satInc 255 n = min 255 (n + 1) := by
  unfold satInc
  split <;> omega

theorem writeRegEntry_rlu (k : Fin 8) (n : Nat) (rd : RegReading) (s : State) :
    (writeRegEntry k n rd s).rlu = s.rlu := rfl

theorem countOutOfTolerance_within {s t : State} (h : t.rlu.stations = s.rlu.stations) (k : Fin 8) (n : Nat) (e : Int) :
    countOutOfTolerance k n (.error e true) t =
      putStation s k { s.rlu.stations[k] with outRun := 0, alarmArmed := true } t :=
  onStation_of_eq h k (fun st => { st with outRun := 0, alarmArmed := true })

theorem countOutOfTolerance_alarm {s t : State} {k : Fin 8} (h : t.rlu.stations = s.rlu.stations)
    (ha : s.rlu.stations[k].alarmArmed = true)
    (hc : s.rlu.stations[k].params.alarmCount ≤ min 255 (s.rlu.stations[k].outRun + 1)) (n : Nat) (e : Int) :
    countOutOfTolerance k n (.error e false) t = raise .registerAlarm (k.val + 1) n (putStation s k
      { s.rlu.stations[k] with outRun := min 255 (s.rlu.stations[k].outRun + 1), alarmArmed := false } t) := by
  unfold countOutOfTolerance
  dsimp only
  rw [h, satInc_255, if_pos ⟨ha, hc⟩]
  exact congrArg _ (onStation_of_eq h k (fun st =>
    { st with outRun := min 255 (s.rlu.stations[k].outRun + 1), alarmArmed := false }))

theorem countOutOfTolerance_counts {s t : State} {k : Fin 8} (h : t.rlu.stations = s.rlu.stations)
    (hc : s.rlu.stations[k].alarmArmed = false ∨
      min 255 (s.rlu.stations[k].outRun + 1) < s.rlu.stations[k].params.alarmCount) (n : Nat) (e : Int) :
    countOutOfTolerance k n (.error e false) t = putStation s k
      { s.rlu.stations[k] with outRun := min 255 (s.rlu.stations[k].outRun + 1) } t := by
  unfold countOutOfTolerance
  dsimp only
  rw [h, satInc_255, if_neg ?_]
  · exact onStation_of_eq h k (fun st => { st with outRun := min 255 (s.rlu.stations[k].outRun + 1) })
  · rintro ⟨ha, hle⟩
    rcases hc with hc | hc
    · exact absurd (ha.symm.trans hc) (by decide)
    · omega

theorem countMissing_error {s t : State} {k : Fin 8} {x : Station} (h : t.rlu.stations = s.rlu.stations.set k x)
    (n : Nat) (e : Int) (b : Bool) :
    countMissing k n (.error e b) t = putStation s k { x with missRun := 0 } t :=
  onStation_of_set h (fun st => { st with missRun := 0 })

theorem countMissing_counts {s t : State} {k : Fin 8} (h : t.rlu.stations = s.rlu.stations)
    (hm : s.rlu.stations[k].missRun + 1 < 4) (n : Nat) : countMissing k n .missing t =
      putStation s k { s.rlu.stations[k] with missRun := s.rlu.stations[k].missRun + 1 } t := by
  unfold countMissing
  dsimp only
  rw [h]
  exact (if_pos hm).trans (onStation_of_eq h k (fun st => { st with missRun := st.missRun + 1 }))

/-- The fourth MISSING in a row raises MARK-LOST and drops an AUTO station (R58). -/
theorem countMissing_lost {s t : State} {k : Fin 8} (h : t.rlu.stations = s.rlu.stations)
    (hm : 4 ≤ s.rlu.stations[k].missRun + 1) (n : Nat) : countMissing k n .missing t =
      putStation s k { s.rlu.stations[k] with
        missRun := 0, mode := if s.rlu.stations[k].mode = .auto then .monitor else s.rlu.stations[k].mode }
      (raise .markLost (k.val + 1) n (putStation s k { s.rlu.stations[k] with missRun := 0 } t)) := by
  unfold countMissing
  dsimp only
  rw [h, onStation_of_eq h k (fun st => { st with missRun := 0 })]
  refine (if_neg (Nat.not_lt.2 hm)).trans
    (onStation_of_set (x := { s.rlu.stations[k] with missRun := 0 }) ?_ Station.dropAuto)
  rw [raise_rlu]
  rfl

/-- An entry of a record that is not COASTED (R60). -/
theorem registerEntry_eq {k : Fin 8} {n : Nat} {rd : RegReading} {s t : State}
    (h : countMissing k n rd (countOutOfTolerance k n rd (writeRegEntry k n rd s)) = t) :
    registerEntry k n false rd s = stationLoop k n rd t := by
  rw [← h]
  rfl

/-- An entry in tolerance, up to the loop. -/
theorem registerEntry_within (k : Fin 8) (n : Nat) (e : Int) (s : State) :
    registerEntry k n false (.error e true) s = stationLoop k n (.error e true)
      (putStation s k { s.rlu.stations[k] with outRun := 0, alarmArmed := true, missRun := 0 }
        (writeRegEntry k n (.error e true) s)) := by
  refine registerEntry_eq ?_
  rw [countOutOfTolerance_within (s := s) (congrArg Rlu.stations (writeRegEntry_rlu ..)),
    countMissing_error (putStation_stations ..)]
  rfl

/-- An entry out of tolerance whose alarm is raised, up to the loop. -/
theorem registerEntry_alarm {k : Fin 8} {s : State} (ha : s.rlu.stations[k].alarmArmed = true)
    (hc : s.rlu.stations[k].params.alarmCount ≤ min 255 (s.rlu.stations[k].outRun + 1)) {a : Bool} (h : a = false)
    (n : Nat) (e : Int) : registerEntry k n false (.error e false) s = stationLoop k n (.error e false)
      (putStation s k { s.rlu.stations[k] with
          outRun := min 255 (s.rlu.stations[k].outRun + 1), alarmArmed := a, missRun := 0 }
        (raise .registerAlarm (k.val + 1) n (putStation s k { s.rlu.stations[k] with
            outRun := min 255 (s.rlu.stations[k].outRun + 1), alarmArmed := a }
          (writeRegEntry k n (.error e false) s)))) := by
  subst h
  refine registerEntry_eq ?_
  rw [countOutOfTolerance_alarm (congrArg Rlu.stations (writeRegEntry_rlu ..)) ha hc]
  refine countMissing_error (x := { s.rlu.stations[k] with
    outRun := min 255 (s.rlu.stations[k].outRun + 1), alarmArmed := false }) ?_ n e false
  rw [raise_rlu]
  rfl

theorem registerEntry_counts {k : Fin 8} {s : State} (hc : s.rlu.stations[k].alarmArmed = false ∨
      min 255 (s.rlu.stations[k].outRun + 1) < s.rlu.stations[k].params.alarmCount) {a : Bool}
    (h : a = s.rlu.stations[k].alarmArmed) (n : Nat) (e : Int) :
    registerEntry k n false (.error e false) s = stationLoop k n (.error e false)
      (putStation s k { s.rlu.stations[k] with
          outRun := min 255 (s.rlu.stations[k].outRun + 1), alarmArmed := a, missRun := 0 }
        (writeRegEntry k n (.error e false) s)) := by
  subst h
  refine registerEntry_eq ?_
  rw [countOutOfTolerance_counts (congrArg Rlu.stations (writeRegEntry_rlu ..)) hc,
    countMissing_error (putStation_stations ..)]
  rfl

/-- A MISSING entry before the fourth in a row: it counts, and the settle countdown runs in the loop (R58, R61). -/
theorem registerEntry_missing {k : Fin 8} {s : State} (hm : s.rlu.stations[k].missRun + 1 < 4) (n : Nat) :
    registerEntry k n false .missing s = putStation s k { s.rlu.stations[k] with
      missRun := s.rlu.stations[k].missRun + 1
      settle := if s.wtb.line = .run ∧ s.rlu.stations[k].mode = .auto then s.rlu.stations[k].settle - 1
        else s.rlu.stations[k].settle } (writeRegEntry k n .missing s) := by
  have h := putStation_stations s k
    { s.rlu.stations[k] with missRun := s.rlu.stations[k].missRun + 1 } (writeRegEntry k n .missing s)
  rw [registerEntry_eq (countMissing_counts (congrArg Rlu.stations (writeRegEntry_rlu ..)) hm n)]
  split
  next hr =>
    obtain ⟨hl, ha⟩ := hr
    by_cases h0 : 0 < s.rlu.stations[k].settle
    · exact stationLoop_counts h hl ha h0
    · have hz : s.rlu.stations[k].settle - 1 = s.rlu.stations[k].settle := by omega
      rw [hz]
      exact stationLoop_missing h hl ha (Nat.eq_zero_of_not_pos h0)
  next hr => exact stationLoop_stands h (Decidable.not_and_iff_or_not.1 hr)

theorem registerEntry_lost {k : Fin 8} {s : State} (hm : 4 ≤ s.rlu.stations[k].missRun + 1) (n : Nat) :
    registerEntry k n false .missing s = putStation s k { s.rlu.stations[k] with
        missRun := 0, mode := if s.rlu.stations[k].mode = .auto then .monitor else s.rlu.stations[k].mode }
      (raise .markLost (k.val + 1) n (putStation s k { s.rlu.stations[k] with missRun := 0 }
        (writeRegEntry k n .missing s))) := by
  rw [registerEntry_eq (countMissing_lost (congrArg Rlu.stations (writeRegEntry_rlu ..)) hm n)]
  refine stationLoop_stands (putStation_stations ..) (.inr ?_)
  dsimp only
  split
  · decide
  · assumption

theorem putStation_putStation (s : State) (k : Fin 8) (x y : Station) (t : State) :
    putStation s k x (putStation s k y t) = putStation s k x t := rfl

/-- An addition that saturates nothing, at a station just put back. -/
theorem putStation_addOwed {s t : State} {k : Fin 8} {x y : Station} {c : Fin 9} {a : Int} {n : Nat}
    (ht : t.rlu = s.rlu) (hlo : -4095 ≤ s.rlu.channels[c].owed + a) (hhi : s.rlu.channels[c].owed + a ≤ 4095) :
    putStation s k x (addOwed c a n (putStation s k y t)) = { t with rlu := {
      stations := s.rlu.stations.set k x
      channels := s.rlu.channels.set c { s.rlu.channels[c] with owed := s.rlu.channels[c].owed + a } } } := by
  have hch : (putStation s k y t).rlu.channels = s.rlu.channels := (congrArg Rlu.channels ht :)
  rw [addOwed_within (s := putStation s k y t) (by rwa [hch]) (by rwa [hch])]
  simp [putStation, ht]

/-- The loop after an entry out of tolerance, in the line state that the alarm's route leaves (R61 to R63). -/
theorem stationLoop_ends {s t u : State} {k : Fin 8} {n : Nat} {e : Int} {x : Station}
    (hu : u = stationLoop k n (.error e false) (putStation s k x t)) (hp : t.tku.path = s.tku.path)
    (he : t.tku.estimate = s.tku.estimate) :
    (t.wtb.line ≠ .run ∨ x.mode ≠ .auto ∨ (x.settle = 0 ∧ e.natAbs ≤ x.params.deadband) → u = putStation s k x t) ∧
    (t.wtb.line = .run → x.mode = .auto → 0 < x.settle →
      u = putStation s k { x with settle := x.settle - 1 } t) ∧
    (t.wtb.line = .run → x.mode = .auto → x.settle = 0 → x.params.deadband < e.natAbs →
      (min ((e.natAbs * x.params.gain + 128) / 256) x.params.maxStep = 0 → u = putStation s k x t) ∧
      (∀ c : Int, c.natAbs = min ((e.natAbs * x.params.gain + 128) / 256) x.params.maxStep → (0 < e → 0 ≤ c) →
        (e < 0 → c ≤ 0) → c ≠ 0 → u = putStation s k { x with settle := settleValue s.tku.path.d[k] s.tku.estimate }
          (addOwed (channelOfStation k) c n (putStation s k x t)))) := by
  have h := putStation_stations s k x t
  refine ⟨fun hs => ?_, fun hl hm hs => ?_, fun hl hm hs hd => ⟨fun h0 => ?_, fun c hc hpos hneg h0 => ?_⟩⟩
  · exact hu.trans (stationLoop_within h (hs.imp id (Or.imp id (And.imp id .inl))))
  · exact hu.trans (stationLoop_counts h hl hm hs)
  · exact hu.trans (stationLoop_within h (.inr (.inr ⟨hs, .inr h0⟩)))
  · rw [hu, stationLoop_corrects h hl hm hs hd hc hpos hneg h0, ← hp, ← he]
    rfl

/-- Settles O33. -/
theorem registerEntriesDriveTheLoop : Obligations.RegisterEntriesDriveTheLoop := by
  intro k n s written st put good
  have hput : ∀ t x, put t x = putStation s k x t := fun _ _ => rfl
  refine ⟨fun e => rfl, fun e => rfl, rfl, ?_, ?_, ?_, ?_, ?_, fun hm => registerEntry_missing hm n,
    fun hm => ⟨_, rfl, registerEntry_lost hm n⟩, ?_, ?_⟩
  · intro e hs
    rw [registerEntry_within]
    exact stationLoop_within (putStation_stations ..) (hs.imp id (Or.imp id (And.imp id .inl)))
  · intro e hl hm hs
    rw [registerEntry_within]
    exact stationLoop_counts (putStation_stations ..) hl hm hs
  · intro e c hl hm hs hd hc hp hn h0 hlo hhi
    rw [registerEntry_within]
    exact (stationLoop_corrects (x := good) (putStation_stations s k good (writeRegEntry k n (.error e true) s))
      hl hm hs hd hc hp hn h0).trans
      (putStation_addOwed (writeRegEntry_rlu ..) hlo hhi)
  · intro e hl hm hs hd h0
    rw [registerEntry_within]
    exact stationLoop_within (putStation_stations ..) (.inr (.inr ⟨hs, .inr h0⟩))
  · intro e c hl hm hs hd hc hp hn h0
    refine ⟨_, rfl, ?_⟩
    rw [registerEntry_within]
    exact stationLoop_corrects (putStation_stations ..) hl hm hs hd hc hp hn h0
  · intro e
    by_cases hr : st.alarmArmed = true ∧ st.params.alarmCount ≤ min 255 (st.outRun + 1)
    · obtain ⟨ha, hc⟩ := hr
      have hd : (st.alarmArmed && decide (min 255 (st.outRun + 1) < st.params.alarmCount)) = false := by
        rw [ha, decide_eq_false (Nat.not_lt.2 hc)]
        rfl
      refine ⟨_, fun _ _ => rfl, fun hn => ?_, ?_⟩
      · rcases hn with hn | hn
        · exact absurd (ha.symm.trans hn) (by decide)
        · omega
      refine stationLoop_ends (registerEntry_alarm ha hc hd n e) ?_ ?_
      all_goals rw [raise_tku]; rfl
    · have hr' := (Decidable.not_and_iff_or_not.1 hr).imp Bool.eq_false_of_not_eq_true Nat.lt_of_not_le
      have hd : (st.alarmArmed && decide (min 255 (st.outRun + 1) < st.params.alarmCount)) = st.alarmArmed := by
        rcases hr' with hn | hn
        · rw [hn]
          rfl
        · rw [decide_eq_true hn, Bool.and_true]
      refine ⟨_, fun ha hc => absurd ⟨ha, hc⟩ hr, fun _ => rfl, ?_⟩
      exact stationLoop_ends (registerEntry_counts hr' hd n e) rfl rfl
  · intro e t ht
    exact ⟨fun ha hc => countOutOfTolerance_alarm (congrArg Rlu.stations ht) ha hc n e,
      fun hc => countOutOfTolerance_counts (congrArg Rlu.stations ht) hc n e⟩

end Sys2Proof.Machine
end

section
/-! Cuts and turrets: what an occurrence leaves of a lane, the attempt of a cut, and the turret (R133 to R139). -/

namespace Sys2Proof.Machine

/-! ### A lane at an occurrence -/

/-- An occurrence leaves a lane as it is, but for the mark of a CUT in WINDING and ARMED (R137, R178). -/
theorem raise_lane_cases (l : Lane) (ev : Event) (p1 p2 : Nat) (s : State) :
    (raise ev p1 p2 s).lane l = s.lane l ∨
      (((s.lane l).state = .winding ∨ (s.lane l).state = .armed) ∧ (raise ev p1 p2 s).lane l = (s.lane l).cutMarked) := by
  refine raise_keeps (fun t => t.lane l = s.lane l ∨ (((s.lane l).state = .winding ∨ (s.lane l).state = .armed) ∧
    t.lane l = (s.lane l).cutMarked)) ?_ ?_ ?_ ?_ ?_ ?_ ?_ ?_ ?_ ev p1 p2 s (.inl rfl)
  case refine_4 =>
    intro m t h
    by_cases hc : t.cuttable m
    · rw [cutLane_of_cuttable hc]
      by_cases hm : l = m
      · subst hm
        rw [State.lane_onLane_same]
        have hst : (t.lane l).state = (s.lane l).state := by
          rcases h with h | ⟨-, h⟩
          · rw [h]
          · rw [h]
            rfl
        refine .inr ⟨hst ▸ hc.2, ?_⟩
        rcases h with h | ⟨-, h⟩
        · rw [h]
        · rw [h, LaneControl.cutMarked_idem]
      · rwa [State.lane_onLane_ne t _ hm]
    · rwa [cutLane_of_not hc]
  all_goals intros; simp_all [State.lane]

/-- An occurrence leaves a lane that takes no CUT. -/
theorem raise_lane_of_uncut {l : Lane} {s : State} (hw : (s.lane l).state ≠ .winding) (ha : (s.lane l).state ≠ .armed)
    (ev : Event) (p1 p2 : Nat) : (raise ev p1 p2 s).lane l = s.lane l :=
  (raise_lane_cases l ev p1 p2 s).resolve_right fun h => h.1.elim hw ha

/-! ### What finalising a roll keeps (R140) -/

section
variable {P : State → Prop} (hr : ∀ ev p1 p2 t, P t → P (raise ev p1 p2 t)) (hl : ∀ t f, P t → P (t.onLbp f))
  (hh : ∀ (t : State) h, P t → P (t.onRku (fun k => { k with history := h })))
include hr hl hh

theorem offerLabel_keeps (j : LabelJob) (s : State) (h : P s) : P (offerLabel j s) := by
  have hw : ∀ j st t, P t → P (writeLabel j st t) := fun j st t ht => by
    unfold writeLabel
    split
    · exact hh t _ ht
    · exact ht
  have hg : ∀ t, P t → P (grant t) := fun t ht => by
    unfold grant
    split
    · unfold grantTo
      split
      · exact ht
      · exact hw _ _ _ (hl _ _ ht)
    · exact ht
  unfold offerLabel
  split
  · exact hg _ (hw _ _ _ (hl _ _ h))
  · exact hr _ _ _ _ (hw _ _ _ h)

/-- What an occurrence, every change of the label port and of the batch table, and another history keep, the finalising
of a roll keeps. -/
theorem finalise_keeps (hb : ∀ t f, P t → P (t.onBtu f)) (how : Closing) (l : Lane) (r : OpenRoll) (closing : Pos)
    (s : State) (h : P s) : P (finalise how l r closing s) := by
  have hd : P (dispose how l r (sdiff closing r.opening) s).1 := by
    unfold dispose
    split
    · exact h
    · exact takeCandidate_keeps hr hb _ s h
  have he : ∀ x t, P t → P (enterHistory x t) := fun x t ht => by
    unfold enterHistory
    split
    · exact hh t _ ht
    · split
      · exact hl _ _ (hh t _ ht)
      · exact ht
  unfold finalise
  dsimp only
  split
  · exact offerLabel_keeps hr hl hh _ _ (hr _ _ _ _ (he _ _ hd))
  · exact hr _ _ _ _ (he _ _ hd)

end

/-- A label job that is offered changes the label states of the history alone (R167). -/
theorem offerLabel_history (j : LabelJob) (s : State) :
    (offerLabel j s).rku.history.map RollRecord.unlabelled = s.rku.history.map RollRecord.unlabelled := by
  have hsame : ∀ {k k' : Rku}, k.SameRolls k' →
      k'.history.map RollRecord.unlabelled = k.history.map RollRecord.unlabelled := fun ⟨_, he, hm⟩ => he ▸ hm
  unfold offerLabel
  split
  · exact hsame ((writeLabel_sameRolls j .queued (s.onLbp _)).trans (grant_sameRolls _))
  · rw [raise_rku_history]
    exact hsame (writeLabel_sameRolls j .notQueued s)

/-- A finalised roll's record is in the history (R140). -/
theorem finalise_records (how : Closing) (l : Lane) (r : OpenRoll) (closing : Pos) (s : State) :
    ∃ h ∈ (finalise how l r closing s).rku.history, h.number = r.number ∧ h.lane = l ∧
      h.length = sdiff closing r.opening ∧ h.counts = r.counts ∧ h.flags = r.flags := by
  obtain ⟨⟨u, d, ans⟩, hd⟩ : ∃ x, x = dispose how l r (sdiff closing r.opening) s := ⟨_, rfl⟩
  rw [finalise_eq hd.symm rfl rfl]
  obtain ⟨x, hx⟩ : ∃ x, x = rollRecord l r (sdiff closing r.opening) d ans
    (if u.lbp.params.enabled l then .none else .off) := ⟨_, rfl⟩
  rw [← hx]
  have hin : x.unlabelled ∈ (raise .rollDone l.code r.number (enterHistory x u)).rku.history.map RollRecord.unlabelled := by
    obtain ⟨h, hk, before, hb, -⟩ := enterHistory_gains x u
    rw [raise_rku_history, hk]
    exact hb ▸ List.mem_append_right _ (List.mem_singleton_self _)
  have hout : ∀ t : State, x.unlabelled ∈ t.rku.history.map RollRecord.unlabelled → ∃ h ∈ t.rku.history, h.number = r.number ∧
      h.lane = l ∧ h.length = sdiff closing r.opening ∧ h.counts = r.counts ∧ h.flags = r.flags := fun t ht => by
    obtain ⟨y, hy, h1, h2, -, h4, h5, h6, -, -, -⟩ := mem_of_unlabelled ht
    subst hx
    exact ⟨y, hy, h1, h2, h4, h5, h6⟩
  refine hout _ ?_
  split
  · have hs := offerLabel_history (buildJob u.lbp.params x) (raise .rollDone l.code r.number (enterHistory x u))
    rwa [hs]
  · exact hin

/-! ### The attempt of a cut (R133, R135, R136) -/

section
variable {l : Lane} {winder : Bool} {c : ArmedCut} {s : State} (hc : (s.lane l).cut = some c)
include hc

theorem attemptCut_fires (hw : s.winderReady l winder = true) : attemptCut l winder s = fireCut l c s := by
  simp only [attemptCut, hc, hw, if_true]

theorem attemptCut_defers {r : OpenRoll} (hw : s.winderReady l winder = false) (ha : (s.lane l).state = .armed)
    (hr : (s.lane l).roll = some r) : attemptCut l winder s = deferRoll l r s := by
  simp only [attemptCut, hc, hw, ha, hr]
  rfl

theorem attemptCut_waits (hw : s.winderReady l winder = false) (h : (s.lane l).state ≠ .armed ∨ (s.lane l).roll = none) :
    attemptCut l winder s =
      raise .cutDeferred l.code 0 (s.onLane l (fun k => { k with cut := some { c with waiting := true } })) := by
  have hwait : s.onLane l LaneControl.wait = s.onLane l (fun k => { k with cut := some { c with waiting := true } }) :=
    s.onLane_congr l (by simp [LaneControl.wait, hc])
  rw [← hwait]
  unfold attemptCut
  simp only [hc, hw]
  split
  next hs => exact absurd hs (by decide)
  split
  next ha hr => rcases h with h | h <;> simp_all
  next => rfl

end

/-! ### The knife fires (R133, R135) -/

/-- A lane whose cut has fired, with the roll opened at the cut's reference. -/
def LaneControl.fired (k : LaneControl) (c : ArmedCut) (number : Nat) : LaneControl :=
  { k with
    pulses := k.pulses + 1, turret := some k.params.turretTimeout, cut := none, state := .indexing
    roll := some ⟨number, c.reference, c.reference, ⟨none, none, 0, 0, 0, 0, 0, 0, 0, ⟨0, 0, 0⟩, 0⟩,
      ⟨false, false, false, false, false⟩, 0⟩ }

/-- The part as a cut has fired and CUT-DONE has been raised, before the closed roll is finalised. -/
def firedCut (l : Lane) (c : ArmedCut) (s : State) : State :=
  raise .cutDone l.code (((s.lane l).roll.map (·.number)).getD 0)
    (({ s with rku := { s.rku with
      nextRoll := if s.rku.nextRoll < 65535 then s.rku.nextRoll + 1 else 1
      wrapped := s.rku.wrapped || decide (65535 ≤ s.rku.nextRoll) } }).onLane l (fun k => k.fired c s.rku.nextRoll))

theorem firedCut_eq (l : Lane) (c : ArmedCut) (s : State) :
    raise .cutDone l.code (((s.lane l).roll.map (·.number)).getD 0) (openRoll l c.reference (s.onLane l (fun k =>
      { k with pulses := k.pulses + 1, turret := some k.params.turretTimeout, cut := none, state := .indexing }))) =
    firedCut l c s := by
  cases l <;> rfl

theorem fireCut_none {l : Lane} {c : ArmedCut} {s : State} (h : (s.lane l).roll = none) :
    fireCut l c s = firedCut l c s := by
  rw [← firedCut_eq]
  simp only [fireCut, h]

theorem fireCut_some {l : Lane} {c : ArmedCut} {s : State} {r : OpenRoll} (h : (s.lane l).roll = some r) :
    fireCut l c s = finalise .byCut l r c.reference (firedCut l c s) := by
  rw [← firedCut_eq]
  simp only [fireCut, h]

/-- What a cut that fires leaves of the track, the stations and its lane. -/
structure Fired (l : Lane) (c : ArmedCut) (s t : State) : Prop where
  lane : t.lane l = (s.lane l).fired c s.rku.nextRoll
  nextRoll : t.rku.nextRoll = if s.rku.nextRoll < 65535 then s.rku.nextRoll + 1 else 1
  tku : t.tku = s.tku
  rlu : t.rlu = s.rlu

theorem Fired.raise {l : Lane} {c : ArmedCut} {s t : State} (h : Fired l c s t) (ev : Event) (p1 p2 : Nat) :
    Fired l c s (raise ev p1 p2 t) := by
  have hi : (t.lane l).state = .indexing := by rw [h.lane]; rfl
  exact ⟨(raise_lane_of_uncut (by simp [hi]) (by simp [hi]) ..).trans h.lane, (raise_rku_nextRoll ..).trans h.nextRoll,
    (raise_tku ..).trans h.tku, (raise_rlu ..).trans h.rlu⟩

theorem firedCut_fired (l : Lane) (c : ArmedCut) (s : State) : Fired l c s (firedCut l c s) := by
  have h : Fired l c s (({ s with rku := { s.rku with
      nextRoll := if s.rku.nextRoll < 65535 then s.rku.nextRoll + 1 else 1
      wrapped := s.rku.wrapped || decide (65535 ≤ s.rku.nextRoll) } }).onLane l (fun k => k.fired c s.rku.nextRoll)) :=
    ⟨(State.lane_onLane_same ..).trans (by cases l <;> rfl), by cases l <;> rfl, by cases l <;> rfl, by cases l <;> rfl⟩
  exact h.raise ..

/-- A lane's other units do not tell what became of the cut that fired. -/
theorem Fired.of_lanes {l : Lane} {c : ArmedCut} {s t u : State} (h : Fired l c s t) (hl : u.lane l = t.lane l)
    (hn : u.rku.nextRoll = t.rku.nextRoll) (ht : u.tku = t.tku) (hr : u.rlu = t.rlu) : Fired l c s u :=
  ⟨hl.trans h.lane, hn.trans h.nextRoll, ht.trans h.tku, hr.trans h.rlu⟩

theorem fireCut_fired (l : Lane) (c : ArmedCut) (s : State) : Fired l c s (fireCut l c s) := by
  cases hr : (s.lane l).roll with
  | none => exact fireCut_none hr ▸ firedCut_fired l c s
  | some r =>
    rw [fireCut_some hr]
    exact finalise_keeps (fun _ _ _ _ h => h.raise ..) (fun _ _ h => h.of_lanes rfl rfl rfl rfl)
      (fun _ _ h => h.of_lanes (by cases l <;> rfl) rfl rfl rfl) (fun _ _ h => h.of_lanes rfl rfl rfl rfl) _ _ _ _ _
      (firedCut_fired l c s)

/-! ### A roll cut is deferred (R136) -/

/-- A lane whose roll cut `c` waits, its roll `r` otherwise at `n` deferrals and with the OVERLENGTH flag `b`: what a
CUT then marks. -/
def LaneControl.Deferred (r : OpenRoll) (c : ArmedCut) (p : Nat) (n : Nat) (b : Bool) (k : LaneControl) : Prop :=
  k.state = .armed ∧ k.cut = some { c with waiting := true } ∧ k.pulses = p ∧ ∃ o, k.roll = some o ∧
    o.number = r.number ∧ o.opening = r.opening ∧ o.counts = r.counts ∧ o.deferrals = n ∧ o.flags.overlength = b

theorem raise_deferred {l : Lane} {r : OpenRoll} {c : ArmedCut} {p n : Nat} {b : Bool} {s : State}
    (h : (s.lane l).Deferred r c p n b) (ev : Event) (p1 p2 : Nat) : ((raise ev p1 p2 s).lane l).Deferred r c p n b := by
  rcases raise_lane_cases l ev p1 p2 s with hs | ⟨-, hs⟩
  · rwa [hs]
  · obtain ⟨h1, h2, h3, o, ho, h4⟩ := h
    rw [hs]
    exact ⟨h1, h2, h3, _, congrArg (Option.map _) ho, h4⟩

/-- The part as a roll cut has been deferred and CUT-DEFERRED raised. -/
def deferredCut (l : Lane) (r : OpenRoll) (c : ArmedCut) (s : State) : State :=
  raise .cutDeferred l.code r.number (s.onLane l (fun k => { k with
    cut := some { c with waiting := true }, roll := some { r with deferrals := min 255 (r.deferrals + 1) } }))

theorem deferredCut_deferred {l : Lane} {r : OpenRoll} {c : ArmedCut} {s : State} (ha : (s.lane l).state = .armed) :
    ((deferredCut l r c s).lane l).Deferred r c (s.lane l).pulses (min 255 (r.deferrals + 1)) r.flags.overlength := by
  refine raise_deferred ?_ ..
  rw [State.lane_onLane_same]
  exact ⟨ha, rfl, rfl, _, rfl, rfl, rfl, rfl, rfl, rfl⟩

theorem raise_lane_params (l : Lane) (ev : Event) (p1 p2 : Nat) (s : State) :
    ((raise ev p1 p2 s).lane l).params = (s.lane l).params := by
  rcases raise_lane_cases l ev p1 p2 s with h | ⟨-, h⟩
  · rw [h]
  · rw [h]
    rfl

theorem deferRoll_eq {l : Lane} {r : OpenRoll} {c : ArmedCut} {s : State} (hc : (s.lane l).cut = some c) :
    deferRoll l r s =
      if (s.lane l).params.maxDeferrals < min 255 (r.deferrals + 1) ∧ r.flags.overlength = false then
        raise .cutMissed l.code r.number ((deferredCut l r c s).onLane l (fun k => { k with
          roll := k.roll.map (fun o => { o with flags := { o.flags with overlength := true } }) }))
      else deferredCut l r c s := by
  have hs : s.onLane l (fun k => { k.wait with roll := some { r with deferrals := satInc 255 r.deferrals } }) =
      s.onLane l (fun k => { k with
        cut := some { c with waiting := true }, roll := some { r with deferrals := min 255 (r.deferrals + 1) } }) :=
    s.onLane_congr l (by simp [LaneControl.wait, hc, satInc_255])
  have hp : ((deferredCut l r c s).lane l).params = (s.lane l).params :=
    (raise_lane_params ..).trans (by rw [State.lane_onLane_same])
  rw [← hp]
  unfold deferRoll deferredCut
  dsimp only
  rw [hs, satInc_255]

theorem deferRoll_deferred {l : Lane} {r : OpenRoll} {c : ArmedCut} {s : State} (hc : (s.lane l).cut = some c)
    (ha : (s.lane l).state = .armed) : ((deferRoll l r s).lane l).Deferred r c (s.lane l).pulses
      (min 255 (r.deferrals + 1))
      (r.flags.overlength || decide ((s.lane l).params.maxDeferrals < min 255 (r.deferrals + 1))) := by
  have hd := deferredCut_deferred (r := r) (c := c) ha
  rw [deferRoll_eq hc]
  split
  next h =>
    obtain ⟨hm, -⟩ := h
    rw [decide_eq_true hm, Bool.or_true]
    refine raise_deferred ?_ ..
    rw [State.lane_onLane_same]
    obtain ⟨h1, h2, h3, o, ho, h4, h5, h6, h7, -⟩ := hd
    exact ⟨h1, h2, h3, _, congrArg (Option.map _) ho, h4, h5, h6, h7, rfl⟩
  next h =>
    have hb : (r.flags.overlength || decide ((s.lane l).params.maxDeferrals < min 255 (r.deferrals + 1))) =
        r.flags.overlength := by
      cases hf : r.flags.overlength with
      | true => rfl
      | false => exact decide_eq_false fun hm => h ⟨hm, hf⟩
    rwa [hb]

theorem deferRoll_rest (l : Lane) (r : OpenRoll) (s : State) :
    (deferRoll l r s).rku.history = s.rku.history ∧ (deferRoll l r s).tku = s.tku := by
  unfold deferRoll
  dsimp only
  split
  · rw [raise_rku_history, onLane_rku_history, raise_tku]
    simp [onLane_rku_history]
  · simp [onLane_rku_history]

/-! ### FIRE_POSITION and the turret (R133, R139) -/

/-- The polarity of a lane's turret input. -/
def Polarity.turretOf (p : Polarity) : Lane → Bool
  | .a => p.tda
  | .b => p.tdb

section
variable {l : Lane} {e : Bool} {s : State}

theorem execTurretDone_indexing (h : reading e (s.wtb.polarity.turretOf l) = true) (hs : (s.lane l).state = .indexing) :
    execTurretDone l e s = .next (s.onLane l (fun k => { k with state := .winding, turret := none })) := by
  cases l <;> exact congrArg _ ((if_pos h).trans (by rw [hs]))

theorem execTurretDone_leader (h : reading e (s.wtb.polarity.turretOf l) = true) (hs : (s.lane l).state = .leader) :
    execTurretDone l e s = .next (s.onLane l (fun k => { k with turret := none })) := by
  cases l <;> exact congrArg _ ((if_pos h).trans (by rw [hs]))

theorem execTurretDone_stands (h : reading e (s.wtb.polarity.turretOf l) = false ∨
    ((s.lane l).state ≠ .indexing ∧ (s.lane l).state ≠ .leader)) : execTurretDone l e s = .next s := by
  rcases h with h | ⟨h1, h2⟩
  · cases l <;> exact congrArg _ (if_neg (ne_true_of_eq_false h))
  · unfold execTurretDone
    cases hs : (s.lane l).state with
    | indexing => exact absurd hs h1
    | leader => exact absurd hs h2
    | off | winding | armed => simp

end

section
variable {l : Lane} {winder : Bool} {c : ArmedCut} {s : State}

theorem execFirePosition_stands (hc : (s.lane l).cut = some c)
    (h : s.wtb.newWeb = false ∨ s.running = false ∨ c.waiting = true ∨ (s.wtb.wp - c.fire).toInt < 0) :
    execFirePosition l winder s = .next s := by
  simp only [execFirePosition, hc]
  refine congrArg _ (if_neg ?_)
  rintro ⟨hadv, hw, hre⟩
  obtain ⟨hn, hr⟩ := Bool.and_eq_true_iff.1 hadv
  rcases h with h | h | h | h
  · exact absurd (hn.symm.trans h) (by decide)
  · exact absurd (hr.symm.trans h) (by decide)
  · exact absurd (h.symm.trans hw) (by decide)
  · exact absurd (of_decide_eq_true hre) (by simpa [sdiff] using h)

theorem execFirePosition_attempts (hc : (s.lane l).cut = some c) (hn : s.wtb.newWeb = true) (hr : s.running = true)
    (hw : c.waiting = false) (hf : 0 ≤ (s.wtb.wp - c.fire).toInt) :
    execFirePosition l winder s = .next (attemptCut l winder s) := by
  simp only [execFirePosition, hc]
  exact congrArg _ (if_pos ⟨Bool.and_eq_true_iff.2 ⟨hn, hr⟩, hw, decide_eq_true hf⟩)

theorem execFirePosition_unarmed (hc : (s.lane l).cut = none) : execFirePosition l winder s = .next s := by
  simp only [execFirePosition, hc]

end

/-- What FIRE_POSITION leaves where a cut fires (R133, R135). -/
theorem fireCut_spec (l : Lane) (c : ArmedCut) (s : State) :
    ((s.lane l).roll = none → (fireCut l c s).rku.history = s.rku.history ∧
      (fireCut l c s).btu.batches = s.btu.batches ∧ (fireCut l c s).lbp = s.lbp) ∧
    ∀ r, (s.lane l).roll = some r → ∃ h ∈ (fireCut l c s).rku.history, h.number = r.number ∧ h.lane = l ∧
      h.length = (c.reference - r.opening).toInt ∧ h.counts = r.counts ∧ h.flags = r.flags := by
  refine ⟨fun hr => ?_, fun r hr => ?_⟩
  · rw [fireCut_none hr, firedCut, raise_rku_history, raise_btu_batches, raise_lbp]
    cases l <;> exact ⟨rfl, rfl, rfl⟩
  · rw [fireCut_some hr]
    exact finalise_records ..

theorem attemptCut_waits_lane {l : Lane} {c : ArmedCut} {s : State} (hl : (s.lane l).state = .leader) (p1 p2 : Nat) :
    (raise .cutDeferred p1 p2 (s.onLane l (fun k => { k with cut := some { c with waiting := true } }))).lane l =
      { s.lane l with cut := some { c with waiting := true } } := by
  rw [raise_lane_of_uncut, State.lane_onLane_same]
  all_goals rw [State.lane_onLane_same, hl]; decide

/-- A lane in INDEXING or LEADER stands at the latching of a cause, but for its disarming in FAULT (R16). -/
theorem latchCause_lane {l : Lane} {c : StopCause} {s : State} (h : s.wtb.latched.get c = false) :
    (latchCause c s).lane l = s.lane l ∨ (latchCause c s).lane l = (s.lane l).disarm := by
  have hn : (noteCause c s).lane l = s.lane l := by simp [noteCause, State.lane]
  cases hl : s.wtb.line with
  | idle => exact .inl (by rw [latchCause_stays h (.inl hl), hn])
  | fault => exact .inl (by rw [latchCause_stays h (.inr hl), hn])
  | thread => exact .inr (by rw [latchCause_faults h (.inl hl), enterFault_lane, hn])
  | run => exact .inr (by rw [latchCause_faults h (.inr (.inl hl)), enterFault_lane, hn])
  | hold => exact .inr (by rw [latchCause_faults h (.inr (.inr hl)), enterFault_lane, hn])

/-- TURRET_TIMEOUT of a timer that runs, with WINDER not latched (R139). -/
theorem turretTimeout_latches {l : Lane} {s : State} (hw : s.wtb.latched.winder = false)
    (hs : (s.lane l).state = .indexing ∨ (s.lane l).state = .leader) {t : State}
    (ht : t = latchCause .winder (s.onLane l (fun k => { k with turret := none }))) :
    t.wtb.latched.winder = true ∧ (t.lane l).turret = none ∧ (t.lane l).state = (s.lane l).state ∧
      (s.wtb.line = .thread ∨ s.wtb.line = .run ∨ s.wtb.line = .hold → t.wtb.line = .fault) ∧
      (s.wtb.line = .idle ∨ s.wtb.line = .fault → t.wtb.line = s.wtb.line) := by
  subst ht
  refine ⟨latchCause_get .winder _, ?_, ?_, fun hl => ?_, fun hl => ?_⟩
  · rcases latchCause_lane (c := .winder) (l := l) (s := s.onLane l (fun k => { k with turret := none })) hw with h | h
    all_goals
      rw [h, State.lane_onLane_same]
      try rfl
  · rcases latchCause_lane (c := .winder) (l := l) (s := s.onLane l (fun k => { k with turret := none })) hw with h | h
    · rw [h, State.lane_onLane_same]
    · rw [h, State.lane_onLane_same, LaneControl.disarm_state]
      exact if_neg (by rcases hs with hs | hs <;> simp [hs])
  · rw [latchCause_faults (c := .winder) (s := s.onLane l (fun k => { k with turret := none })) hw hl, enterFault_wtb]
  · rw [latchCause_stays (c := .winder) (s := s.onLane l (fun k => { k with turret := none })) hw hl]
    simp [noteCause]

/-- Settles O45. -/
theorem cutsFireAndTurretsTurn : Obligations.CutsFireAndTurretsTurn := by
  refine ⟨fun l winder c s hc => ⟨fun h => execFirePosition_stands hc h, fun hn hr hw hf => ?_⟩, fun l s => ⟨?_, ?_, ?_, ?_⟩⟩
  · have hx := execFirePosition_attempts (winder := winder) hc hn hr hw hf
    refine ⟨hx, fun hready => ?_, fun hready hl => ?_, fun r hready ha hro => ?_, ?_⟩
    · rw [attemptCut_fires hc hready] at hx
      obtain ⟨hlane, hnext, htku, hrlu⟩ := fireCut_fired l c s
      obtain ⟨hno, hso⟩ := fireCut_spec l c s
      refine ⟨_, hx, ?_, ?_, ?_, ?_, ?_, ?_, hnext, htku, hrlu, hno, hso⟩
      all_goals rw [hlane]; rfl
    · rw [attemptCut_waits hc hready (.inl (by simp [hl]))] at hx
      refine ⟨_, hx, attemptCut_waits_lane hl .., ?_, ?_⟩
      · rw [raise_rku_history]
        cases l <;> rfl
      · rw [raise_tku]
        cases l <;> rfl
    · rw [attemptCut_defers hc hready ha hro] at hx
      obtain ⟨h1, h2, h3, o, ho, h4, h5, h6, h7, h8⟩ := deferRoll_deferred (r := r) hc ha
      refine ⟨_, o, hx, h1, h2, h3, ho, h4, h5, h6, h7, by simp [h8], ?_, ?_⟩
      · exact (deferRoll_rest l r s).1
      · exact (deferRoll_rest l r s).2
    · intro code
      rw [show code = l.code by cases l <;> rfl]
      refine ⟨fun hready => ⟨_, rfl, fun hro => ?_, fun r hro => ?_⟩, fun hready hs => ?_, fun r hready ha hro =>
        ⟨_, _, rfl, rfl, fun hm ho => ?_, fun hm => ?_⟩⟩
      · rw [attemptCut_fires hc hready, fireCut_none hro] at hx
        exact hx
      · rw [attemptCut_fires hc hready, fireCut_some hro] at hx
        exact hx
      · rw [attemptCut_waits hc hready hs] at hx
        exact hx
      · rw [attemptCut_defers hc hready ha hro, deferRoll_eq hc, if_pos ⟨hm, ho⟩] at hx
        exact hx
      · rw [attemptCut_defers hc hready ha hro, deferRoll_eq hc, if_neg ?_] at hx
        · exact hx
        · rintro ⟨hlt, ho⟩
          rcases hm with hm | hm
          · omega
          · exact absurd (hm.symm.trans ho) (by decide)
  · intro e edge he
    replace he : edge = reading e (s.wtb.polarity.turretOf l) := he.trans (by cases l <;> rfl)
    rw [he]
    exact ⟨execTurretDone_indexing, execTurretDone_leader, execTurretDone_stands⟩
  · intro ht hs
    refine ⟨fun hw => ?_, fun hw => ?_⟩
    · exact congrArg _ ((if_pos ⟨ht, hs⟩).trans (latchCause_latched (c := .winder) (s := s.onLane l _) hw))
    · have hx : exec (.turretTimeout l) s =
          .next (latchCause .winder (s.onLane l (fun k => { k with turret := none }))) :=
        congrArg _ (if_pos ⟨ht, hs⟩)
      exact ⟨_, hx, turretTimeout_latches hw hs rfl⟩
  · intro h
    refine congrArg _ (if_neg ?_)
    rintro ⟨ht, hs⟩
    rcases h with h | ⟨h1, h2⟩
    · simp [h] at ht
    · exact hs.elim h1 h2
  · exact fun _ hc => execFirePosition_unarmed hc

end Sys2Proof.Machine
end

section
/-! Knife crossings: a record counted into the open roll, and the lane's action (R129 to R136). -/

namespace Sys2Proof.Machine

/-! ### Counting (R130) -/

theorem satInc_countLimit (n : Nat) : satInc Config.countLimit n = min 65535 (n + 1) := by
  by_cases h : n < Config.countLimit
  · rw [satInc, if_pos h]
    exact (Nat.min_eq_right h).symm
  · rw [satInc, if_neg h]
    exact (Nat.min_eq_left (Nat.le_succ_of_le (Nat.le_of_not_lt h))).symm

theorem countIf_eq (b : Bool) (n : Nat) : countIf b n = if b then min 65535 (n + 1) else n := by
  rw [countIf, satInc_countLimit]

theorem countRecord_some {l : Lane} {r : RepeatRecord} {o : OpenRoll} {s : State} (h : (s.lane l).roll = some o) :
    countRecord l r s = (s.onLane l (fun k => { k with roll := some (o.add l r) })).onTku
      (fun t => t.onRecord r.number (fun x => x.mark l o.number)) := by
  simp only [countRecord, h]

theorem countRecord_none {l : Lane} {r : RepeatRecord} {s : State} (h : (s.lane l).roll = none) :
    countRecord l r s = s := by
  simp only [countRecord, h]

theorem RollCounts.add_full {c : RollCounts} (h : 65535 ≤ c.repeats) (l : Lane) (r : RepeatRecord) :
    (c.add l r).sums = c.sums ∧ (c.add l r).samples = c.samples := by
  have hfull : ¬ c.repeats < Config.countLimit := Nat.not_lt.2 h
  simp only [RollCounts.add, if_neg hfull]
  exact ⟨rfl, rfl⟩

theorem RollCounts.add_room {c : RollCounts} (h : c.repeats < 65535) (l : Lane) (r : RepeatRecord) :
    (c.add l r).samples = c.samples + (laneShade l r).length ∧
      (c.add l r).sums = c.sums.plus (channelSums (laneShade l r)) := by
  have hroom : c.repeats < Config.countLimit := h
  simp only [RollCounts.add, if_pos hroom, foldl_plus, and_self]

/-- A change that leaves the elements looked for, and takes no other into them, leaves what is found. -/
theorem find?_map_of_stands {α : Type} {f : α → α} {p : α → Bool} (hp : ∀ x, p (f x) = p x) (hf : ∀ x, p x = true → f x = x)
    (xs : List α) : (xs.map f).find? p = xs.find? p := by
  rw [List.find?_map, show p ∘ f = p from funext hp]
  cases h : xs.find? p with
  | none => rfl
  | some x => exact congrArg some (hf x (List.find?_some h))

theorem RepeatRecord.mark_number (r : RepeatRecord) (l : Lane) (n : Nat) : (r.mark l n).number = r.number := by
  cases l <;> rfl

/-! ### What counting leaves for the arming (R131, R132) -/

section
variable (l : Lane) (r : RepeatRecord) (s : State)

@[simp] theorem countRecord_wtb : (countRecord l r s).wtb = s.wtb := by
  unfold countRecord
  split
  · rfl
  · simp

theorem countRecord_lane : ∃ roll, (countRecord l r s).lane l = { s.lane l with roll := roll } := by
  cases h : (s.lane l).roll with
  | none => exact ⟨_, by rw [countRecord_none h]⟩
  | some o =>
    refine ⟨some (o.add l r), ?_⟩
    rw [countRecord_some h]
    exact State.lane_onLane_same ..

/-- The mark of a record stands on it alone: the record after it is found as before. -/
theorem countRecord_next : ((countRecord l r s).tku.track.find? (fun q => r.number < q.number)) =
    s.tku.track.find? (fun q => r.number < q.number) := by
  cases h : (s.lane l).roll with
  | none => rw [countRecord_none h]
  | some o =>
    rw [countRecord_some h]
    show (((s.onLane l _).tku.track.map (fun x => if x.number = r.number then x.mark l o.number else x)).find? _) = _
    rw [onLane_tku]
    refine find?_map_of_stands (fun x => ?_) (fun x hx => ?_) _
    · split
      · rw [RepeatRecord.mark_number]
      · rfl
    · exact if_neg (by simp at hx; omega)

end

/-! ### Arming (R131, R132, R136) -/

/-- The cut of a lane for a record `q`, not yet attempted. -/
def State.cutFor (s : State) (l : Lane) (q : RepeatRecord) : ArmedCut :=
  ⟨q.number, q.at_.get (.knife l), q.at_.get (.knife l) -
    BitVec.ofNat 32 ((s.wtb.v * (s.lane l).params.knifeLead + 999) / 1000), false⟩

/-- WP is at or past the fire position of that cut. -/
def State.firePassed (s : State) (l : Lane) (q : RepeatRecord) : Prop := 0 ≤ (s.wtb.wp - (s.cutFor l q).fire).toInt

theorem leadOf_eq (v lead : Nat) : leadOf v lead = (((v * lead + 999) / 1000 : Nat) : Int) := by
  rw [leadOf, Nat.cast_ofNat.symm.trans rfl, ceilDiv_eq (by norm_num)]
  omega

theorem cutAt_eq (s : State) (l : Lane) (q : RepeatRecord) :
    s.cutAt l q.number (q.at_.get (.knife l)) = s.cutFor l q := by
  simp only [State.cutAt, State.cutFor, leadOf_eq, posPlus]
  rw [BitVec.ofInt_neg, BitVec.ofInt_natCast, BitVec.sub_eq_add_neg]

/-- What two states must agree in to arm the same cuts. -/
structure SameArming (l : Lane) (s t : State) : Prop where
  wp : t.wtb.wp = s.wtb.wp
  v : t.wtb.v = s.wtb.v
  params : (t.lane l).params = (s.lane l).params

theorem SameArming.cutFor {l : Lane} {s t : State} (h : SameArming l s t) (q : RepeatRecord) :
    t.cutFor l q = s.cutFor l q := by
  simp only [State.cutFor, h.v, h.params]

section
variable {l : Lane} {s t : State} (h : SameArming l s t) (q : RepeatRecord) (winder : Bool)
include h

theorem armCut_waits (hp : ¬ s.firePassed l q) : armCut l q.number (q.at_.get (.knife l)) winder t =
    t.onLane l (fun k => { k with cut := some (s.cutFor l q) }) := by
  unfold armCut
  dsimp only
  rw [cutAt_eq, h.cutFor]
  refine if_neg ?_
  rw [State.reached, onLane_wtb, h.wp]
  exact fun hd => hp (by simpa [State.firePassed, sdiff] using hd)

theorem armCut_passed (hp : s.firePassed l q) : armCut l q.number (q.at_.get (.knife l)) winder t =
    attemptCut l winder (t.onLane l (fun k => { k with
      cut := some (s.cutFor l q)
      roll := if (t.lane l).state = .armed then
        k.roll.map (fun o => { o with flags := { o.flags with cutLate := true } }) else k.roll })) := by
  unfold armCut
  dsimp only
  rw [cutAt_eq, h.cutFor]
  refine (if_pos ?_).trans (congrArg _ ?_)
  · rw [State.reached, onLane_wtb, h.wp]
    exact decide_eq_true hp
  · rw [State.lane_onLane_same]
    by_cases ha : (t.lane l).state = .armed
    · simp only [if_pos ha]
      exact State.onLane_onLane ..
    · simp only [if_neg ha]

end

/-- The record after `r` on the track. -/
def State.next (s : State) (r : RepeatRecord) : Option RepeatRecord := s.tku.track.find? (fun q => r.number < q.number)

theorem followingReference_eq (s : State) (l : Lane) (r : RepeatRecord) : s.followingReference l r.number =
    (s.next r).map (fun q => (q.number, q.at_.get (.knife l))) := rfl

theorem SameArming.countRecord {l : Lane} {s t : State} (h : SameArming l s t) (r : RepeatRecord) :
    SameArming l s (countRecord l r t) := by
  obtain ⟨roll, hr⟩ := countRecord_lane l r t
  exact ⟨by rw [countRecord_wtb, h.wp], by rw [countRecord_wtb, h.v], by rw [hr, h.params]⟩

theorem SameArming.refl (l : Lane) (s : State) : SameArming l s s := ⟨rfl, rfl, rfl⟩

theorem SameArming.raise {l : Lane} {s t : State} (h : SameArming l s t) (ev : Event) (p1 p2 : Nat) :
    SameArming l s (raise ev p1 p2 t) :=
  ⟨(raise_wtb_wp ..).trans h.wp, (raise_wtb_v ..).trans h.v, (raise_lane_params ..).trans h.params⟩

theorem SameArming.onLane {l : Lane} {s t : State} (h : SameArming l s t) {f : LaneControl → LaneControl}
    (hf : (f (t.lane l)).params = (t.lane l).params) : SameArming l s (t.onLane l f) :=
  ⟨by rw [onLane_wtb, h.wp], by rw [onLane_wtb, h.v], by rw [State.lane_onLane_same, hf, h.params]⟩

/-! ### The lane's action (R129) -/

section
variable {l : Lane} {r q : RepeatRecord} {winder : Bool} {s : State}

theorem laneCrossing_leader (hs : (s.lane l).state = .leader) (hc : (s.lane l).cut = none) :
    laneCrossing l r winder s = leaderArming l r winder s := by
  simp only [laneCrossing, hs, hc, Option.isNone_none, if_true]

theorem leaderArming_none (hn : s.next r = none) : leaderArming l r winder s = s := by
  simp only [leaderArming, followingReference_eq, hn, Option.map_none]

theorem leaderArming_some (hn : s.next r = some q) :
    leaderArming l r winder s = armCut l q.number (q.at_.get (.knife l)) winder s := by
  simp only [leaderArming, followingReference_eq, hn, Option.map_some]

theorem laneCrossing_winding (hs : (s.lane l).state = .winding) :
    laneCrossing l r winder s = armingTest l r winder (countRecord l r s) := by
  simp only [laneCrossing, hs]

theorem armingTest_none (hn : s.next r = none) : armingTest l r winder s = s := by
  simp only [armingTest, followingReference_eq, hn, Option.map_none]

theorem armingTest_some {o : OpenRoll} (hn : s.next r = some q) (ho : (s.lane l).roll = some o) :
    armingTest l r winder s =
      if ((s.lane l).params.target : Int) ≤ sdiff (q.at_.get (.knife l)) o.opening ∨ (s.lane l).force = true then
        armCut l q.number (q.at_.get (.knife l)) winder (s.onLane l (fun k => { k with state := .armed, force := false }))
      else s := by
  simp only [armingTest, followingReference_eq, hn, Option.map_some, ho]

/-- A cut in LEADER or ARMED of another record than this one (R129, R134). -/
theorem cutRecordTest_other {c : ArmedCut} (hc : (s.lane l).cut = some c) (h : c.record ≠ r.number ∨ c.waiting = true) :
    cutRecordTest l r winder s = s := by
  simp only [cutRecordTest, hc]
  exact if_neg fun ⟨h1, h2⟩ => h.elim (fun h => h h1) fun h => absurd (h.symm.trans h2) (by decide)

theorem cutRecordTest_attempts {c : ArmedCut} (hc : (s.lane l).cut = some c) (hr : c.record = r.number)
    (hw : c.waiting = false) : cutRecordTest l r winder s = attemptCut l winder s := by
  simp only [cutRecordTest, hc]
  exact if_pos ⟨hr, hw⟩

theorem rearm_other {c : ArmedCut} (hc : (s.lane l).cut = some c) (h : c.record ≠ r.number) :
    rearm l r winder s = s := by
  simp only [rearm, hc]
  exact if_neg fun ⟨h1, _⟩ => h h1

theorem rearm_unarmed (hc : (s.lane l).cut = none) : rearm l r winder s = s := by
  simp only [rearm, hc]

theorem rearm_none {c : ArmedCut} (hc : (s.lane l).cut = some c) (hr : c.record = r.number) (hw : c.waiting = true)
    (hn : s.next r = none) : rearm l r winder s =
      s.onLane l (fun k => { k with cut := some { c with record := nextRepeatAfter r.number } }) := by
  simp only [rearm, hc, followingReference_eq, hn, Option.map_none]
  exact if_pos ⟨hr, hw⟩

theorem rearm_some {c : ArmedCut} (hc : (s.lane l).cut = some c) (hr : c.record = r.number) (hw : c.waiting = true)
    (hn : s.next r = some q) : rearm l r winder s = armCut l q.number (q.at_.get (.knife l)) winder s := by
  simp only [rearm, hc, followingReference_eq, hn, Option.map_some]
  exact if_pos ⟨hr, hw⟩

theorem laneCrossing_leader_cut {c : ArmedCut} (hs : (s.lane l).state = .leader) (hc : (s.lane l).cut = some c) :
    laneCrossing l r winder s = if ((cutRecordTest l r winder s).lane l).state = .leader then
      rearm l r winder (cutRecordTest l r winder s) else countRecord l r (cutRecordTest l r winder s) := by
  simp only [laneCrossing, hs, hc, Option.isNone_some, Bool.false_eq_true, if_false]

theorem laneCrossing_armed (hs : (s.lane l).state = .armed) :
    laneCrossing l r winder s = rearm l r winder (countRecord l r (cutRecordTest l r winder s)) := by
  simp only [laneCrossing, hs]

end

/-! ### A cut that waits is re-armed (R133, R136) -/

/-- A state `t` in which the cut `c` that the lane had in `s` waits for its record's crossing. -/
structure Waits (l : Lane) (r : RepeatRecord) (c : ArmedCut) (s t : State) : Prop where
  state : (t.lane l).state = (s.lane l).state
  cut : (t.lane l).cut = some { c with waiting := true }
  arming : SameArming l s t
  next : t.next r = s.next r

theorem Waits.countRecord {l : Lane} {r : RepeatRecord} {c : ArmedCut} {s t : State} (h : Waits l r c s t) :
    Waits l r c s (countRecord l r t) := by
  obtain ⟨roll, hr⟩ := countRecord_lane l r t
  exact ⟨by rw [hr]; exact h.state, by rw [hr]; exact h.cut, h.arming.countRecord r, (countRecord_next l r t).trans h.next⟩

/-- A deferred cut waits (R136). -/
theorem attemptCut_deferred {l : Lane} {r : RepeatRecord} {winder : Bool} {c : ArmedCut} {s : State}
    (hc : (s.lane l).cut = some c) (hw : s.winderReady l winder = false)
    (hs : (s.lane l).state = .leader ∨ ((s.lane l).state = .armed ∧ (s.lane l).roll.isSome = true)) :
    Waits l r c s (attemptCut l winder s) := by
  rcases hs with hs | ⟨hs, hr⟩
  · rw [attemptCut_waits hc hw (.inl (by simp [hs]))]
    have hl := attemptCut_waits_lane (c := c) hs l.code 0
    refine ⟨by rw [hl], by rw [hl], (SameArming.refl l s).onLane (f := fun k =>
      { k with cut := some { c with waiting := true } }) rfl |>.raise .., ?_⟩
    unfold State.next
    rw [raise_tku, onLane_tku]
  · obtain ⟨o, ho⟩ := Option.isSome_iff_exists.1 hr
    rw [attemptCut_defers hc hw hs ho]
    obtain ⟨h1, h2, -⟩ := deferRoll_deferred (r := o) hc hs
    refine ⟨h1.trans hs.symm, h2, ?_, ?_⟩
    · have hd : SameArming l s (deferredCut l o c s) := ((SameArming.refl l s).onLane (f := fun k => { k with
        cut := some { c with waiting := true }, roll := some { o with deferrals := min 255 (o.deferrals + 1) } })
        rfl).raise ..
      rw [deferRoll_eq hc]
      split
      · exact (hd.onLane (f := fun k => { k with
          roll := k.roll.map (fun o => { o with flags := { o.flags with overlength := true } }) }) rfl).raise ..
      · exact hd
    · unfold State.next
      rw [(deferRoll_rest l o s).2]

/-- The crossing of a cut's own record where the cut waits, or is deferred there (R134). -/
theorem laneCrossing_rearms {l : Lane} {r : RepeatRecord} {winder : Bool} {c : ArmedCut} {s u : State}
    (hc : (s.lane l).cut = some c) (hr : c.record = r.number)
    (hs : (s.lane l).state = .leader ∨ ((s.lane l).state = .armed ∧ (s.lane l).roll.isSome = true))
    (h1 : c.waiting = true → u = s) (h2 : c.waiting = false → s.winderReady l winder = false ∧ u = attemptCut l winder s) :
    Waits l r c s (if (s.lane l).state = .armed then countRecord l r u else u) ∧
      laneCrossing l r winder s = rearm l r winder (if (s.lane l).state = .armed then countRecord l r u else u) := by
  have hu : Waits l r c s u ∧ cutRecordTest l r winder s = u := by
    cases hw : c.waiting with
    | true =>
      rw [h1 hw]
      exact ⟨⟨rfl, by rw [← hw, hc], .refl l s, rfl⟩, cutRecordTest_other hc (.inr hw)⟩
    | false =>
      obtain ⟨hready, rfl⟩ := h2 hw
      exact ⟨attemptCut_deferred hc hready hs, cutRecordTest_attempts hc hr hw⟩
  obtain ⟨hwait, htest⟩ := hu
  rcases hs with hs | ⟨hs, -⟩
  · rw [if_neg (by simp [hs]), laneCrossing_leader_cut hs hc, htest, if_pos (hwait.state.trans hs)]
    exact ⟨hwait, rfl⟩
  · rw [if_pos hs, laneCrossing_armed hs, htest]
    exact ⟨hwait.countRecord, rfl⟩

/-- The lane in WINDING with a roll open and a record after this one on the track (R132). -/
theorem laneCrossing_winding_arms {l : Lane} {r q : RepeatRecord} {winder : Bool} {s : State} {o : OpenRoll}
    (hs : (s.lane l).state = .winding) (ho : (s.lane l).roll = some o) (hn : s.next r = some q) :
    laneCrossing l r winder s =
      if ((s.lane l).params.target : Int) ≤ sdiff (q.at_.get (.knife l)) o.opening ∨ (s.lane l).force = true then
        armCut l q.number (q.at_.get (.knife l)) winder
          ((countRecord l r s).onLane l (fun k => { k with state := .armed, force := false }))
      else countRecord l r s := by
  have hlane : (countRecord l r s).lane l = { s.lane l with roll := some (o.add l r) } := by
    rw [countRecord_some ho]
    exact State.lane_onLane_same ..
  rw [laneCrossing_winding hs, armingTest_some ((countRecord_next l r s).trans hn) (by rw [hlane]), hlane]
  rfl

/-- Settles O44. -/
theorem knifeCrossingsCountAndArm : Obligations.KnifeCrossingsCountAndArm := by
  refine ⟨fun l r o s ho => ⟨o.add l r, ?_, rfl, rfl, rfl, rfl, rfl, rfl, rfl, satInc_countLimit _, fun shade hshade => ?_,
    fun h => RollCounts.add_full h l r, fun vs h hvs => ?_⟩, ?_⟩
  · rw [countRecord_some ho]
    cases l <;> rfl
  · have hs : shade = r.defects.shadeOf l := hshade.trans (by cases l <;> rfl)
    subst hs
    refine ⟨countIf_eq .., countIf_eq .., countIf_eq .., countIf_eq .., countIf_eq .., (countIf_eq ..).trans ?_⟩
    simp only [Bool.or_eq_true, or_assoc]
  · have hv : vs = laneShade l r := hvs.trans (laneShade_eq_filterMap_ownOk l r).symm
    subst hv
    exact RollCounts.add_room h l r
  intro l r winder s late cutFor passed next
  refine ⟨fun h => if_neg (by simp [h]), fun h => (if_pos h).trans (by cases l <;> rfl), fun hs => ?_, fun hs => ?_,
    fun hn => ⟨fun hs hc => ?_, fun hs => ?_⟩, fun q hn => ⟨fun hs hc => ?_, fun o hs ho => ?_⟩,
    fun c hc hr => ⟨fun hs => ?_, fun hs => ?_⟩, fun c hc hr hw hready hs => ?_, fun c u hc hr hs h1 h2 => ?_⟩
  · simp only [laneCrossing, hs]
  · simp only [laneCrossing, hs]
  · rw [laneCrossing_leader hs hc, leaderArming_none hn]
  · rw [laneCrossing_winding hs, armingTest_none ((countRecord_next l r s).trans hn)]
  · rw [laneCrossing_leader hs hc, leaderArming_some hn]
    refine ⟨armCut_waits (.refl l s) q winder, fun hp => (armCut_passed (.refl l s) q winder hp).trans (congrArg _ ?_)⟩
    exact s.onLane_congr l (by simp only [if_neg (show (s.lane l).state ≠ .armed by simp [hs])]; rfl)
  · have hx := laneCrossing_winding_arms (winder := winder) hs ho hn
    have ha := ((SameArming.refl l s).countRecord r).onLane
      (f := fun k => { k with state := .armed, force := false }) rfl
    refine ⟨fun h => ?_, fun hlt hf => hx.trans (if_neg ?_)⟩
    · rw [hx.trans (if_pos h)]
      refine ⟨fun hp => (armCut_waits ha q winder hp).trans (State.onLane_onLane ..), fun hp =>
        (armCut_passed ha q winder hp).trans (congrArg _ ?_)⟩
      rw [State.lane_onLane_same]
      exact State.onLane_onLane ..
    · rintro (h | h)
      · exact absurd hlt (Int.not_lt.2 h)
      · exact absurd (hf.symm.trans h) (by decide)
  · rw [laneCrossing_leader_cut hs hc, cutRecordTest_other hc (.inl hr), if_pos hs, rearm_other hc hr]
  · obtain ⟨roll, hl⟩ := countRecord_lane l r s
    rw [laneCrossing_armed hs, cutRecordTest_other hc (.inl hr), rearm_other (by rw [hl]; exact hc) hr]
  · have hf : (attemptCut l winder s).lane l = (s.lane l).fired c s.rku.nextRoll := by
      rw [attemptCut_fires hc hready, (fireCut_fired l c s).lane]
    rcases hs with hs | hs
    · rw [laneCrossing_leader_cut hs hc, cutRecordTest_attempts hc hr hw, if_neg]
      rw [hf]
      exact fun h => LaneState.noConfusion h
    · rw [laneCrossing_armed hs, cutRecordTest_attempts hc hr hw, rearm_unarmed]
      obtain ⟨roll, hl⟩ := countRecord_lane l r (attemptCut l winder s)
      rw [hl, hf]
      rfl
  · intro counted
    obtain ⟨hwait, hx⟩ := laneCrossing_rearms hc hr hs h1 h2
    rw [hx]
    refine ⟨fun hn => rearm_none hwait.cut hr rfl (hwait.next.trans hn), fun q hn => ?_⟩
    rw [rearm_some hwait.cut hr rfl (hwait.next.trans hn)]
    refine ⟨armCut_waits hwait.arming q winder, fun hp => ?_⟩
    rw [armCut_passed hwait.arming q winder hp, hwait.state]
    rfl

end Sys2Proof.Machine
end

section
/-! REPEAT SET and PATH SET, and the crossing positions (R19, R20, R38 to R41). -/

namespace Sys2Proof.Machine

/-! ### The change classes of REPEAT SET (R19, R39) -/

/-- No structural field but N changes. -/
theorem otherStructuralChange_eq_false {old f : RepeatParams} :
    otherStructuralChange old f = false ↔ f = { old with n := f.n, f := f.f, c := f.c } := by
  cases old
  cases f
  simp only [otherStructuralChange, Bool.or_eq_false_iff, bne_eq_false_iff_eq, RepeatParams.mk.injEq]
  constructor
  · rintro ⟨⟨⟨⟨rfl, rfl⟩, rfl⟩, rfl⟩, rfl⟩
    simp
  · rintro ⟨-, rfl, -, rfl, rfl, rfl, rfl, -⟩
    simp

theorem unstructured_iff {old f : RepeatParams} :
    f = { old with f := f.f, c := f.c } ↔ f.n = old.n ∧ otherStructuralChange old f = false := by
  rw [otherStructuralChange_eq_false]
  cases old
  cases f
  simp [RepeatParams.mk.injEq]

section
variable {f : RepeatParams} {s : State}

theorem repeatRefusal_unstructured (h : f = { s.tku.params with f := f.f, c := f.c }) : repeatRefusal f s = none :=
  if_pos (unstructured_iff.1 h)

theorem repeatRefusal_stopped (hl : s.wtb.line = .idle ∨ s.wtb.line = .thread) : repeatRefusal f s = none := by
  unfold repeatRefusal
  rcases hl with hl | hl <;> simp [hl]

theorem repeatRefusal_running (h : f ≠ { s.tku.params with f := f.f, c := f.c })
    (hl : s.wtb.line = .run ∨ s.wtb.line = .fault) : repeatRefusal f s = some (.wrongState, []) := by
  refine (if_neg (mt unstructured_iff.2 h)).trans ?_
  rcases hl with hl | hl <;> rw [hl]

theorem repeatRefusal_hold_other (h : f ≠ { s.tku.params with n := f.n, f := f.f, c := f.c }) (hl : s.wtb.line = .hold) :
    repeatRefusal f s = some (.wrongState, []) := by
  have ho : ¬ otherStructuralChange s.tku.params f = false := mt otherStructuralChange_eq_false.1 h
  refine (if_neg fun hs => ho hs.2).trans ?_
  rw [hl]
  exact if_pos (Bool.eq_true_of_not_eq_false ho)

theorem repeatRefusal_hold_n (h : f = { s.tku.params with n := f.n, f := f.f, c := f.c }) (hn : f.n ≠ s.tku.params.n)
    (hl : s.wtb.line = .hold) :
    repeatRefusal f s = (firstFailing holdChangeChecks f s).map (fun c => (.invalidJob, le1 c)) := by
  refine (if_neg fun hs => hn hs.1).trans ?_
  rw [hl]
  exact if_neg (by rw [otherStructuralChange_eq_false.2 h]; decide)

end

/-- The first check of an ascending list that fails (R10, R20). -/
theorem firstFailing_eq {codes : List Nat} {f : RepeatParams} {s : State} {code : Nat} (hs : codes.Pairwise (· < ·))
    (hc : code ∈ codes) (hf : checkHolds f s code = false)
    (hb : ∀ c ∈ codes, c < code → checkHolds f s c = true) : firstFailing codes f s = some code := by
  obtain ⟨before, after, rfl⟩ := List.append_of_mem hc
  refine List.find?_eq_some_iff_append.2 ⟨by simp [hf], before, after, rfl, fun c hc => ?_⟩
  rw [List.pairwise_append] at hs
  simp [hb c (by simp [hc]) (hs.2.2 c hc code (by simp))]

/-! ### The write (R20, R38, R95, R127) -/

section
variable {tag : Byte} {f : RepeatParams} {s : State}

theorem execRepeatSet_badValue (h : f.inRange = false) :
    execRepeatSet tag f s = .next (answer tag 0x10#8 .badValue [] s) := by
  simp only [execRepeatSet, h, Bool.not_false, if_true]

theorem execRepeatSet_refused {st : Status} {fields : List Byte} (h : f.inRange = true)
    (hr : repeatRefusal f s = some (st, fields)) : execRepeatSet tag f s = .next (answer tag 0x10#8 st fields s) := by
  simp only [execRepeatSet, h, hr, Bool.not_true, Bool.false_eq_true, if_false]

theorem execRepeatSet_written (h : f.inRange = true) (hr : repeatRefusal f s = none) :
    execRepeatSet tag f s = .next (answer tag 0x10#8 .ok [] (writeRepeat f s)) := by
  simp only [execRepeatSet, h, hr, Bool.not_true, Bool.false_eq_true, if_false]

/-- A REPEAT SET that changes neither N nor G. -/
theorem writeRepeat_same (hn : f.n = s.tku.params.n) (hg : f.g = s.tku.params.g) :
    writeRepeat f s = { s with tku := { s.tku with params := f } } := by
  simp only [writeRepeat, noteOvertaken, hn, hg, and_self, if_true, ne_eq, not_true_eq_false, and_false, if_false]
  rfl

/-- The track unit after a change of N or G. -/
theorem writeRepeat_changed {o : Overtaken} (h : f.n ≠ s.tku.params.n ∨ f.g ≠ s.tku.params.g)
    (ho : o = if f.n = s.tku.params.n then s.tku.overtaken else s.overtaken f.n) : writeRepeat f s =
      if s.wtb.line = .hold ∧ f.n ≠ s.tku.params.n then
        loadAutoSettles { s with tku := { s.tku with params := f, estimate := 16 * f.n, overtaken := o } }
      else { s with tku := { s.tku with params := f, estimate := 16 * f.n, overtaken := o } } := by
  have hnote : noteOvertaken f.n s = { s with tku := { s.tku with overtaken := o } } := by
    rw [ho]
    unfold noteOvertaken
    split <;> rfl
  have hs : ¬ (f.n = s.tku.params.n ∧ f.g = s.tku.params.g) := fun ⟨h1, h2⟩ => h.elim (fun h => h h1) fun h => h h2
  simp only [writeRepeat, hnote, if_neg hs]
  rfl

theorem loadAutoSettles_spec (s : State) : ∃ r : Rlu, loadAutoSettles s = { s with rlu := r } ∧
    r.channels = s.rlu.channels ∧ ∀ k : Fin 8, r.stations[k] = { s.rlu.stations[k] with
      settle := if s.rlu.stations[k].mode = .auto then settleValue s.tku.path.d[k] s.tku.estimate
        else s.rlu.stations[k].settle } := by
  refine ⟨_, rfl, rfl, fun k => ?_⟩
  simp only [Fin.getElem_fin, Vector.getElem_mapFinIdx]
  split
  · rfl
  · rfl

end

/-! ### Crossing positions (R41) -/

/-- A position a number of counts beyond another. -/
theorem posPlus_nat (p : Pos) (n : Nat) : posPlus p n = p + BitVec.ofNat 32 n := by
  rw [posPlus, BitVec.ofInt_natCast]

/-- Settles O23. -/
theorem repeatAndPathAreSet : Obligations.RepeatAndPathAreSet := by
  refine ⟨⟨fun tag f s passes o hpasses ho => ?_, fun p s op hop => ?_⟩, fun tag f s => ⟨fun h hl => ?_, fun h hi ht hne => ?_,
    fun h => ?_⟩⟩
  · replace ho : o = if f.n = s.tku.params.n then s.tku.overtaken else s.overtaken f.n := by
      rw [ho, hpasses, hpasses, hpasses]
      simp [State.overtaken, overtakenBy, State.heldOffset, Overtaken.get, State.lane, Rku.lane]
    refine ⟨execRepeatSet_badValue, fun h hu => ?_, fun h hn hl => ?_, fun h hn hg hl => ?_, fun h hu hl => ?_,
      fun h hu hl => ?_, fun h hu hn hl => ⟨fun code hc hf hb => ?_, fun hchecks => ?_⟩⟩
    · refine (execRepeatSet_written h (repeatRefusal_unstructured hu)).trans ?_
      rw [writeRepeat_same (unstructured_iff.1 hu).1 (by rw [hu])]
    · refine (execRepeatSet_written h (repeatRefusal_stopped hl)).trans ?_
      rw [writeRepeat_changed hn ho, if_neg (by rcases hl with hl | hl <;> simp [hl])]
    · refine (execRepeatSet_written h (repeatRefusal_stopped hl)).trans ?_
      rw [writeRepeat_same hn hg]
    · exact execRepeatSet_refused h (repeatRefusal_running hu hl)
    · exact execRepeatSet_refused h (repeatRefusal_hold_other hu hl)
    · refine execRepeatSet_refused h ?_
      rw [repeatRefusal_hold_n hu hn hl, firstFailing_eq (codes := holdChangeChecks) (by decide) hc hf hb]
      rfl
    · have hnone : firstFailing holdChangeChecks f s = none :=
        List.find?_eq_none.2 fun c hc => by simp [hchecks c hc]
      have hr : repeatRefusal f s = none := by rw [repeatRefusal_hold_n hu hn hl, hnone]; rfl
      obtain ⟨r, hrlu, hch, hst⟩ := loadAutoSettles_spec
        { s with tku := { s.tku with params := f, estimate := 16 * f.n, overtaken := o } }
      refine ⟨r, hch, hst, (execRepeatSet_written h hr).trans ?_⟩
      rw [writeRepeat_changed (.inl hn) ho, if_pos ⟨hl, hn⟩, hrlu]
  · simp only [hop, ← offsetWithin_eq]
    refine ⟨?_, ?_, ?_, ?_⟩
    all_goals
      rw [State.crossingPosition, ← Nat.cast_add, posPlus_nat]
      rfl
  · refine congrArg _ ((if_neg (by simp [h])).trans (if_neg ?_))
    rintro ⟨hne, hi, ht⟩
    rcases hl with hl | hl | hl
    · exact hi hl
    · exact ht hl
    · exact hne hl
  · exact congrArg _ ((if_neg (by simp [h])).trans (if_pos ⟨hne, hi, ht⟩))
  · exact congrArg _ (if_pos (by simp [h]))

end Sys2Proof.Machine
end

section
/-! The emboss point and the shade point (R88, R96, R99, R112). -/

namespace Sys2Proof.Machine

/-! ### The stamp (R88) -/

theorem stamp_embossed {s : State} {p : PhaseRegister} (he : s.epu.state = .engaged) (hn : s.epu.nipConfirmed = true)
    (hp : s.epu.lastPhase = some p) : s.stamp = (.embossed p.phase, decide (s.epu.params.tol < p.phase.natAbs)) := by
  simp only [State.stamp, he, hn, hp]

theorem stamp_unembossed {s : State} (h : s.epu.state ≠ .engaged ∨ s.epu.nipConfirmed = false) :
    s.stamp = (.unembossed, s.epu.params.required) := by
  unfold State.stamp
  split
  next he hn _ => rcases h with h | h <;> simp_all
  next => rfl

/-! ### The crossings of the emboss point (R41) -/

/-- A state that differs from `s` in the track's records, not in their numbers, and in the cursor of the emboss point. -/
def EmbossOnly (s t : State) : Prop :=
  ∃ track c, t = { s with tku := { s.tku with track := track, cursors := { s.tku.cursors with emboss := c } } } ∧
    track.map (·.number) = s.tku.track.map (·.number)

/-- A record after its stamp. -/
def RepeatRecord.stamped (r : RepeatRecord) (e : EmbossEntry × Bool) : RepeatRecord :=
  { r with emboss := some e.1, defects := { r.defects with emboss := r.defects.emboss || e.2 } }

theorem crossOne_emboss_track (n : Nat) (w : Bool) (t : State) : (crossOne .emboss n w t).tku.track =
    t.tku.track.map (fun r => if r.number = n then r.stamped t.stamp else r) := rfl

theorem crossOne_emboss_cursor (n : Nat) (w : Bool) (t : State) : (crossOne .emboss n w t).tku.cursors.emboss =
    (crossOne .emboss n w t).tku.after n := rfl

theorem crossOne_emboss_eq (n : Nat) (w : Bool) (t : State) : crossOne .emboss n w t = { t with tku := { t.tku with
    track := t.tku.track.map (fun r => if r.number = n then r.stamped t.stamp else r)
    cursors := { t.tku.cursors with emboss := (crossOne .emboss n w t).tku.after n } } } := rfl

theorem EmbossOnly.crossOne {s t : State} (h : EmbossOnly s t) (n : Nat) (w : Bool) :
    EmbossOnly s (crossOne .emboss n w t) := by
  have hs : (t.tku.track.map (fun r => if r.number = n then r.stamped t.stamp else r)).map (·.number) =
      t.tku.track.map (·.number) := by
    rw [List.map_map]
    refine List.map_congr_left fun r _ => ?_
    simp only [Function.comp]
    split <;> rfl
  rw [crossOne_emboss_eq]
  obtain ⟨track, c, rfl, hn⟩ := h
  exact ⟨_, _, rfl, hs.trans hn⟩

/-- A record that is due at a point stands under its cursor and has been reached (R41). -/
theorem crossingDue_eq_some {s : State} {p : Point} {n : Nat} : s.crossingDue p = some n ↔
    s.tku.cursors.get p = some n ∧ ∃ r, s.tku.record? n = some r ∧ s.reached (r.at_.get p) = true := by
  unfold State.crossingDue
  cases hc : s.tku.cursors.get p with
  | none => simp
  | some m =>
    rw [Option.bind_eq_some_iff]
    constructor
    · rintro ⟨r, hr, hd⟩
      split at hd
      next hre =>
        cases hd
        exact ⟨rfl, r, hr, hre⟩
      next => cases hd
    · rintro ⟨hm, r, hr, hre⟩
      cases hm
      exact ⟨r, hr, if_pos hre⟩

theorem record?_eq_some {t : Tku} {n : Nat} {r : RepeatRecord} (h : t.record? n = some r) :
    r ∈ t.track ∧ r.number = n :=
  ⟨List.mem_of_find?_eq_some h, by simpa using List.find?_some h⟩

/-- The record after another one has a greater number. -/
theorem Tku.after_gt {t : Tku} {n m : Nat} (h : t.after n = some m) : n < m := by
  obtain ⟨r, hr, rfl⟩ := Option.map_eq_some_iff.1 h
  simpa using List.find?_some hr

/-- The crossings after that of record `n` leave it. -/
theorem crossAll_emboss {s : State} {n : Nat} {w : Bool} {q : RepeatRecord} (hq : q.number = n) (fuel : Nat) (t : State)
    (h : EmbossOnly s t) (hc : ∀ m, t.tku.cursors.emboss = some m → n < m) (hin : q ∈ t.tku.track) :
    EmbossOnly s (crossAll .emboss w fuel t) ∧ q ∈ (crossAll .emboss w fuel t).tku.track := by
  induction fuel generalizing t with
  | zero => exact ⟨h, hin⟩
  | succ fuel ih =>
    unfold crossAll
    cases hd : t.crossingDue .emboss with
    | none => exact ⟨h, hin⟩
    | some m =>
      have hm : t.tku.cursors.emboss = some m := (crossingDue_eq_some.1 hd).1
      refine ih _ (h.crossOne m w) (fun k hk => (hc m hm).trans (Tku.after_gt hk)) ?_
      rw [crossOne_emboss_track]
      exact List.mem_map.2 ⟨q, hin, if_neg (by have := hc m hm; omega)⟩

theorem execPointCrossing_due {p : Point} {w : Bool} {s : State} (hn : s.wtb.newWeb = true) (hr : s.running = true)
    (hp : s.pointEnabled p = true) :
    execPointCrossing p w s = .next (crossAll p w s.tku.track.length s) :=
  congrArg _ (if_pos ⟨Bool.and_eq_true_iff.2 ⟨hn, hr⟩, hp⟩)

theorem crossAll_due {p : Point} {w : Bool} {s : State} {n fuel : Nat} (h : s.crossingDue p = some n) :
    crossAll p w (fuel + 1) s = crossAll p w fuel (crossOne p n w s) := by
  simp only [crossAll, h]

/-! ### The shade point (R96, R99, R112) -/

theorem settleScan_measured {s : State} {c : Scan} {b : Measurement} {pos : Nat} (hc : s.smu.scan = some c)
    (hb : s.smu.bus = some b) (hu : b.user = .scan c.record pos) :
    settleScan s = { s with smu := { s.smu with scan := none, overrun := some c } } := by
  have hm : s.smu.measures c.record = true := by simp [Smu.measures, hb, hu]
  simp only [settleScan, hc, hm, if_true]
  rfl

theorem settleScan_unmeasured {s : State} {c : Scan} (hc : s.smu.scan = some c)
    (hb : ∀ b pos, s.smu.bus = some b → b.user ≠ .scan c.record pos) :
    settleScan s = raiseOverrun c (c.leftSlots false s.smu) { s with smu := { s.smu with scan := none } } := by
  have hm : s.smu.measures c.record = false := by
    unfold Smu.measures
    cases hbus : s.smu.bus with
    | none => rfl
    | some b =>
      cases hu : b.user with
      | scan r pos =>
        have hne : r ≠ c.record := fun hr => hb b pos hbus (hr ▸ hu)
        simp only [hu, beq_eq_false_iff_ne.2 hne]
      | spot c => simp only [hu]
      | cal => simp only [hu]
  simp only [settleScan, hc, hm, Bool.false_eq_true, if_false]
  rfl

theorem leftSlots_eq_false {c : Scan} {m : Smu} (h : c.nscan ≤ c.completed ∨ m.params.scanList.length ≤ c.visited) :
    c.leftSlots false m = false := by
  simp only [Scan.leftSlots, Bool.false_eq_true, if_false, Bool.and_eq_false_iff, decide_eq_false_iff_not]
  omega

theorem leftSlots_eq_true {c : Scan} {m : Smu} (h1 : c.completed < c.nscan) (h2 : c.visited < m.params.scanList.length) :
    c.leftSlots false m = true := by
  simp [Scan.leftSlots, h1, h2]

/-- The scan that starts takes the parameters as they stand, which the ending of the scan before leaves (R96). -/
theorem startScan_eq {s t : State} {n : Nat} (hp : t.smu.params = s.smu.params) (ht : t.tku = s.tku) :
    startScan n t = { t with
      smu := { t.smu with scan := some ⟨n, s.smu.params.nscan, s.smu.params.kreg, 0, 0⟩ }
      tku := { s.tku with track := s.tku.track.map (fun r => if r.number = n then { r with shade := some [] } else r) } } := by
  rw [← hp, ← ht]
  rfl

theorem shadeCrossing_parked {s : State} {n : Nat} (h : s.parked = true) : shadeCrossing n s = bindSpots n s := if_pos h

theorem shadeCrossing_starts {s : State} {n : Nat} (h : s.parked = false) :
    shadeCrossing n s = startScan n (settleScan (bindSpots n s)) := if_neg (ne_true_of_eq_false h)

/-- Settles O30. -/
theorem embossAndShadePoints : Obligations.EmbossAndShadePoints := by
  refine ⟨fun n w s hn hr hp hd => ?_, fun n w s =>
    ⟨s.smu.contexts.map (·.atCrossing n), List.map_congr_left fun c _ => ?_, ?_⟩⟩
  · obtain ⟨hc, r, hrec, hre⟩ := crossingDue_eq_some.1 hd
    obtain ⟨hin, hnum⟩ := record?_eq_some hrec
    obtain ⟨fuel, hf⟩ := Nat.exists_eq_succ_of_ne_zero (List.length_pos_of_mem hin).ne'
    have hx := execPointCrossing_due (w := w) hn hr (p := .emboss) hp
    rw [hf, crossAll_due hd] at hx
    have h1 : EmbossOnly s s := ⟨_, _, rfl, rfl⟩
    have hq : r.stamped s.stamp ∈ (crossOne .emboss n w s).tku.track := by
      rw [crossOne_emboss_track]
      exact List.mem_map.2 ⟨r, hin, if_pos hnum⟩
    obtain ⟨⟨track, c, ht, hm⟩, hqin⟩ := crossAll_emboss (w := w) (q := r.stamped s.stamp) hnum fuel _ (h1.crossOne n w)
      (fun m hm => Tku.after_gt hm) hq
    refine ⟨_, r.stamped s.stamp, hx, by rw [ht], by rw [ht]; exact hm, by rw [ht], by rw [ht], by rw [ht], hqin, hnum,
      fun ph he hc hp => ?_, fun h => ?_⟩
    · rw [RepeatRecord.stamped, stamp_embossed he hc hp]
      exact ⟨rfl, fun ht => by simp [ht]⟩
    · rw [RepeatRecord.stamped, stamp_unembossed h]
      exact ⟨rfl, fun ht => by simp [ht]⟩
  · unfold SpotContext.atCrossing
    cases c.target with
    | next => simp only [Option.isNone_iff_eq_none]
    | number m => rfl
    | immediate => rfl
  · intro started bound
    have hbound : bindSpots n s = bound := rfl
    refine ⟨fun hp => shadeCrossing_parked hp, fun hp hs => ?_, fun c b pos hp hs hb hu => ?_, fun c hp hs hb =>
      ⟨fun hl => ?_, fun slot h1 h2 h3 => ?_⟩⟩
    · refine (shadeCrossing_starts hp).trans ?_
      have hset : settleScan (bindSpots n s) = bound := by
        rw [hbound]
        simp only [settleScan, show bound.smu.scan = none from hs]
      rw [hset]
      exact startScan_eq rfl rfl
    · refine (shadeCrossing_starts hp).trans ?_
      rw [settleScan_measured (s := bindSpots n s) hs hb hu]
      exact startScan_eq rfl rfl
    · refine (shadeCrossing_starts hp).trans ?_
      rw [settleScan_unmeasured (s := bindSpots n s) hs hb, leftSlots_eq_false (m := (bindSpots n s).smu) hl]
      exact startScan_eq rfl rfl
    · refine (shadeCrossing_starts hp).trans ?_
      rw [settleScan_unmeasured (s := bindSpots n s) hs hb, leftSlots_eq_true (m := (bindSpots n s).smu) h1 h2]
      have hslot : ({ bindSpots n s with smu := { (bindSpots n s).smu with scan := none } } : State).smu.slotAtPointer =
          slot.val := by
        show ((s.smu.params.scanList[s.smu.pointer - 1]?).map Fin.val).getD 0 = slot.val
        rw [h3]
        rfl
      rw [raiseOverrun, if_pos rfl, hslot]
      exact startScan_eq (raise_smu_params ..) (raise_tku ..)

end Sys2Proof.Machine
end

section
/-! The frame receiver (R184, R185). -/

namespace Sys2Proof.Machine

/-! ### The receiver's register -/

theorem receiver_of_hunting {s : State} (h : s.svl.receiver = none) :
    s.onSvl (fun v => { v with receiver := none }) = s := by
  rw [← h]
  rfl

/-- The part in RECEIVING with the bytes `bs` after the start byte. -/
def receiving (bs : List Byte) (s : State) : State := s.onSvl (fun v => { v with receiver := some bs })

theorem discardFrame_hunting {s : State} (h : s.svl.receiver = none) : discardFrame s =
    { s with svl := { s.svl with discarded := min 65535 (s.svl.discarded + 1) } } := by
  simp only [discardFrame, State.onSvl, satInc_countLimit, h]

theorem discardFrame_receiving (bs : List Byte) (s : State) : discardFrame (receiving bs s) = discardFrame s := rfl

theorem judgeFrame_receiving (bs cs : List Byte) (s : State) : judgeFrame bs (receiving cs s) = judgeFrame bs s := rfl

theorem receiveByte_start {s : State} (h : s.svl.receiver = none) : receiveByte s 0xC3#8 = receiving [] s := by
  simp only [receiveByte, h]
  rfl

theorem receiveByte_ignored {s : State} (h : s.svl.receiver = none) {b : Byte} (hb : b ≠ startByte) :
    receiveByte s b = s := by
  simp only [receiveByte, h, if_neg hb]

theorem receiveByte_receiving (bs : List Byte) (s : State) (b : Byte) :
    receiveByte (receiving bs s) b = receiveMore (bs ++ [b]) (receiving bs s) := rfl

/-! ### LEN (R184) -/

theorem le2_ofLe (a b : Byte) : le2 (ofLe [a, b]) = [a, b] := by
  have ha := a.isLt
  have hb := b.isLt
  refine congrArg₂ (fun x y => [x, y]) (BitVec.eq_of_toNat_eq ?_) (BitVec.eq_of_toNat_eq ?_)
  all_goals
    simp only [ofLe, BitVec.toNat_ofNat]
    omega

/-- The first two bytes of a frame that carries its LEN. -/
theorem field_len {L : Nat} (hL : L < 65536) {pre post rest : List Byte} (h : pre ++ post = le2 L ++ rest)
    (h2 : 2 ≤ pre.length) : field pre 0 2 = L := by
  have ht : pre.take 2 = le2 L := by
    rw [← List.take_append_of_le_length (l₂ := post) h2, h]
    exact List.take_left' (length_le2 L)
  rw [field, List.drop_zero, ht, ofLe_le2, Nat.mod_eq_of_lt hL]

/-- The bytes of a frame that is not yet whole are taken one after another. -/
theorem foldl_receiving {L : Nat} (hL : 2 ≤ L ∧ L ≤ 502) {rest : List Byte} (cs bs : List Byte) (s : State)
    (h : bs ++ cs = le2 L ++ rest) (hlen : (bs ++ cs).length < L + 4) :
    cs.foldl receiveByte (receiving bs s) = receiving (bs ++ cs) s := by
  induction cs generalizing bs with
  | nil => simp
  | cons c cs ih =>
    have hb : bs ++ c :: cs = (bs ++ [c]) ++ cs := by simp
    have hstep : receiveByte (receiving bs s) c = receiving (bs ++ [c]) s := by
      rw [receiveByte_receiving]
      unfold receiveMore
      dsimp only
      by_cases h2 : (bs ++ [c]).length < 2
      · exact if_pos h2
      · rw [field_len (by omega) (hb ▸ h) (by omega), if_neg h2, if_neg (by omega)]
        refine if_pos ?_
        rw [hb, List.length_append] at hlen
        omega
    rw [List.foldl_cons, hstep, hb]
    exact ih (bs ++ [c]) (hb ▸ h) (hb ▸ hlen)

/-- A frame's bytes after the start byte, the last of which is the second of its check. -/
theorem receive_whole {L : Nat} (hL : 2 ≤ L ∧ L ≤ 502) {payload : List Byte} (hp : payload.length = L) (c0 c1 : Byte)
    {s : State} (hs : s.svl.receiver = none) :
    (0xC3#8 :: (le2 L ++ payload ++ [c0, c1])).foldl receiveByte s = judgeFrame (le2 L ++ payload ++ [c0, c1]) s := by
  have hsplit : le2 L ++ payload ++ [c0, c1] = (le2 L ++ payload ++ [c0]) ++ [c1] := by simp
  have hlen : (le2 L ++ payload ++ [c0]).length < L + 4 := by simp [hp]; omega
  have hfull : (le2 L ++ payload ++ [c0, c1]).length = L + 4 := by simp [hp]; omega
  have hf : field (le2 L ++ payload ++ [c0, c1]) 0 2 = L :=
    field_len (rest := payload ++ [c0, c1]) (post := []) (by omega) (by simp) (by omega)
  have hpre := foldl_receiving (rest := payload ++ [c0]) hL (le2 L ++ payload ++ [c0]) [] s (by simp) hlen
  rw [List.foldl_cons, receiveByte_start hs]
  conv_lhs => rw [hsplit]
  rw [List.foldl_append, hpre, List.nil_append, List.foldl_cons, List.foldl_nil, receiveByte_receiving, ← hsplit]
  unfold receiveMore
  dsimp only
  rw [hf, hfull, if_neg (by omega), if_neg (by omega), if_neg (by omega)]
  exact judgeFrame_receiving ..

/-! ### The check (R184, R185) -/

theorem judgeFrame_eq {tag type c0 c1 : Byte} {body : List Byte} {s : State} (hb : body.length ≤ 500) :
    judgeFrame (le2 (body.length + 2) ++ (tag :: type :: body) ++ [c0, c1]) s =
      if [c0, c1] = le2 (crc16 (le2 (body.length + 2) ++ tag :: type :: body)).toNat then enqueue ⟨tag, type, body⟩ s
      else discardFrame s := by
  obtain ⟨counted, hc⟩ : ∃ x, x = le2 (body.length + 2) ++ (tag :: type :: body) := ⟨_, rfl⟩
  have hlen : counted.length = 2 + (body.length + 2) := by simp [hc]
  have hf : field (counted ++ [c0, c1]) 0 2 = body.length + 2 :=
    field_len (rest := tag :: type :: body ++ [c0, c1]) (post := []) (by omega) (by simp [hc]) (by simp [hlen])
  have hcheck : field (counted ++ [c0, c1]) (2 + (body.length + 2)) 2 = ofLe [c0, c1] := by
    rw [field, List.drop_left' hlen]
    rfl
  have hcrc : ofLe [c0, c1] = (crc16 counted).toNat ↔ [c0, c1] = le2 (crc16 counted).toNat :=
    ⟨fun h => by rw [← h, le2_ofLe], fun h => by
      rw [h, ofLe_le2]
      exact Nat.mod_eq_of_lt (crc16 counted).isLt⟩
  rw [← hc]
  unfold judgeFrame
  dsimp only
  rw [hf, hcheck, List.take_left' hlen]
  simp only [hcrc]
  subst hc
  rfl

theorem enqueue_room {f : RequestFrame} {s : State} (hs : s.svl.receiver = none) (h : s.svl.input.length < 4) :
    enqueue f s = { s with svl := { s.svl with input := s.svl.input ++ [f] } } := by
  unfold enqueue
  rw [receiver_of_hunting hs]
  exact if_pos h

theorem enqueue_full {f : RequestFrame} {s : State} (hs : s.svl.receiver = none) (h : 4 ≤ s.svl.input.length) :
    enqueue f s = if s.svl.queueFullWaiting then discardFrame s
      else pushReply ⟨.queueFull, f.tag, f.type, .queueFull, [], false⟩ s := by
  unfold enqueue
  rw [receiver_of_hunting hs]
  exact if_neg (Nat.not_lt.2 h)

theorem queueFullWaiting_iff {v : Svl} : v.queueFullWaiting = true ↔ ∃ r ∈ v.replies, r.kind = .queueFull := by
  simp [Svl.queueFullWaiting]

theorem le2_pair (n : Nat) : ∃ c0 c1, [c0, c1] = le2 n := ⟨_, _, rfl⟩

theorem supervisorFrame_eq {tag type c0 c1 : Byte} {body : List Byte}
    (hc : [c0, c1] = le2 (crc16 (le2 (body.length + 2) ++ tag :: type :: body)).toNat) :
    supervisorFrame tag type body = 0xC3#8 :: (le2 (body.length + 2) ++ (tag :: type :: body) ++ [c0, c1]) := by
  rw [hc]
  rfl

theorem execFrameReceived_whole {tag type c0 c1 : Byte} {body : List Byte} {s : State} (hs : s.svl.receiver = none)
    (hb : body.length ≤ 500) :
    execFrameReceived (0xC3#8 :: (le2 (body.length + 2) ++ (tag :: type :: body) ++ [c0, c1])) s =
      .next (if [c0, c1] = le2 (crc16 (le2 (body.length + 2) ++ tag :: type :: body)).toNat then
        enqueue ⟨tag, type, body⟩ s else discardFrame s) := by
  have hw := receive_whole (L := body.length + 2) (payload := tag :: type :: body) (by omega) rfl c0 c1 hs
  rw [execFrameReceived, hw, judgeFrame_eq hb]

/-- Settles O4. -/
theorem framesAreReceived : Obligations.FramesAreReceived := by
  refine ⟨fun tag type body s hs hb => ?_, fun bytes s hs hn => ?_, fun l0 l1 s hs hl => ?_,
    fun tag type c0 c1 body s hs hb hc => ?_, fun bytes s hs => ?_, fun s hs => ?_⟩
  · obtain ⟨c0, c1, hc⟩ := le2_pair (crc16 (le2 (body.length + 2) ++ tag :: type :: body)).toNat
    have hx : exec (.frameReceived (supervisorFrame tag type body)) s = .next (enqueue ⟨tag, type, body⟩ s) := by
      rw [supervisorFrame_eq hc]
      exact (execFrameReceived_whole hs hb).trans (congrArg _ (if_pos hc))
    rw [hx]
    refine ⟨fun h => by rw [enqueue_room hs h], fun h hw => ?_, fun h hw => ?_⟩
    · rw [enqueue_full hs h, if_neg fun hq => ?_]
      obtain ⟨r, hr, hk⟩ := queueFullWaiting_iff.1 hq
      exact hw r hr hk
    · rw [enqueue_full hs h, if_pos (queueFullWaiting_iff.2 hw), discardFrame_hunting hs]
  · refine congrArg Host.Outcome.next ?_
    induction bytes with
    | nil => rfl
    | cons b bs ih =>
      obtain ⟨hb, hbs⟩ := List.ne_and_not_mem_of_not_mem_cons hn
      rw [List.foldl_cons, receiveByte_ignored hs hb.symm]
      exact ih hbs
  · refine congrArg Host.Outcome.next ?_
    have hf : field [l0, l1] 0 2 = l0.toNat + 256 * l1.toNat := by simp [field, ofLe]
    rw [List.foldl_cons, receiveByte_start hs, List.foldl_cons, List.foldl_cons, List.foldl_nil]
    have h1 : receiveByte (receiving [] s) l0 = receiving [l0] s := rfl
    rw [h1, receiveByte_receiving]
    show receiveMore [l0, l1] _ = _
    unfold receiveMore
    dsimp only
    rw [hf, if_neg (by simp), if_pos hl, discardFrame_receiving, discardFrame_hunting hs]
  · exact (execFrameReceived_whole hs hb).trans (congrArg _ ((if_neg hc).trans (discardFrame_hunting hs)))
  · refine congrArg _ ((if_pos (by simp [hs])).trans ?_)
    simp only [discardFrame, State.onSvl, satInc_countLimit]
  · exact congrArg _ (if_neg (by simp [hs]))

end Sys2Proof.Machine
end

section
/-! The request taker, IDENTIFY and STATUS (R186, R188). -/

namespace Sys2Proof.Machine

/-! ### Delivery (R186) -/

/-- A request that a frame spells is delivered to its owner as the command it is, whose owner takes it. -/
theorem deliver_requestOf {tag type : Byte} {body : List Byte} {i : Instr} (h : requestOf tag type body = some i)
    (s : State) : deliver i s = exec i s ∧ ∃ t, deliver i s = .next t := by
  unfold requestOf at h
  split at h
  case h_51 => cases h
  all_goals
    cases h
    exact ⟨rfl, _, rfl⟩

theorem requestOf_isSome {tag type : Byte} {body : List Byte} {n : Nat} (h : bodyLength type = some n) :
    (requestOf tag type body).isSome = true := by
  unfold bodyLength at h
  split at h
  case h_51 => cases h
  all_goals
    next ht => rw [requestOf, ht]; rfl

theorem decodeRequest_request {tag type : Byte} {body : List Byte} {i : Instr}
    (h : decodeRequest tag type body = .request i) : requestOf tag type body = some i := by
  unfold decodeRequest at h
  split at h
  next n j hn hj =>
    split at h
    · cases h
      exact hj
    · cases h
  next => cases h

theorem decodeRequest_unknown {tag type : Byte} {body : List Byte} (h : bodyLength type = none) :
    decodeRequest tag type body = .unknown := by
  simp only [decodeRequest, h]

theorem decodeRequest_badLength {tag type : Byte} {body : List Byte} {n : Nat} (h : bodyLength type = some n)
    (hn : body.length ≠ n) : decodeRequest tag type body = .badLength := by
  obtain ⟨i, hi⟩ := Option.isSome_iff_exists.1 (requestOf_isSome (tag := tag) (body := body) h)
  simp only [decodeRequest, h, hi, if_neg hn]

theorem takingBlocked_iff {v : Svl} : v.takingBlocked = true ↔ ∃ r ∈ v.replies, r.kind = .ordinary := by
  simp [Svl.takingBlocked]

section
variable {f : RequestFrame} {rest : List RequestFrame} {s : State} (hi : s.svl.input = f :: rest)
include hi

theorem execRequestTake_blocked (h : s.svl.takingBlocked = true) : execRequestTake s = .next s := by
  simp only [execRequestTake, hi, h, if_true]

theorem execRequestTake_request (h : s.svl.takingBlocked = false) {i : Instr}
    (hd : decodeRequest f.tag f.type f.body = .request i) :
    execRequestTake s = deliver i { s with svl := { s.svl with input := rest } } := by
  simp only [execRequestTake, hi, h, hd, Bool.false_eq_true, if_false]
  rfl

theorem execRequestTake_unknown (h : s.svl.takingBlocked = false) (hd : decodeRequest f.tag f.type f.body = .unknown) :
    execRequestTake s = .next (answer f.tag f.type .unknown [] { s with svl := { s.svl with input := rest } }) := by
  simp only [execRequestTake, hi, h, hd, Bool.false_eq_true, if_false]
  rfl

theorem execRequestTake_badLength (h : s.svl.takingBlocked = false)
    (hd : decodeRequest f.tag f.type f.body = .badLength) :
    execRequestTake s = .next (answer f.tag f.type .badLength [] { s with svl := { s.svl with input := rest } }) := by
  simp only [execRequestTake, hi, h, hd, Bool.false_eq_true, if_false]
  rfl

end

/-! ### STATUS (R188) -/

/-- A flag as a byte. -/
def flagByte (x : Bool) : List Byte := [if x then 1 else 0]

theorem mark_eq (b : Bool) : mark b = flagByte b := by cases b <;> rfl

theorem coded2_eq (b : Bool) : coded2 b = flagByte (!b) := by cases b <;> rfl

/-- Settles O5. -/
theorem requestIsTaken : Obligations.RequestIsTaken := by
  refine ⟨⟨fun s h => ?_, fun f rest s hi => ⟨fun hw => ?_, fun hw => execRequestTake_blocked hi (takingBlocked_iff.2 hw)⟩⟩,
    fun tag s => rfl, fun tag s => ?_⟩
  · show execRequestTake s = _
    simp only [execRequestTake, h]
  · have hb : s.svl.takingBlocked = false := Bool.eq_false_of_not_eq_true fun h => by
      obtain ⟨r, hr, hk⟩ := takingBlocked_iff.1 h
      exact hw r hr hk
    refine ⟨fun i hd => ?_, fun hn => execRequestTake_unknown hi hb (decodeRequest_unknown hn), fun n hn hl =>
      execRequestTake_badLength hi hb (decodeRequest_badLength hn hl)⟩
    have hx : exec .requestTake s = deliver i { s with svl := { s.svl with input := rest } } :=
      execRequestTake_request hi hb hd
    obtain ⟨he, t, ht⟩ := deliver_requestOf (decodeRequest_request hd) { s with svl := { s.svl with input := rest } }
    exact ⟨hx.trans he, t, hx.trans ht⟩
  · intro flag opt set laneCode line growth track register emboss shade spots lane rolls batches labels parameter events link
    have hline : statusLine s.wtb = line := by
      simp only [statusLine, mark_eq, coded2_eq, Bool.not_not]
      rfl
    have htrack : statusTrack s.tku = track := rfl
    have hregister : statusRegister s.rlu = register := rfl
    have hemboss : statusEmboss s = emboss := by
      simp only [statusEmboss, mark_eq]
      rfl
    have hshade : statusShade s = shade := by
      simp only [statusShade, mark_eq]
      rfl
    have hspots : statusSpots s.smu = spots := by
      simp only [statusSpots, mark_eq, coded2_eq, Bool.not_not]
      rfl
    have hrolls : statusRolls s.rku = rolls := by
      simp only [statusRolls, statusLane, mark_eq]
      rfl
    have hbatches : statusBatches s.btu = batches := by
      simp only [statusBatches, mark_eq]
      rfl
    have hlabels : statusLabels s.lbp = labels := by
      simp only [statusLabels, coded2_eq]
      rfl
    have hevents : statusEvents s.evu = events := by
      have hparameter : ∀ a, encodeAction (some a) = parameter a := fun a => by
        cases a with
        | spot t => cases t <;> rfl
        | cut t => cases t <;> rfl
        | holdLine | releaseEmboss | newBatch => rfl
      have hroute : Route.bytes = fun x => le1 x.event.code ++ parameter x.action ++ le1 x.remaining :=
        funext fun x => by rw [Route.bytes, hparameter]
      rw [statusEvents, hroute]
      rfl
    have hbytes : statusBytes s = line ++ track ++ register ++ emboss ++ shade ++ spots ++ rolls ++ batches ++ labels ++
        events ++ link := by
      rw [← hline, ← htrack, ← hregister, ← hemboss, ← hshade, ← hspots, ← hrolls, ← hbatches, ← hlabels, ← hevents]
      rfl
    exact congrArg (fun bs => Host.Outcome.next (answer tag 0x61#8 .ok bs s)) hbytes

end Sys2Proof.Machine
end

section
/-! Every well-formed request decodes from its own encoding (R191). -/

namespace Sys2Proof.Machine

/-! ### Fields of a body laid out piece by piece -/

theorem field_skip {x : List Byte} {n : Nat} (h : x.length = n) (rest : List Byte) (m k : Nat) :
    field (x ++ rest) (m + n) k = field rest m k := by
  rw [field, field, Nat.add_comm, ← List.drop_drop, List.drop_left' h]

theorem field_here {x : List Byte} {n : Nat} (h : x.length = n) (rest : List Byte) : field (x ++ rest) 0 n = ofLe x := by
  rw [field, List.drop_zero, List.take_left' h]

section
variable (n m k : Nat) (rest : List Byte)

@[simp] theorem field_le1 : field (le1 n ++ rest) 0 1 = n % 256 := (field_here rfl rest).trans (ofLe_le1 n)
@[simp] theorem field_le2 : field (le2 n ++ rest) 0 2 = n % 65536 := (field_here rfl rest).trans (ofLe_le2 n)
@[simp] theorem field_le4 : field (le4 n ++ rest) 0 4 = n % 4294967296 := (field_here rfl rest).trans (ofLe_le4 n)
@[simp] theorem field_le1_skip : field (le1 n ++ rest) (m + 1) k = field rest m k := field_skip rfl rest m k
@[simp] theorem field_le2_skip : field (le2 n ++ rest) (m + 2) k = field rest m k := field_skip rfl rest m k
@[simp] theorem field_le4_skip : field (le4 n ++ rest) (m + 4) k = field rest m k := field_skip rfl rest m k

/-- The last piece of a body. -/
@[simp] theorem field_le1_last : field (le1 n) 0 1 = n % 256 := by
  simpa using field_le1 n []
@[simp] theorem field_le2_last : field (le2 n) 0 2 = n % 65536 := by
  simpa using field_le2 n []
@[simp] theorem field_le4_last : field (le4 n) 0 4 = n % 4294967296 := by
  simpa using field_le4 n []

end

/-! ### Named values -/

/-- What a piece of one byte spells. -/
def Spells {α : Type} (decode : Nat → Coded α) (x : List Byte) (c : Coded α) : Prop :=
  x.length = 1 ∧ decode (ofLe x) = c

theorem Spells.here {α : Type} {decode : Nat → Coded α} {x : List Byte} {c : Coded α} (h : Spells decode x c)
    (rest : List Byte) : decode (field (x ++ rest) 0 1) = c := by
  rw [field_here h.1, h.2]

theorem spells_first (c : Coded Bool) : Spells firstIsSet (encodeFirst c) c := by
  cases c with
  | none => exact ⟨rfl, rfl⟩
  | some b => cases b <;> exact ⟨rfl, rfl⟩

theorem spells_second (c : Coded Bool) : Spells secondIsSet (encodeSecond c) c := by
  cases c with
  | none => exact ⟨rfl, rfl⟩
  | some b => cases b <;> exact ⟨rfl, rfl⟩

theorem spells_lane (c : Coded Lane) : Spells laneOf (encodeLane c) c := by
  cases c with
  | none => exact ⟨rfl, rfl⟩
  | some l => cases l <;> exact ⟨rfl, rfl⟩

theorem spells_mode (c : Coded StationMode) : Spells modeOf (encodeMode c) c := by
  cases c with
  | none => exact ⟨rfl, rfl⟩
  | some m => cases m <;> exact ⟨rfl, rfl⟩

theorem spells_colour (c : Coded Colour) : Spells (named3 .r .g .b) (encodeColour c) c := by
  cases c with
  | none => exact ⟨rfl, rfl⟩
  | some m => cases m <;> exact ⟨rfl, rfl⟩

theorem spells_batchMode (c : Coded BatchMode) : Spells (named2 .nearest .currentOnly) (encodeBatchMode c) c := by
  cases c with
  | none => exact ⟨rfl, rfl⟩
  | some m => cases m <;> exact ⟨rfl, rfl⟩

section
variable (m k : Nat) (rest : List Byte)

@[simp] theorem field_first (c : Coded Bool) : firstIsSet (field (encodeFirst c ++ rest) 0 1) = c := (spells_first c).here rest
@[simp] theorem field_second (c : Coded Bool) : secondIsSet (field (encodeSecond c ++ rest) 0 1) = c :=
  (spells_second c).here rest
@[simp] theorem field_first_skip (c : Coded Bool) : field (encodeFirst c ++ rest) (m + 1) k = field rest m k :=
  field_skip (spells_first c).1 rest m k
@[simp] theorem field_second_skip (c : Coded Bool) : field (encodeSecond c ++ rest) (m + 1) k = field rest m k :=
  field_skip (spells_second c).1 rest m k
@[simp] theorem field_lane_skip (c : Coded Lane) : field (encodeLane c ++ rest) (m + 1) k = field rest m k :=
  field_skip (spells_lane c).1 rest m k
@[simp] theorem field_colour_skip (c : Coded Colour) : field (encodeColour c ++ rest) (m + 1) k = field rest m k :=
  field_skip (spells_colour c).1 rest m k

end

@[simp] theorem field_first_last (c : Coded Bool) : firstIsSet (field (encodeFirst c) 0 1) = c := by
  simpa using field_first [] c

@[simp] theorem field_second_last (c : Coded Bool) : secondIsSet (field (encodeSecond c) 0 1) = c := by
  simpa using field_second [] c

/-! ### The fields of the set requests -/

theorem inputFieldsOf_encode (f : InputFields) : inputFieldsOf (encodeSecond f.est ++ encodeSecond f.npf ++
    encodeSecond f.prk ++ encodeSecond f.wra ++ encodeSecond f.wrb ++ encodeSecond f.scn ++ encodeSecond f.eix ++
    encodeSecond f.spl ++ encodeSecond f.tda ++ encodeSecond f.tdb ++ encodeSecond f.reversed) = f := by
  simp [inputFieldsOf]

theorem repeatParamsOf_encode {f : RepeatParams} (h : f.fits = true) : repeatParamsOf (le2 f.n ++ le1 f.g ++ le1 f.f ++
    le2 f.wMaster ++ le2 f.masterWidth ++ le2 f.stationWidth ++ le2 f.widthTol ++ le1 f.c) = f := by
  simp only [RepeatParams.fits, fits1, fits2, Bool.and_eq_true, decide_eq_true_eq] at h
  simp [repeatParamsOf, Nat.mod_eq_of_lt, h]

theorem vector_eight (v : Vector Nat 8) : ∃ a b c d e f g h, v = #v[a, b, c, d, e, f, g, h] := by
  refine ⟨v[0], v[1], v[2], v[3], v[4], v[5], v[6], v[7], ?_⟩
  ext i hi
  interval_cases i <;> rfl

theorem pathTableOf_encode {p : PathTable} (h : p.fits = true) : pathTableOf (p.d.toList.flatMap le4 ++ le4 p.de ++
    le4 p.ds ++ le4 p.dka ++ le4 p.dkb ++ le4 p.du) = p := by
  obtain ⟨d, de, ds, dka, dkb, du⟩ := p
  obtain ⟨d1, d2, d3, d4, d5, d6, d7, d8, rfl⟩ := vector_eight d
  simp [PathTable.fits, fits4] at h
  simp [pathTableOf, Nat.mod_eq_of_lt, h]

theorem stationParamsOf_encode {k : Nat} {f : StationParams} (h : f.fits = true) : stationParamsOf (le1 k ++ le2 f.d ++
    le2 f.w ++ le2 f.tol ++ le1 f.alarmCount ++ le2 f.deadband ++ le2 f.gain ++ le2 f.maxStep ++ le1 f.rate) = f := by
  simp only [StationParams.fits, fits1, fits2, Bool.and_eq_true, decide_eq_true_eq] at h
  simp [stationParamsOf, Nat.mod_eq_of_lt, h]

theorem embossFieldsOf_encode {f : EmbossFields} (h : f.fits = true) : embossFieldsOf (encodeFirst f.configured ++
    le1 f.ratio ++ le2 f.offset ++ encodeFirst f.required ++ le2 f.gain ++ le2 f.deadband ++ le2 f.maxStep ++
    le2 f.engageWindow ++ le2 f.faultLimit ++ le2 f.tol ++ le2 f.nipTimeout ++ encodeFirst f.autoReengage ++
    le1 f.rate) = f := by
  simp only [EmbossFields.fits, fits1, fits2, Bool.and_eq_true, decide_eq_true_eq] at h
  simp [embossFieldsOf, Nat.mod_eq_of_lt, h]

theorem guardFieldsOf_encode {c : Coded Colour} {f : GuardFields} (h : f.fits = true) : guardFieldsOf (encodeColour c ++
    le2 f.low ++ le2 f.high ++ encodeSecond f.all ++ le1 f.slot ++ encodeFirst f.spots) = f := by
  simp only [GuardFields.fits, fits1, fits2, Bool.and_eq_true, decide_eq_true_eq] at h
  simp [guardFieldsOf, Nat.mod_eq_of_lt, h]

theorem factorsOf_encode {slot : Nat} {f : Factors} (h : f.fits = true) : factorsOf (le1 slot ++ le2 f.gainR ++
    le2 f.gainG ++ le2 f.gainB ++ le2 f.blackR ++ le2 f.blackG ++ le2 f.blackB) = f := by
  simp only [Factors.fits, fits2, Bool.and_eq_true, decide_eq_true_eq] at h
  simp [factorsOf, Nat.mod_eq_of_lt, h]

theorem laneFieldsOf_encode {l : Coded Lane} {f : LaneFields} (h : f.fits = true) : laneFieldsOf (encodeLane l ++
    encodeFirst f.enabled ++ le2 f.cutOffset ++ le4 f.target ++ le4 f.minLength ++ le2 f.defectLimit ++
    le2 f.knifeLead ++ le1 f.maxDeferrals ++ le2 f.turretTimeout) = f := by
  simp only [LaneFields.fits, fits1, fits2, fits4, Bool.and_eq_true, decide_eq_true_eq] at h
  simp [laneFieldsOf, Nat.mod_eq_of_lt, h]

theorem labelFieldsOf_encode {f : LabelFields} (h : f.fits = true) : labelFieldsOf (encodeFirst f.enabledA ++
    encodeFirst f.enabledB ++ le1 f.templateA ++ le1 f.templateB ++ le2 f.timeout ++ le1 f.retries) = f := by
  simp only [LabelFields.fits, fits1, fits2, Bool.and_eq_true, decide_eq_true_eq] at h
  simp [labelFieldsOf, Nat.mod_eq_of_lt, h]

theorem batchFieldsOf_encode {f : BatchFields} (h : f.fits = true) : batchFieldsOf ([f.char1, f.char2] ++ le2 f.tol ++
    le1 f.wR ++ le1 f.wG ++ le1 f.wB ++ le2 f.rollsPerBatch ++ encodeBatchMode f.mode) = f := by
  have hskip : ∀ m k rest, field ([f.char1, f.char2] ++ rest) (m + 2) k = field rest m k := fun m k rest => field_skip rfl rest m k
  have hmode : named2 BatchMode.nearest .currentOnly (field (encodeBatchMode f.mode) 0 1) = f.mode := by
    simpa using (spells_batchMode f.mode).here []
  simp only [BatchFields.fits, fits1, fits2, Bool.and_eq_true, decide_eq_true_eq] at h
  simp only [batchFieldsOf, List.append_assoc, hskip, field_le2, field_le1, field_le1_skip, field_le2_skip, hmode,
    Nat.mod_eq_of_lt, h]
  rfl

theorem listOf_encode {items : List Nat} (h6 : items.length ≤ 6) (h : ∀ n ∈ items, n < 256) (rest : List Byte) :
    listOf items.length 6 (((items.flatMap le1 ++ List.replicate (6 - items.length) 0) ++ rest).take 6) = items := by
  have hlen : (items.flatMap le1).length = items.length := by simp [length_flatMap_const (f := le1) (k := 1) (fun _ => rfl)]
  have hone : items.flatMap le1 = items.map (fun n => BitVec.ofNat 8 n) := by
    rw [List.map_eq_flatMap]
    rfl
  rw [listOf, if_pos h6, List.take_left' (by simp [hlen]; omega), List.take_left' hlen, hone, List.map_map]
  conv_rhs => rw [← List.map_id items]
  exact List.map_congr_left fun n hn => Nat.mod_eq_of_lt (h n hn)

theorem shadeFieldsOf_encode {f : ShadeFields} (h : f.fits = true) : shadeFieldsOf (le1 f.scanList.length ++
    f.scanList.flatMap le1 ++ List.replicate (6 - f.scanList.length) 0 ++ le1 f.nscan ++ le1 f.kreg ++ le2 f.offset ++
    encodeFirst f.keep ++ encodeSecond f.overwrite ++ le2 f.whiteTarget) = f := by
  simp only [ShadeFields.fits, fits1, fits2, Bool.and_eq_true, decide_eq_true_eq, List.all_eq_true] at h
  obtain ⟨⟨⟨⟨⟨h6, hl⟩, hn⟩, hk⟩, ho⟩, hw⟩ := h
  have hitems := listOf_encode h6 (by simpa using hl) (le1 f.nscan ++ (le1 f.kreg ++ (le2 f.offset ++
    (encodeFirst f.keep ++ (encodeSecond f.overwrite ++ le2 f.whiteTarget)))))
  have hX : (f.scanList.flatMap le1 ++ List.replicate (6 - f.scanList.length) 0).length = 6 := by
    rw [List.length_append, length_flatMap_const (f := le1) (k := 1) (fun _ => rfl), List.length_replicate]
    omega
  have hassoc : le1 f.scanList.length ++ f.scanList.flatMap le1 ++ List.replicate (6 - f.scanList.length) 0 ++
      le1 f.nscan ++ le1 f.kreg ++ le2 f.offset ++ encodeFirst f.keep ++ encodeSecond f.overwrite ++ le2 f.whiteTarget =
      le1 f.scanList.length ++ ((f.scanList.flatMap le1 ++ List.replicate (6 - f.scanList.length) 0) ++ (le1 f.nscan ++
        (le1 f.kreg ++ (le2 f.offset ++ (encodeFirst f.keep ++ (encodeSecond f.overwrite ++ le2 f.whiteTarget)))))) := by
    simp only [List.append_assoc]
  have hlen : f.scanList.length % 256 = f.scanList.length := Nat.mod_eq_of_lt (by omega)
  rw [hassoc]
  generalize f.scanList.flatMap le1 ++ List.replicate (6 - f.scanList.length) 0 = X at hitems hX
  have hskip : ∀ m k rest, field (X ++ rest) (m + 6) k = field rest m k := fun m k rest => field_skip hX rest m k
  have hdrop : ∀ rest, (le1 f.scanList.length ++ rest).drop 1 = rest := fun _ => rfl
  simp only [shadeFieldsOf, field_le1, hlen, hdrop, hitems, field_le1_skip, hskip, field_le2_skip, field_le2,
    field_first, field_first_skip, field_second, field_second_skip, field_le2_last, Nat.mod_eq_of_lt, hn, hk, ho, hw]

/-! ### The requests -/

@[simp] theorem length_encodeFirst (c : Coded Bool) : (encodeFirst c).length = 1 := (spells_first c).1
@[simp] theorem length_encodeSecond (c : Coded Bool) : (encodeSecond c).length = 1 := (spells_second c).1
@[simp] theorem length_encodeLane (c : Coded Lane) : (encodeLane c).length = 1 := (spells_lane c).1
@[simp] theorem length_encodeColour (c : Coded Colour) : (encodeColour c).length = 1 := (spells_colour c).1
@[simp] theorem length_encodeMode (c : Coded StationMode) : (encodeMode c).length = 1 := (spells_mode c).1
@[simp] theorem length_encodeBatchMode (c : Coded BatchMode) : (encodeBatchMode c).length = 1 := (spells_batchMode c).1
@[simp] theorem length_le1 (n : Nat) : (le1 n).length = 1 := rfl

theorem decodeRequest_of {tag type : Byte} {body : List Byte} {n : Nat} {i : Instr} (hn : bodyLength type = some n)
    (hl : body.length = n) (hr : requestOf tag type body = some i) : decodeRequest tag type body = .request i := by
  simp only [decodeRequest, hn, hr, if_pos hl]

/-- A seek target and the number beside it (R48, R144). -/
theorem seekOf_encode {size : Nat → List Byte} {k : Nat} {t : Coded SeekTarget} (hk : ∀ n, (size n).length = k)
    (h : ∀ n, t = some (.number n) → ofLe (size n) = n) :
    seekOf (field (encodeSeek size t) 0 1) (field (encodeSeek size t) 1 k) = t := by
  have hfield : ∀ (b : Byte) n, field ([b] ++ size n) 1 k = ofLe (size n) := fun b n => by
    have hs : field ([b] ++ size n) (0 + 1) k = field (size n) 0 k := field_skip (n := 1) rfl ..
    rw [hs, field, List.drop_zero, ← hk n, List.take_length]
  cases t with
  | none => rfl
  | some t =>
    cases t with
    | number n =>
      show seekOf 0 (field ([0x00#8] ++ size n) 1 k) = _
      rw [hfield, h n rfl]
      rfl
    | oldest => rfl
    | newest => rfl

theorem length_encodeSeek {size : Nat → List Byte} {k : Nat} (hk : ∀ n, (size n).length = k) (t : Coded SeekTarget) :
    (encodeSeek size t).length = k + 1 := by
  cases t with
  | none => simp [encodeSeek, hk]
  | some t => cases t <;> simp [encodeSeek, hk]

theorem length_encodeTarget (t : Coded SpotTarget) : (encodeTarget t).length = 5 := by
  cases t with
  | none => rfl
  | some t => cases t <;> rfl

theorem targetOfSpot_encode {t : Coded SpotTarget} (h : codedAll SpotTarget.fits t = true) (rest : List Byte) :
    targetOfSpot (field (encodeTarget t ++ rest) 0 1) (field (encodeTarget t ++ rest) 1 4) = t := by
  cases t with
  | none => rfl
  | some t =>
    cases t with
    | next => rfl
    | number n =>
      have hn : n < 4294967296 := of_decide_eq_true h
      show targetOfSpot 1 (field (le1 1 ++ (le4 n ++ rest)) (0 + 1) 4) = _
      rw [field_le1_skip, field_le4, Nat.mod_eq_of_lt hn]
      rfl
    | immediate => rfl

theorem length_encodeAction (a : Coded RouteAction) : (encodeAction a).length = 6 := by
  cases a with
  | none => rfl
  | some a =>
    cases a with
    | spot t => cases t <;> rfl
    | cut t => cases t <;> rfl
    | holdLine | releaseEmboss | newBatch => rfl

theorem actionOf_encode {a : Coded RouteAction} (h : codedAll RouteAction.fits a = true) (rest : List Byte) :
    actionOf (field (encodeAction a ++ rest) 0 1) (field (encodeAction a ++ rest) 1 1)
      (field (encodeAction a ++ rest) 2 1) (field (encodeAction a ++ rest) 3 1) (field (encodeAction a ++ rest) 4 1)
      (field (encodeAction a ++ rest) 5 1) = a := by
  cases a with
  | none => rfl
  | some a =>
    cases a with
    | spot t =>
      cases t with
      | none => rfl
      | some t =>
        simp only [codedAll, RouteAction.fits, fits1, Bool.and_eq_true, decide_eq_true_eq] at h
        obtain ⟨⟨hs, hk⟩, hg⟩ := h
        show actionOf 0 1 1 (ofLe (le1 t.slot)) (ofLe (le1 t.k)) (ofLe (le1 t.tag)) = _
        rw [ofLe_le1, ofLe_le1, ofLe_le1, Nat.mod_eq_of_lt hs, Nat.mod_eq_of_lt hk, Nat.mod_eq_of_lt hg]
        rfl
    | cut t =>
      cases t with
      | lane l => cases l <;> rfl
      | event => rfl
    | holdLine | releaseEmboss | newBatch => rfl

theorem sfield2_encode {c : Nat} {n : Int} (h : -32768 ≤ n ∧ n ≤ 32767) : sfield2 (le1 c ++ sle2 n) 1 = n := by
  have hf : field (le1 c ++ sle2 n) (0 + 1) 2 = (BitVec.ofInt 16 n).toNat := by
    rw [field_le1_skip, sle2, field_le2_last]
    exact Nat.mod_eq_of_lt (BitVec.ofInt 16 n).isLt
  rw [sfield2, hf, BitVec.ofNat_toNat, BitVec.setWidth_eq, BitVec.toInt_ofInt]
  exact Int.bmod_eq_of_le (by omega) (by omega)

/-- Settles O6. -/
theorem requestDecodesItsEncoding : Obligations.RequestDecodesItsEncoding := by
  intro i type body hwf henc
  cases i with
  | jobOpen tag | jobStart tag | jobHold tag | jobResume tag | jobStop tag | jobEnd tag | recover tag | embossEngage tag
  | embossRelease tag | spotTrigger tag | spotStop tag | batchList tag | batchBreak tag | identify tag | status tag
  | reset tag | slotEnable tag m | calibrate tag m =>
    cases henc
    rfl
  | stopAck tag c | trackRead tag c | spotRead tag c | calRead tag c | rollRead tag c | noticeFloor tag c
  | noticeClear tag c | routeUnbind tag c | routeFire tag c =>
    cases henc
    have hc : field (le1 c) 0 1 = c := (field_le1_last c).trans (Nat.mod_eq_of_lt (of_decide_eq_true hwf))
    refine decodeRequest_of rfl rfl ?_
    simp [requestOf, hc, Instr.tag]
  | labelReprint tag c | labelDiscard tag c =>
    cases henc
    have hc : field (le2 c) 0 2 = c := (field_le2_last c).trans (Nat.mod_eq_of_lt (of_decide_eq_true hwf))
    refine decodeRequest_of rfl rfl ?_
    simp [requestOf, hc, Instr.tag]
  | inputSet tag f =>
    cases henc
    exact decodeRequest_of rfl (by simp) (congrArg (fun f => some (Instr.inputSet tag f)) (inputFieldsOf_encode f))
  | repeatSet tag f =>
    cases henc
    exact decodeRequest_of rfl (by simp) (congrArg (fun f => some (Instr.repeatSet tag f)) (repeatParamsOf_encode hwf))
  | pathSet tag f =>
    cases henc
    refine decodeRequest_of rfl ?_ (congrArg (fun f => some (Instr.pathSet tag f)) (pathTableOf_encode hwf))
    simp [length_flatMap_const (f := le4) (k := 4) (fun _ => rfl)]
  | embossSet tag f =>
    cases henc
    exact decodeRequest_of rfl (by simp) (congrArg (fun f => some (Instr.embossSet tag f)) (embossFieldsOf_encode hwf))
  | shadeSet tag f =>
    cases henc
    refine decodeRequest_of rfl ?_ (congrArg (fun f => some (Instr.shadeSet tag f)) (shadeFieldsOf_encode hwf))
    have h6 : f.scanList.length ≤ 6 := by
      simp only [Instr.wellFormed, ShadeFields.fits, Bool.and_eq_true, decide_eq_true_eq] at hwf
      omega
    simp [length_flatMap_const (f := le1) (k := 1) (fun _ => rfl)]
    omega
  | batchSet tag f =>
    cases henc
    exact decodeRequest_of rfl (by simp) (congrArg (fun f => some (Instr.batchSet tag f)) (batchFieldsOf_encode hwf))
  | labelSet tag f =>
    cases henc
    exact decodeRequest_of rfl (by simp) (congrArg (fun f => some (Instr.labelSet tag f)) (labelFieldsOf_encode hwf))
  | lineSet tag c h =>
    cases henc
    have hc : c < 256 := of_decide_eq_true hwf
    refine decodeRequest_of rfl (by simp) ?_
    simp [requestOf, Instr.tag, Nat.mod_eq_of_lt hc]
  | trackSeek tag t =>
    cases henc
    refine decodeRequest_of rfl (length_encodeSeek length_le4 t) (congrArg (fun t => some (Instr.trackSeek tag t))
      (seekOf_encode length_le4 fun n ht => ?_))
    subst ht
    exact (ofLe_le4 n).trans (Nat.mod_eq_of_lt (of_decide_eq_true hwf))
  | rollSeek tag t =>
    cases henc
    refine decodeRequest_of rfl (length_encodeSeek length_le2 t) (congrArg (fun t => some (Instr.rollSeek tag t))
      (seekOf_encode length_le2 fun n ht => ?_))
    subst ht
    exact (ofLe_le2 n).trans (Nat.mod_eq_of_lt (of_decide_eq_true hwf))
  | stationSet tag k f =>
    cases henc
    obtain ⟨hk, hf⟩ := Bool.and_eq_true_iff.1 hwf
    have hk : k < 256 := of_decide_eq_true hk
    exact decodeRequest_of rfl (by simp) (congrArg₂ (fun k f => some (Instr.stationSet tag k f))
      (by simp [Nat.mod_eq_of_lt hk]) (stationParamsOf_encode hf))
  | stationMode tag k m =>
    cases henc
    have hk : k < 256 := of_decide_eq_true hwf
    have hm : modeOf (field (encodeMode m) 0 1) = m := by simpa using (spells_mode m).here []
    refine decodeRequest_of rfl (by simp) ?_
    simp [requestOf, Instr.tag, Nat.mod_eq_of_lt hk, hm]
  | trim tag c n =>
    cases henc
    obtain ⟨hc, hn⟩ := Bool.and_eq_true_iff.1 hwf
    have hc : c < 256 := of_decide_eq_true hc
    refine decodeRequest_of rfl (by simp [sle2]) ?_
    simp [requestOf, Instr.tag, Nat.mod_eq_of_lt hc, sfield2_encode (of_decide_eq_true hn)]
  | guardSet tag c f =>
    cases henc
    refine decodeRequest_of rfl (by simp) (congrArg₂ (fun c f => some (Instr.guardSet tag c f)) ?_
      (guardFieldsOf_encode hwf))
    simp only [List.append_assoc]
    exact (spells_colour c).here _
  | spot tag slot k t g =>
    cases henc
    simp only [Instr.wellFormed, fits1, Bool.and_eq_true, decide_eq_true_eq] at hwf
    obtain ⟨⟨⟨hs, hk⟩, ht⟩, hg⟩ := hwf
    have hskip : ∀ m k rest, field (encodeTarget t ++ rest) (m + 5) k = field rest m k :=
      fun m k rest => field_skip (length_encodeTarget t) rest m k
    refine decodeRequest_of rfl (by simp [length_encodeTarget]) ?_
    simp [requestOf, Instr.tag, Nat.mod_eq_of_lt hs, Nat.mod_eq_of_lt hk, Nat.mod_eq_of_lt hg, targetOfSpot_encode ht, hskip]
  | calWrite tag slot f =>
    cases henc
    obtain ⟨hs, hf⟩ := Bool.and_eq_true_iff.1 hwf
    have hs : slot < 256 := of_decide_eq_true hs
    exact decodeRequest_of rfl (by simp) (congrArg₂ (fun k f => some (Instr.calWrite tag k f))
      (by simp [Nat.mod_eq_of_lt hs]) (factorsOf_encode hf))
  | laneSet tag l f =>
    cases henc
    refine decodeRequest_of rfl (by simp) (congrArg₂ (fun l f => some (Instr.laneSet tag l f)) ?_
      (laneFieldsOf_encode hwf))
    simp only [List.append_assoc]
    exact (spells_lane l).here _
  | cut tag l =>
    cases henc
    have hl : laneOf (field (encodeLane l) 0 1) = l := by simpa using (spells_lane l).here []
    refine decodeRequest_of rfl (by simp) ?_
    simp [requestOf, Instr.tag, hl]
  | batchClose tag code =>
    cases henc
    exact decodeRequest_of rfl (of_decide_eq_true hwf) rfl
  | eventLevel tag c l =>
    cases henc
    simp only [Instr.wellFormed, fits1, Bool.and_eq_true, decide_eq_true_eq] at hwf
    refine decodeRequest_of rfl (by simp) ?_
    simp [requestOf, Instr.tag, Nat.mod_eq_of_lt, hwf]
  | routeBind tag slot code a n =>
    cases henc
    simp only [Instr.wellFormed, fits1, Bool.and_eq_true, decide_eq_true_eq] at hwf
    obtain ⟨⟨⟨hs, hc⟩, ha⟩, hn⟩ := hwf
    have hskip : ∀ m k rest, field (encodeAction a ++ rest) (m + 6) k = field rest m k :=
      fun m k rest => field_skip (length_encodeAction a) rest m k
    refine decodeRequest_of rfl (by simp [length_encodeAction]) ?_
    simp [requestOf, Instr.tag, Nat.mod_eq_of_lt hs, Nat.mod_eq_of_lt hc, Nat.mod_eq_of_lt hn, actionOf_encode ha, hskip]
  | _ => cases henc

end Sys2Proof.Machine
end

section
/-! Measurements: the sample of a frame slot settled, the entry of a completed measurement, and the scan after it
(R91 to R99, R103 to R107). -/

namespace Sys2Proof.Machine

/-! ### The sample of the ended frame slot (R91, R92) -/

/-- A measurement after a sample that is not good. -/
def Measurement.spoilt (b : Measurement) : Measurement := { b with exchange := none, taken := b.taken + 1, bad := true }

/-- What the hypotheses of the statements say of the measurement after its sample. -/
theorem settle_eq {b m : Measurement} {e : Exchange}
    (hg : ∀ v, e.answer = some (.good v) → m = { b with
      exchange := none, taken := b.taken + 1, sums := ⟨b.sums.r + v.r, b.sums.g + v.g, b.sums.b + v.b⟩ })
    (hb : e.answer = none ∨ e.answer = some .bad → m = b.spoilt) : b.settle e = m := by
  unfold Measurement.settle
  split
  next v hv => exact (hg v hv).symm
  next hv => exact (hb (.inr hv)).symm
  next hv => exact (hb (.inl hv)).symm

@[simp] theorem settle_slot (b : Measurement) (e : Exchange) : (b.settle e).slot = b.slot := by
  unfold Measurement.settle
  split <;> rfl

@[simp] theorem settle_k (b : Measurement) (e : Exchange) : (b.settle e).k = b.k := by
  unfold Measurement.settle
  split <;> rfl

@[simp] theorem settle_user (b : Measurement) (e : Exchange) : (b.settle e).user = b.user := by
  unfold Measurement.settle
  split <;> rfl

@[simp] theorem settle_taken (b : Measurement) (e : Exchange) : (b.settle e).taken = b.taken + 1 := by
  unfold Measurement.settle
  split <;> rfl

section
variable {b : Measurement} {e : Exchange} {s : State} (hb : s.smu.bus = some b) (he : b.exchange = some e)
include hb he

theorem execFrameSlotEnd_settles : execFrameSlotEnd s = .next (afterSample (b.settle e) s) := by
  simp only [execFrameSlotEnd, hb, he]

theorem execFrameSlotEnd_goes_on (h : b.taken + 1 < 2 ^ b.k) (hs : s.smu.heldStops = [] ∨ ∀ c, b.user ≠ .spot c) :
    execFrameSlotEnd s = .next (s.onSmu (fun m => { m with bus := some (b.settle e) })) := by
  refine (execFrameSlotEnd_settles hb he).trans (congrArg _ ?_)
  unfold afterSample
  split
  next c x xs hu hh =>
    rw [settle_user] at hu
    rcases hs with hs | hs
    · simp [hs] at hh
    · exact absurd hu (hs c)
  next => exact if_neg (by rw [settle_k, settle_taken]; omega)

theorem execFrameSlotEnd_completes (h : 2 ^ b.k ≤ b.taken + 1) (hs : s.smu.heldStops = [] ∨ ∀ c, b.user ≠ .spot c) :
    execFrameSlotEnd s = .next (completeMeasurement (b.settle e) s) := by
  refine (execFrameSlotEnd_settles hb he).trans (congrArg _ ?_)
  unfold afterSample
  split
  next c x xs hu hh =>
    rw [settle_user] at hu
    rcases hs with hs | hs
    · simp [hs] at hh
    · exact absurd hu (hs c)
  next => exact if_pos (by rw [settle_k, settle_taken]; exact h)

theorem execFrameSlotEnd_stopped {c : SpotContext} (hu : b.user = .spot c) (hs : s.smu.heldStops ≠ []) :
    execFrameSlotEnd s = .next (abandonSpot c s) := by
  refine (execFrameSlotEnd_settles hb he).trans (congrArg _ ?_)
  obtain ⟨x, xs, hx⟩ := List.exists_cons_of_ne_nil hs
  simp only [afterSample, settle_user, hu, hx]

end

theorem execFrameSlotEnd_idle {s : State} (h : s.smu.bus = none ∨ ∃ b, s.smu.bus = some b ∧ b.exchange = none) :
    execFrameSlotEnd s = .next s := by
  rcases h with h | ⟨b, h, he⟩
  · simp only [execFrameSlotEnd, h]
  · simp only [execFrameSlotEnd, h, he]

/-! ### The judgement and the entry (R106, R107) -/

theorem judged_invalid {m : Smu} {b : Measurement} (h : b.bad = true) (slot : Fin 6) (isSpot : Bool) :
    m.judged slot isSpot (m.outcome b) = .invalid := by
  rw [Smu.outcome_of_bad m b h]
  rfl

theorem judged_good {m : Smu} {b : Measurement} {slot : Fin 6} {k : Nat} (hs : b.slot = slot) (hk : b.k = k)
    (h : b.bad = false) (isSpot : Bool) : m.judged slot isSpot (m.outcome b) =
      if m.outside slot isSpot (factorValues m.active[slot] b.sums k) = true then
        .excursion (factorValues m.active[slot] b.sums k)
      else .ok (factorValues m.active[slot] b.sums k) := by
  subst hs hk
  rw [Smu.outcome_of_good m b h]
  rfl

/-- The reading is an EXCURSION. -/
def ShadeReading.isExcursion : ShadeReading → Bool
  | .excursion _ => true
  | .ok _ | .invalid => false

/-- A record with an entry at the end of its shade list. -/
def RepeatRecord.entered (r : RepeatRecord) (slot : Fin 6) (rd : ShadeReading) (excursion : Bool) : RepeatRecord :=
  { r with
    shade := some (r.shade.getD [] ++ [⟨slot, rd⟩])
    defects := { r.defects with
      shadeA := r.defects.shadeA || (excursion && decide (slot.val < 3))
      shadeB := r.defects.shadeB || (excursion && decide (3 ≤ slot.val)) } }

theorem laneOfSlot_beq_a (n : Nat) : (laneOfSlot n == .a) = decide (n < 3) := by
  unfold laneOfSlot
  split
  next h => exact (decide_eq_true h).symm
  next h => exact (decide_eq_false h).symm

theorem laneOfSlot_beq_b (n : Nat) : (laneOfSlot n == .b) = decide (3 ≤ n) := by
  unfold laneOfSlot
  split
  next h => exact (decide_eq_false (by omega)).symm
  next h => exact (decide_eq_true (by omega)).symm

theorem addShade_eq (r : RepeatRecord) (slot : Fin 6) (rd : ShadeReading) : r.addShade slot rd =
    if (r.shade.getD []).length < 6 then r.entered slot rd rd.isExcursion else r := by
  unfold RepeatRecord.addShade RepeatRecord.entered
  rw [laneOfSlot_beq_a, laneOfSlot_beq_b]
  rfl

/-- The entry of a reading in the record that its measurement served. -/
def enteredShade (slot : Fin 6) (number : Option Nat) (rd : ShadeReading) (excursion : Bool) (s : State) : State :=
  { s with tku := { s.tku with track := s.tku.track.map (fun r =>
    if some r.number = number ∧ (r.shade.getD []).length < 6 then r.entered slot rd excursion else r) } }

theorem writeShade_eq (slot : Fin 6) (rd : ShadeReading) (number : Option Nat) (s : State) :
    writeShade slot rd number s = enteredShade slot number rd rd.isExcursion s := by
  cases number with
  | none =>
    have hm : s.tku.track.map (fun r =>
        if some r.number = none ∧ (r.shade.getD []).length < 6 then r.entered slot rd rd.isExcursion else r) =
        s.tku.track := by simp
    rw [enteredShade, hm]
    rfl
  | some n =>
    refine congrArg (fun x => { s with tku := { s.tku with track := x } }) (List.map_congr_left fun r _ => ?_)
    dsimp only
    rw [addShade_eq]
    by_cases h : r.number = n <;> simp [h]

/-- The fault count of a slot written. -/
def countedFault (slot : Fin 6) (k : Nat) (s : State) : State :=
  { s with smu := { s.smu with faults := s.smu.faults.set slot k } }

section
variable (b : Measurement) (number : Option Nat) (s : State)

theorem completeShade_ok (v : Rgb) : completeShade b (.ok v) number s =
    countedFault b.slot 0 (enteredShade b.slot number (.ok v) false s) := by
  rw [completeShade, writeShade_eq]
  rfl

theorem completeShade_excursion (v : Rgb) : completeShade b (.excursion v) number s =
    countedFault b.slot 0 (enteredShade b.slot number (.excursion v) true
      (raise .shadeGuard b.slot.val (number.getD 0) s)) := by
  rw [completeShade, writeShade_eq]
  rfl

theorem completeShade_invalid (h : s.smu.faults[b.slot] + 1 < 8) : completeShade b .invalid number s =
    countedFault b.slot (s.smu.faults[b.slot] + 1) (enteredShade b.slot number .invalid false s) := by
  rw [completeShade, writeShade_eq]
  exact if_pos h

theorem completeShade_failed (h : 8 ≤ s.smu.faults[b.slot] + 1) : completeShade b .invalid number s =
    raise .headFailed b.slot.val (number.getD 0) (countedFault b.slot 0 (enteredShade b.slot number .invalid false
      { s with smu := { s.smu with enables := s.smu.enables.set b.slot false } })) := by
  rw [completeShade, writeShade_eq]
  exact if_neg (Nat.not_lt.2 h)

end

/-! ### What the entry and the fault count leave of the measurement unit -/

/-- Two states whose measurement units agree in the bus, the scans, the parameters and the calibration table. -/
structure SameMeasuring (s t : State) : Prop where
  bus : t.smu.bus = s.smu.bus
  scan : t.smu.scan = s.smu.scan
  overrun : t.smu.overrun = s.smu.overrun
  params : t.smu.params = s.smu.params
  active : t.smu.active = s.smu.active
  staged : t.smu.staged = s.smu.staged
  pointer : t.smu.pointer = s.smu.pointer

theorem SameMeasuring.raise {s t : State} (h : SameMeasuring s t) (ev : Event) (p1 p2 : Nat) :
    SameMeasuring s (raise ev p1 p2 t) :=
  ⟨(raise_smu_bus ..).trans h.bus, (raise_smu_scan ..).trans h.scan, (raise_smu_overrun ..).trans h.overrun,
    (raise_smu_params ..).trans h.params, (raise_smu_active ..).trans h.active, (raise_smu_staged ..).trans h.staged,
    (raise_smu_pointer ..).trans h.pointer⟩

theorem completeShade_same (b : Measurement) (rd : ShadeReading) (number : Option Nat) (s : State) :
    SameMeasuring s (completeShade b rd number s) := by
  have h0 : SameMeasuring s s := ⟨rfl, rfl, rfl, rfl, rfl, rfl, rfl⟩
  cases rd with
  | ok v =>
    rw [completeShade_ok]
    exact ⟨rfl, rfl, rfl, rfl, rfl, rfl, rfl⟩
  | excursion v =>
    rw [completeShade_excursion]
    obtain ⟨h1, h2, h3, h4, h5, h6, h7⟩ := h0.raise .shadeGuard b.slot.val (number.getD 0)
    exact ⟨h1, h2, h3, h4, h5, h6, h7⟩
  | invalid =>
    by_cases h : s.smu.faults[b.slot] + 1 < 8
    · rw [completeShade_invalid b number s h]
      exact ⟨rfl, rfl, rfl, rfl, rfl, rfl, rfl⟩
    · rw [completeShade_failed b number s (Nat.not_lt.1 h)]
      have hu : SameMeasuring s (countedFault b.slot 0 (enteredShade b.slot number .invalid false
          { s with smu := { s.smu with enables := s.smu.enables.set b.slot false } })) :=
        ⟨rfl, rfl, rfl, rfl, rfl, rfl, rfl⟩
      exact hu.raise ..

theorem completeShade_tku (b : Measurement) (rd : ShadeReading) (number : Option Nat) (s : State) :
    (completeShade b rd number s).tku = (enteredShade b.slot number rd rd.isExcursion s).tku := by
  cases rd with
  | ok v => rw [completeShade_ok]; rfl
  | excursion v =>
    rw [completeShade_excursion]
    exact congrArg (fun t : Tku => { t with track := t.track.map (fun r : RepeatRecord =>
      if some r.number = number ∧ (r.shade.getD []).length < 6 then r.entered b.slot (.excursion v) true else r) })
      (raise_tku .shadeGuard b.slot.val (number.getD 0) s)
  | invalid =>
    by_cases h : s.smu.faults[b.slot] + 1 < 8
    · rw [completeShade_invalid b number s h]; rfl
    · rw [completeShade_failed b number s (Nat.not_lt.1 h), raise_tku]; rfl

/-! ### The scan after a measurement (R97 to R99) -/

section
variable {n pos : Nat} {c : Scan} {s : State}

theorem advanceScan_goes_on (ho : s.smu.overrun = none) (hs : s.smu.scan = some c) (hn : c.record = n) :
    advanceScan n pos s = { s with smu := { s.smu with
      pointer := nextPosition s.smu.params.scanList.length pos
      scan := if c.nscan ≤ c.completed + 1 ∨ s.smu.params.scanList.length ≤ c.visited then none
        else some { c with completed := c.completed + 1 } } } := by
  subst hn
  conv_lhs => simp only [advanceScan, State.onSmu_smu, ho, hs, if_true]
  rfl

theorem advanceScan_alone (ho : s.smu.overrun = none) (hs : s.smu.scan = none) : advanceScan n pos s =
    { s with smu := { s.smu with pointer := nextPosition s.smu.params.scanList.length pos } } := by
  conv_lhs => simp only [advanceScan, State.onSmu_smu, ho, hs]
  rfl

/-- The measurement of an overrun scan ends that scan (R99). -/
theorem advanceScan_overrun {slot : Fin 6} (ho : s.smu.overrun = some c) (hn : c.record = n)
    (hl : s.smu.params.scanList[nextPosition s.smu.params.scanList.length pos - 1]? = some slot) {u : State}
    (hu : u = { s with smu := { s.smu with
      pointer := nextPosition s.smu.params.scanList.length pos, overrun := none } }) :
    advanceScan n pos s = if c.completed + 1 < c.nscan ∧ c.visited < s.smu.params.scanList.length then
      raise .scanOverrun slot.val n u else u := by
  have hslot : u.smu.slotAtPointer = slot.val := by
    rw [hu]
    show ((s.smu.params.scanList[nextPosition s.smu.params.scanList.length pos - 1]?).map Fin.val).getD 0 = slot.val
    rw [hl]
    rfl
  have hleft : c.leftSlots true u.smu = true ↔
      c.completed + 1 < c.nscan ∧ c.visited < s.smu.params.scanList.length := by
    simp [hu, Scan.leftSlots]
  have hx : advanceScan n pos s = raiseOverrun c (c.leftSlots true u.smu) u := by
    rw [hu]
    simp only [advanceScan, State.onSmu_smu, ho, hn, if_true]
    rfl
  rw [hx, raiseOverrun, hslot, hn]
  exact if_congr hleft rfl rfl

end

/-! ### A regular measurement completes (R98, R107, R120) -/

theorem applyStaged_none {i : Fin 6} {s : State} (h : s.smu.staged[i] = none) : applyStaged i s = s := by
  simp only [applyStaged, h]

theorem applyStaged_some {i : Fin 6} {s : State} {f : Factors} (h : s.smu.staged[i] = some f) :
    applyStaged i s = { s with smu := { s.smu with active := s.smu.active.set i f, staged := s.smu.staged.set i none } } := by
  simp only [applyStaged, h]
  rfl

/-- The part with the staged set of a slot, if any, as its active set. -/
def appliedSet (i : Fin 6) (s : State) : State :=
  match s.smu.staged[i] with
  | some f => { s with smu := { s.smu with active := s.smu.active.set i f, staged := s.smu.staged.set i none } }
  | none => s

theorem applyStaged_eq (i : Fin 6) (s : State) : applyStaged i s = appliedSet i s := by
  cases h : s.smu.staged[i] with
  | none => simp only [applyStaged, appliedSet, h]
  | some f => simp only [applyStaged, appliedSet, h]; rfl

theorem applyStaged_smu_pointer (i : Fin 6) (s : State) : (applyStaged i s).smu.pointer = s.smu.pointer := by
  obtain ⟨a, st, h⟩ := applyStaged_smu i s
  rw [h]

theorem applyStaged_smu_faults (i : Fin 6) (s : State) : (applyStaged i s).smu.faults = s.smu.faults := by
  obtain ⟨a, st, h⟩ := applyStaged_smu i s
  rw [h]

theorem applyStaged_smu_enables (i : Fin 6) (s : State) : (applyStaged i s).smu.enables = s.smu.enables := by
  obtain ⟨a, st, h⟩ := applyStaged_smu i s
  rw [h]

theorem enteredShade_some (slot : Fin 6) (n : Nat) (rd : ShadeReading) (x : Bool) (s : State) :
    enteredShade slot (some n) rd x s = { s with tku := { s.tku with track := s.tku.track.map (fun r =>
      if r.number = n ∧ (r.shade.getD []).length < 6 then r.entered slot rd x else r) } } := by
  simp only [enteredShade, Option.some.injEq]

theorem entered_false (r : RepeatRecord) (slot : Fin 6) (rd : ShadeReading) :
    r.entered slot rd false = { r with shade := some (r.shade.getD [] ++ [⟨slot, rd⟩]) } := by
  simp [RepeatRecord.entered]

/-- The part as a regular measurement of record `n` has been entered, before the scan is looked at. -/
def enteredScan (b : Measurement) (n : Nat) (s : State) : State :=
  completeShade b (s.smu.judged b.slot false (s.smu.outcome b)) (some n) (dropBus s)

theorem enteredScan_same (b : Measurement) (n : Nat) (s : State) : SameMeasuring (dropBus s) (enteredScan b n s) :=
  completeShade_same ..

section
variable {b : Measurement} {e : Exchange} {s : State} {n pos : Nat} (hb : s.smu.bus = some b) (he : b.exchange = some e)
  (ht : 2 ^ b.k ≤ b.taken + 1) (hu : b.user = .scan n pos)
include hb he ht hu

theorem execFrameSlotEnd_scan : execFrameSlotEnd s =
    .next (applyStaged b.slot (advanceScan n pos (enteredScan (b.settle e) n s))) := by
  refine (execFrameSlotEnd_completes hb he ht (.inr fun c hc => ?_)).trans (congrArg _ ?_)
  · cases hu.symm.trans hc
  · simp only [completeMeasurement, settle_user, hu, completeScan, enteredScan, settle_slot]

end

section
variable {b : Measurement} {slot : Fin 6} {n : Nat} {s : State} (hs : b.slot = slot)

include hs

theorem enteredScan_invalid (hbad : b.bad = true) (h : s.smu.faults[slot] + 1 < 8) :
    enteredScan b n s = countedFault slot (s.smu.faults[slot] + 1)
      (enteredShade slot (some n) .invalid false (dropBus s)) := by
  subst hs
  rw [enteredScan, judged_invalid hbad]
  exact completeShade_invalid b (some n) (dropBus s) h

theorem enteredScan_failed (hbad : b.bad = true) (h : 8 ≤ s.smu.faults[slot] + 1) :
    enteredScan b n s = raise .headFailed slot.val n (countedFault slot 0 (enteredShade slot (some n) .invalid false
      { dropBus s with smu := { (dropBus s).smu with enables := s.smu.enables.set slot false } })) := by
  subst hs
  rw [enteredScan, judged_invalid hbad]
  exact completeShade_failed b (some n) (dropBus s) h

variable {k : Nat} (hk : b.k = k)
include hk

theorem enteredScan_ok (hbad : b.bad = false)
    (ho : s.smu.outside slot false (factorValues s.smu.active[slot] b.sums k) = false) :
    enteredScan b n s = countedFault slot 0 (enteredShade slot (some n)
      (.ok (factorValues s.smu.active[slot] b.sums k)) false (dropBus s)) := by
  subst hs hk
  rw [enteredScan, judged_good rfl rfl hbad, ho, if_neg (by decide), completeShade_ok]

theorem enteredScan_excursion (hbad : b.bad = false)
    (ho : s.smu.outside slot false (factorValues s.smu.active[slot] b.sums k) = true) :
    enteredScan b n s = countedFault slot 0 (enteredShade slot (some n)
      (.excursion (factorValues s.smu.active[slot] b.sums k)) true (raise .shadeGuard slot.val n (dropBus s))) := by
  subst hs hk
  rw [enteredScan, judged_good rfl rfl hbad, if_pos ho, completeShade_excursion]
  rfl

end

/-- Settles O39. -/
theorem measurementsGiveEntries : Obligations.MeasurementsGiveEntries := by
  refine ⟨⟨fun b e s hb he => ?_, fun s h => execFrameSlotEnd_idle h⟩, averageOf_zero, fun sum k hk => ?_, fun sum k h => ?_,
    fun a black gain => ?_, fun m slot isSpot v => ?_, fun f sums k => rfl⟩
  · intro applied
    have happ : ∀ i u, applyStaged i u = applied i u := applyStaged_eq
    obtain ⟨m, hm⟩ : ∃ m, m = b.settle e := ⟨_, rfl⟩
    have hslot : m.slot = b.slot := by rw [hm, settle_slot]
    have hk : m.k = b.k := by rw [hm, settle_k]
    have hscan : ∀ n pos, 2 ^ b.k ≤ b.taken + 1 → b.user = .scan n pos → exec .frameSlotEnd s =
        .next (applied b.slot (advanceScan n pos (enteredScan m n s))) := fun n pos ht hu => by
      rw [← happ, hm]
      exact execFrameSlotEnd_scan hb he ht hu
    refine ⟨m, fun v hv => hm.trans (Measurement.settle_of_good b e v hv), fun hv => hm.trans ?_, fun ht hs => ?_,
      fun c n pos ht hu hs hn ho => ?_, fun c n pos next slot v ht hu ho hn hbad hv hout hnext hl => ?_,
      fun n pos next ht hu hnext => ?_⟩
    · exact Measurement.settle_of_not_good b e fun v hg => by rcases hv with hv | hv <;> simp [hv] at hg
    · rw [hm]
      exact execFrameSlotEnd_goes_on hb he ht hs
    · have hx := hscan n pos ht hu
      have hsame := enteredScan_same m n s
      rw [advanceScan_goes_on (hsame.overrun.trans ho) (hsame.scan.trans hs) hn, ← happ] at hx
      refine ⟨_, s.smu.judged b.slot false (s.smu.outcome m), hx, ?_, fun h => ?_, fun f h => ?_, ?_, fun h => ?_,
        fun h1 h2 => ?_, fun hbad => ⟨judged_invalid hbad .., fun h => ?_, fun h => ?_⟩, fun v hv hbad => ⟨fun h => ?_, fun h => ⟨?_, ?_⟩⟩, ?_⟩
      · rw [applyStaged_smu_bus]
        exact hsame.bus
      · rw [applyStaged_none (by exact (congrArg (·[b.slot]) hsame.staged).trans h)]
        exact ⟨hsame.active, hsame.staged⟩
      · rw [applyStaged_some (by exact (congrArg (·[b.slot]) hsame.staged).trans h)]
        exact ⟨congrArg (·.set b.slot f) hsame.active, congrArg (·.set b.slot none) hsame.staged⟩
      · rw [applyStaged_smu_pointer]
        exact congrArg (fun p : ShadeParams => nextPosition p.scanList.length pos) hsame.params
      · rw [applyStaged_smu_scan]
        exact if_pos (by rw [hsame.params]; exact h)
      · rw [applyStaged_smu_scan]
        exact if_neg (by rw [hsame.params]; exact not_or.2 ⟨Nat.not_le.2 h1, Nat.not_le.2 h2⟩)
      · rw [applyStaged_smu_enables, applyStaged_smu_faults, enteredScan_invalid hslot hbad h]
        exact ⟨rfl, rfl⟩
      · rw [applyStaged_smu_enables, applyStaged_smu_faults, enteredScan_failed hslot hbad h]
        dsimp only
        rw [raise_smu_enables, raise_smu_faults]
        exact ⟨rfl, rfl⟩
      · subst hv
        exact (judged_good hslot hk hbad false).trans (if_pos h)
      · subst hv
        exact (judged_good hslot hk hbad false).trans (if_neg (ne_true_of_eq_false h))
      · subst hv
        rw [applyStaged_smu_faults, enteredScan_ok hslot hk hbad h]
        rfl
      · rw [applyStaged_tku]
        show (enteredScan m n s).tku = _
        rw [enteredScan, completeShade_tku, enteredShade_some, hslot]
        cases s.smu.judged b.slot false (s.smu.outcome m) <;> rfl
    · intro u
      have hpos : next = nextPosition s.smu.params.scanList.length pos := hnext
      have hx := hscan n pos ht hu
      have hsame := enteredScan_same m n s
      have hlen : (enteredScan m n s).smu.params = s.smu.params := hsame.params
      have hent : { enteredScan m n s with smu := { (enteredScan m n s).smu with pointer := next, overrun := none } } = u := by
        subst hv
        rw [enteredScan_ok hslot hk hbad hout, enteredShade_some]
        simp only [entered_false]
        rfl
      rw [advanceScan_overrun (slot := slot) (hsame.overrun.trans ho) hn (by rw [hlen, ← hpos]; exact hl) rfl, hlen,
        ← hpos, hent] at hx
      exact hx
    · intro free entered counted
      have hent : ∀ rd x u, enteredShade b.slot (some n) rd x u = entered rd x u := enteredShade_some b.slot n
      have hpos : next = nextPosition s.smu.params.scanList.length pos := hnext
      have hx := hscan n pos ht hu
      have hsame := enteredScan_same m n s
      have hlen : (enteredScan m n s).smu.params = s.smu.params := hsame.params
      refine ⟨enteredScan m n s, fun v hbad hv => ⟨fun ho => ?_, fun ho => ?_⟩, fun hbad => ⟨fun h => ?_, fun h => ?_⟩,
        fun c ho hs hn => ?_, fun c slot ho hn hl => ⟨_, rfl, ?_⟩, fun ho hs => ?_⟩
      · subst hv
        rw [enteredScan_ok hslot hk hbad ho, hent]
        rfl
      · subst hv
        rw [enteredScan_excursion hslot hk hbad ho, hent]
        rfl
      · rw [enteredScan_invalid hslot hbad h, hent]
        rfl
      · rw [enteredScan_failed hslot hbad h, hent]
        rfl
      · rw [advanceScan_goes_on (hsame.overrun.trans ho) (hsame.scan.trans hs) hn, hlen] at hx
        exact hnext ▸ hx
      · rw [advanceScan_overrun (slot := slot) (hsame.overrun.trans ho) hn (by rw [hlen, ← hpos]; exact hl) rfl, hlen,
          ← hpos] at hx
        exact hx
      · rw [advanceScan_alone (hsame.overrun.trans ho) (hsame.scan.trans hs), hlen] at hx
        exact hnext ▸ hx
  · obtain ⟨h1, h2⟩ := averageOf_roundsHalfUp sum k
    exact ⟨h2, h1⟩
  · exact (averageOf_roundsHalfUp sum k).le (Nat.two_pow_pos k) (by rwa [Nat.mul_comm])
  · simp only [calibrated, clampInt]
    split
    · omega
    · split <;> omega
  · cases isSpot <;> simp [Smu.outside, Guard.flags, and_assoc, or_assoc]

end Sys2Proof.Machine
end

section
/-! Spot work: SPOT, SPOT TRIGGER, SPOT STOP and SPOT READ, the end of a measured spot, and the result buffer
(R109 to R117). -/

namespace Sys2Proof.Machine

/-! ### The fields and the refusals of a SPOT (R109) -/

theorem SpotTarget.inRange_eq_true {t : SpotTarget} (h : ∀ n, t = .number n → 1 ≤ n ∧ n ≤ 4294967295) :
    t.inRange = true := by
  cases t with
  | immediate => rfl
  | next => rfl
  | number n => exact within_iff.2 (h n rfl)

theorem slotIndex_val (i : Fin 6) : slotIndex i.val = some i := slotIndex_eq_some.2 rfl

section
variable (tag : Byte) {i : Fin 6} {k g : Nat} {t : SpotTarget} {s : State} (hk : k ≤ 4) (hg : g ≤ 255)
  (ht : t.inRange = true)
include hk hg ht

theorem execSpot_refused {st : Status} (h : spotRefusal s = some st) (hne : st ≠ .full) :
    execSpot tag i.val k (some t) g s = .next (answer tag 0x2B#8 st [] s) := by
  simp only [execSpot, slotIndex_val, within_iff.2 ⟨Nat.zero_le _, hk⟩, within_iff.2 ⟨Nat.zero_le _, hg⟩, ht, h,
    Bool.not_true, Bool.or_self, Bool.false_eq_true, if_false]

theorem execSpot_full (h : spotRefusal s = some .full) :
    execSpot tag i.val k (some t) g s = .next (answer tag 0x2B#8 .full (le1 0) s) := by
  simp only [execSpot, slotIndex_val, within_iff.2 ⟨Nat.zero_le _, hk⟩, within_iff.2 ⟨Nat.zero_le _, hg⟩, ht, h,
    Bool.not_true, Bool.or_self, Bool.false_eq_true, if_false]

theorem execSpot_taken (h : spotRefusal s = none) : execSpot tag i.val k (some t) g s = .next (missIfPassed
    (spotContext i k t g) (joinSpot (spotContext i k t g) (answer tag 0x2B#8 .ok [] s))) := by
  simp only [execSpot, slotIndex_val, within_iff.2 ⟨Nat.zero_le _, hk⟩, within_iff.2 ⟨Nat.zero_le _, hg⟩, ht, h,
    Bool.not_true, Bool.or_self, Bool.false_eq_true, if_false]

end

section
variable (tag : Byte) {s : State}

theorem execSpot_badValue {i k g : Nat} {t : Coded SpotTarget}
    (h : 5 < i ∨ 4 < k ∨ 255 < g ∨ t = none ∨ t = some (.number 0)) :
    execSpot tag i k t g s = .next (answer tag 0x2B#8 .badValue [] s) := by
  refine congrArg Host.Outcome.next ?_
  split
  next _ _ j t hi =>
    have hji : j.val = i := slotIndex_eq_some.1 hi
    have hj := j.isLt
    refine if_pos ?_
    rcases h with h | h | h | h | h
    · omega
    · rw [within_eq_false (.inr h)]; rfl
    · rw [within_eq_false (.inr h)]; simp
    · cases h
    · cases h; simp [SpotTarget.inRange, within]
  next => rfl

theorem spotRefusal_wrongState (h : s.wtb.line = .idle ∨ s.wtb.line = .fault) : spotRefusal s = some .wrongState :=
  if_pos h

theorem spotRefusal_busy (hi : s.wtb.line ≠ .idle) (hf : s.wtb.line ≠ .fault) (h : s.smu.heldStops ≠ []) :
    spotRefusal s = some .busy := (if_neg (not_or.2 ⟨hi, hf⟩)).trans (if_pos h)

theorem spotRefusal_full (hi : s.wtb.line ≠ .idle) (hf : s.wtb.line ≠ .fault) (h : s.smu.heldStops = [])
    (hl : 4 ≤ s.smu.contexts.length) : spotRefusal s = some .full :=
  (if_neg (not_or.2 ⟨hi, hf⟩)).trans ((if_neg (not_not.2 h)).trans (if_pos hl))

theorem spotContext_eq (i : Fin 6) (k g : Nat) (t : SpotTarget) :
    spotContext i k t g = ⟨i, k, t, none, decide (t = .immediate), g, .link⟩ := by
  cases t <;> rfl

theorem missIfPassed_stands {c : SpotContext} (h : ∀ n, c.target = .number n → s.tku.passedShade n = false) :
    missIfPassed c s = s := by
  unfold missIfPassed
  split
  next n ht => exact if_neg (ne_true_of_eq_false (h n ht))
  next => rfl
  next => rfl

theorem missIfPassed_missed {c : SpotContext} {n : Nat} (ht : c.target = .number n) (h : s.tku.passedShade n = true) :
    missIfPassed c s = endSpot c .missed (s.onSmu (fun m => m.consume c m.contexts.dropLast)) := by
  simp only [missIfPassed, ht]
  exact if_pos h

/-! ### SPOT TRIGGER (R110) -/

theorem triggerAnswer_wrongState (h : s.wtb.line = .idle ∨ s.wtb.line = .fault) : triggerAnswer s = .wrongState :=
  if_pos h

section
variable (hi : s.wtb.line ≠ .idle) (hf : s.wtb.line ≠ .fault)
include hi hf

theorem triggerAnswer_busy (h : s.smu.heldStops ≠ []) : triggerAnswer s = .busy :=
  (if_neg (not_or.2 ⟨hi, hf⟩)).trans (if_pos h)

theorem triggerAnswer_eq_dropped (h : s.smu.heldStops = []) (hn : s.smu.newest = none) : triggerAnswer s = .dropped := by
  refine (if_neg (not_or.2 ⟨hi, hf⟩)).trans ((if_neg (not_not.2 h)).trans ?_)
  rw [hn]

theorem triggerAnswer_full {c : SpotContext} (h : s.smu.heldStops = []) (hn : s.smu.newest = some c)
    (hl : 4 ≤ s.smu.contexts.length) : triggerAnswer s = .full := by
  refine (if_neg (not_or.2 ⟨hi, hf⟩)).trans ((if_neg (not_not.2 h)).trans ?_)
  rw [hn]
  exact if_pos hl

end

theorem Smu.newest_of_pending {m : Smu} (h : 4 ≤ m.contexts.length) : ∃ c, m.newest = some c :=
  Option.isSome_iff_exists.1 (Smu.newest_isSome.2 (.inl fun hn => by simp [hn] at h))

end

/-! ### The result buffer (R116) -/

section
variable {r : SpotResult} {s : State}

theorem offerResult_room (h : s.smu.results.length < 4) : offerResult r s =
    raise .spotDone r.tag (r.number.getD 0) { s with smu := { s.smu with results := s.smu.results ++ [r] } } :=
  congrArg (raise .spotDone r.tag (r.number.getD 0)) (if_pos h)

theorem offerResult_overwrites {old : SpotResult} {rest : List SpotResult} (h : 4 ≤ s.smu.results.length)
    (ho : s.smu.params.overwrite = true) (hr : s.smu.results = old :: rest) : offerResult r s =
    raise .spotDone r.tag (r.number.getD 0) (raise .spotOverrun old.tag (old.number.getD 0)
      { s with smu := { s.smu with results := rest ++ [r] } }) := by
  refine congrArg (raise .spotDone r.tag (r.number.getD 0)) ((if_neg (Nat.not_lt.2 h)).trans ((if_pos ho).trans ?_))
  rw [hr]
  rfl

theorem offerResult_discards (h : 4 ≤ s.smu.results.length) (ho : s.smu.params.overwrite = false) : offerResult r s =
    raise .spotDone r.tag (r.number.getD 0) (raise .spotOverrun r.tag (r.number.getD 0) s) :=
  congrArg (raise .spotDone r.tag (r.number.getD 0))
    ((if_neg (Nat.not_lt.2 h)).trans (if_neg (ne_true_of_eq_false ho)))

theorem offerResult_heldStops : (offerResult r s).smu.heldStops = s.smu.heldStops :=
  offerResult_keeps (fun t => t.smu.heldStops = s.smu.heldStops) (fun _ _ _ _ h => (raise_smu_heldStops ..).trans h)
    (fun _ _ h => h) r s rfl

end

theorem applyStaged_smu_heldStops (i : Fin 6) (s : State) : (applyStaged i s).smu.heldStops = s.smu.heldStops := by
  obtain ⟨a, st, h⟩ := applyStaged_smu i s
  rw [h]

/-- The replies of an abandoned spot are those that were held before. -/
theorem abandonSpot_eq (c : SpotContext) {s w : State}
    (hw : w = applyStaged c.slot (offerResult (c.resultOf .abandoned) (dropBus s))) :
    abandonSpot c s = s.smu.heldStops.foldl (fun t h => pushReply (stopReply h) t)
      { w with smu := { w.smu with heldStops := [] } } := by
  have hh : w.smu.heldStops = s.smu.heldStops := by
    rw [hw, applyStaged_smu_heldStops, offerResult_heldStops]
    rfl
  rw [← hh, hw]
  rfl

/-! ### A spot's last sample (R114) -/

section
variable {b : Measurement} {e : Exchange} {c : SpotContext} {s : State} (hb : s.smu.bus = some b)
  (he : b.exchange = some e) (hu : b.user = .spot c) (ht : 2 ^ b.k ≤ b.taken + 1) (hh : s.smu.heldStops = [])
include hb he hu ht hh

theorem execFrameSlotEnd_spot {rd : ShadeReading}
    (hrd : s.smu.judged b.slot true (s.smu.outcome (b.settle e)) = rd) : execFrameSlotEnd s = .next
      (applyStaged b.slot (offerResult (c.completed rd) (completeShade (b.settle e) rd c.serves (dropBus s)))) := by
  refine (execFrameSlotEnd_completes hb he ht (.inl hh)).trans (congrArg _ ?_)
  subst hrd
  simp only [completeMeasurement, settle_user, hu, completeSpot, settle_slot]

end

/-- Settles O40. -/
theorem spotsJoinAndEnd : Obligations.SpotsJoinAndEnd := by
  refine ⟨⟨fun tag i k g t s hk hg ht => ?_, fun tag i k g t s h => execSpot_badValue tag h, fun tag s => ?_⟩,
    ⟨fun r s => ⟨offerResult_room, fun old rest => offerResult_overwrites, offerResult_discards⟩, fun tag s => ?_,
      fun tag n s => ?_⟩, fun b m e c s hb he hu hg hbad => ?_⟩
  · have hr := SpotTarget.inRange_eq_true ht
    refine ⟨fun h => execSpot_refused tag hk hg hr (spotRefusal_wrongState h) (by decide), fun hi hf => ⟨fun h =>
      execSpot_refused tag hk hg hr (spotRefusal_busy hi hf h) (by decide), fun h hl =>
      execSpot_full tag hk hg hr (spotRefusal_full hi hf h hl), fun h hl hp => ?_, fun n h hl htn hp => ?_⟩⟩
    · refine (execSpot_taken tag hk hg hr (spotRefusal_eq_none.2 ⟨hi, hf, h, hl⟩)).trans (congrArg _ ?_)
      refine (missIfPassed_stands fun n hn => ?_).trans ?_
      · rw [joinSpot_tku, answer_tku]
        exact hp n hn
      · rw [spotContext_eq, joinSpot, State.onSmu, answer_smu]
    · refine (execSpot_taken tag hk hg hr (spotRefusal_eq_none.2 ⟨hi, hf, h, hl⟩)).trans (congrArg _ ?_)
      subst htn
      refine (missIfPassed_missed (n := n) rfl (by rw [joinSpot_tku, answer_tku]; exact hp)).trans ?_
      refine congrArg (offerResult _) ?_
      simp [joinSpot, State.onSmu, Smu.consume, spotContext_eq]
  · refine ⟨fun h => ?_, fun hi hf => ⟨fun h => ?_, fun h hc hn => ?_, fun h hl => ?_, fun c h hl hc => ?_⟩⟩
    · refine congrArg Host.Outcome.next ?_
      rw [triggerAnswer_wrongState h]
    · refine congrArg Host.Outcome.next ?_
      rw [triggerAnswer_busy hi hf h]
    · have ha := triggerAnswer_eq_dropped hi hf h ((Smu.newest_of_nil hc).trans hn)
      refine congrArg Host.Outcome.next ?_
      rw [ha, spotTrigger_dropped ha]
      rfl
    · obtain ⟨c, hc⟩ := Smu.newest_of_pending hl
      refine congrArg Host.Outcome.next ?_
      rw [triggerAnswer_full hi hf h hc hl]
    · have hn := Smu.newest_eq_some hc
      have ha := triggerAnswer_eq_queued.2 ⟨hi, hf, h, hl, Option.isSome_iff_exists.2 ⟨c, hn⟩⟩
      refine congrArg Host.Outcome.next ?_
      rw [ha, spotTrigger_queued ha hn, SpotContext.copyFor_eq]
      rfl
  · refine ⟨fun h => ?_, fun h => ?_⟩
    · refine congrArg Host.Outcome.next ?_
      rw [h]
      rfl
    · obtain ⟨c, hc⟩ := Option.isSome_iff_exists.1 h
      refine congrArg Host.Outcome.next ?_
      rw [hc]
      rfl
  · refine ⟨fun h1 h4 => ?_, fun h => ?_⟩
    · refine congrArg Host.Outcome.next ((if_neg (by simp [within, h1, h4])).trans ?_)
      dsimp only
      rw [List.length_take]
      rfl
    · exact congrArg Host.Outcome.next (if_pos (by rw [within_eq_false (by omega)]; rfl))
  · intro applied number free entered counted
    have happ : ∀ i u, applyStaged i u = applied i u := applyStaged_eq
    have hm : b.settle e = m := settle_eq hg hbad
    have hnum : c.serves = number := rfl
    have hslot : m.slot = b.slot := by rw [← hm, settle_slot]
    have hk : m.k = b.k := by rw [← hm, settle_k]
    have hcs : ∀ rd, completeShade m rd c.serves (dropBus s) = completeShade b rd c.serves (dropBus s) := fun rd => by
      simp only [completeShade, hslot]
    have hx := fun ht hh rd => execFrameSlotEnd_spot (rd := rd) hb he hu ht hh
    simp only [hm, hcs, happ] at hx
    refine ⟨fun ht hh => ⟨fun v hgood hv => ?_, fun hb => ?_⟩, fun hh => ?_⟩
    · subst hv
      have hj := judged_good (m := s.smu) hslot hk hgood true
      refine ⟨fun ho => ?_, fun ho => ?_⟩
      · rw [if_neg (ne_true_of_eq_false ho)] at hj
        refine (hx ht hh _ hj).trans (congrArg _ ?_)
        rw [completeShade_ok]
        rfl
      · rw [if_pos ho] at hj
        refine (hx ht hh _ hj).trans (congrArg _ ?_)
        rw [completeShade_excursion]
        rfl
    · have hj := judged_invalid (m := s.smu) hb b.slot true
      refine ⟨fun hf => ?_, fun hf => ?_⟩
      · refine (hx ht hh _ hj).trans (congrArg _ ?_)
        rw [completeShade_invalid b c.serves (dropBus s) hf]
        rfl
      · refine (hx ht hh _ hj).trans (congrArg _ ?_)
        rw [completeShade_failed b c.serves (dropBus s) hf]
        rfl
    · refine ⟨_, rfl, (execFrameSlotEnd_stopped hb he hu hh).trans (congrArg _ ?_)⟩
      exact abandonSpot_eq c (happ ..).symm

end Sys2Proof.Machine
end

section
/-! The head calibration: CAL READ and CAL WRITE, CALIBRATE and its run, and the heads-parked input (R101, R115,
R120 to R124). -/

namespace Sys2Proof.Machine

/-! ### CAL READ and CAL WRITE (R120, R121) -/

theorem length_factorBytes (f : Factors) : (factorBytes f).length = 12 := by simp [factorBytes]

theorem optional_factorBytes (f : Factors) : optional 12 (some (factorBytes f)) = 0x01#8 :: factorBytes f := by
  simp [optional, length_factorBytes, le1]

theorem slotIndex_eq_none {i : Nat} (h : 5 < i) : slotIndex i = none := dif_neg (by omega)

section
variable (tag : Byte) (i : Fin 6) {f : Factors} {s : State}

theorem execCalRead_slot : execCalRead tag i.val s = .next (answer tag 0x30#8 .ok
    (factorBytes s.smu.active[i] ++ optional 12 (s.smu.staged[i].map factorBytes)) s) := by
  simp only [execCalRead, slotIndex_val]

theorem execCalWrite_applied (hf : f.inRange = true) (hb : ∀ b, s.smu.bus = some b → b.slot ≠ i) :
    execCalWrite tag i.val f s = .next (answer tag 0x2F#8 .ok (le1 0) { s with smu := { s.smu with
      active := s.smu.active.set i f, staged := s.smu.staged.set i none } }) := by
  have hbusy : s.smu.busyWith i = false := by
    cases h : s.smu.bus with
    | none => simp [Smu.busyWith, h]
    | some b => simp [Smu.busyWith, h, hb b h]
  simp only [execCalWrite, slotIndex_val, hf, hbusy, Bool.not_true, Bool.false_eq_true, if_false]
  rfl

theorem execCalWrite_staged {b : Measurement} (hf : f.inRange = true) (hb : s.smu.bus = some b) (hi : b.slot = i) :
    execCalWrite tag i.val f s = .next (answer tag 0x2F#8 .ok (le1 1) { s with smu := { s.smu with
      staged := s.smu.staged.set i (some f) } }) := by
  have hbusy : s.smu.busyWith i = true := by simp [Smu.busyWith, hb, hi]
  simp only [execCalWrite, slotIndex_val, hf, hbusy, Bool.not_true, Bool.false_eq_true, if_false, if_true]
  rfl

end

theorem execCalWrite_badValue (tag : Byte) {i : Nat} {f : Factors} {s : State} (h : 5 < i ∨ f.inRange = false) :
    execCalWrite tag i f s = .next (answer tag 0x2F#8 .badValue [] s) := by
  refine congrArg Host.Outcome.next ?_
  split
  · rfl
  next hi =>
    rcases h with h | h
    · rw [slotIndex_eq_none h] at hi
      cases hi
    · exact if_pos (by rw [h]; rfl)

/-! ### The gain of a channel (R123) -/

theorem calibrationGain_none {white sum black : Nat} (h : (sum + 8) / 16 ≤ black) :
    calibrationGain white sum black = none :=
  if_pos (by omega)

theorem calibrationGain_some {white sum black d : Nat} (hd : d + black = (sum + 8) / 16) (h : 0 < d) :
    calibrationGain white sum black = some (max 8192 (min 65535 ((2 * white * 32768 + d) / (2 * d)))) := by
  have hi : (((sum + 8) / 16 : Nat) : Int) - black = (d : Int) := by omega
  have hq : (2 * (white : Int) * 32768 + d) / (2 * d) = (((2 * white * 32768 + d) / (2 * d) : Nat) : Int) := by
    push_cast
    rfl
  simp only [calibrationGain, hi, hq]
  rw [if_neg (by omega)]
  generalize (2 * white * 32768 + d) / (2 * d) = q
  refine congrArg some ?_
  simp only [clampInt]
  split
  · omega
  · split <;> omega

/-- Every channel's gain makes the active set of the slot. -/
theorem calibrateFactors_some {f : Factors} {white r g l : Nat} {b : Measurement} (hb : b.bad = false)
    (hr : calibrationGain white b.sums.r f.blackR = some r) (hg : calibrationGain white b.sums.g f.blackG = some g)
    (hl : calibrationGain white b.sums.b f.blackB = some l) :
    calibrateFactors f white b = some { f with gainR := r, gainG := g, gainB := l } := by
  simp [calibrateFactors, hb, hr, hg, hl]

theorem calibrateFactors_none {f : Factors} {white : Nat} {b : Measurement}
    (h : b.bad = true ∨ calibrationGain white b.sums.r f.blackR = none ∨
      calibrationGain white b.sums.g f.blackG = none ∨ calibrationGain white b.sums.b f.blackB = none) :
    calibrateFactors f white b = none := by
  unfold calibrateFactors
  split
  · rfl
  next hb =>
    rcases h with h | h | h | h
    · exact absurd h hb
    · simp [h]
    · cases hr : calibrationGain white b.sums.r f.blackR <;> simp [h]
    · cases hr : calibrationGain white b.sums.r f.blackR <;> cases hg : calibrationGain white b.sums.g f.blackG <;>
        simp [h]

/-! ### A slot of the run is done (R123) -/

/-- The calibration run written. -/
def withRun (r : Option CalRun) (s : State) : State := { s with smu := { s.smu with calRun := r } }

theorem applyStaged_withRun (i : Fin 6) (r : Option CalRun) (s : State) :
    withRun r (applyStaged i s) = applyStaged i (withRun r s) := by
  cases h : s.smu.staged[i] with
  | none => rw [applyStaged_none h, applyStaged_none (s := withRun r s) h]
  | some f => rw [applyStaged_some h, applyStaged_some (s := withRun r s) h]; rfl

section
variable {c : CalRun} {i : Fin 6} {s : State}

theorem nextCalibration_goes_on (h : c.todo ≠ []) :
    nextCalibration c (applyStaged i s) = applyStaged i (withRun (some c) s) := by
  unfold nextCalibration
  split
  next hn => exact absurd hn h
  next => exact applyStaged_withRun i (some c) s

theorem nextCalibration_ends (h : c.todo = []) : nextCalibration c (applyStaged i s) =
    raise .calDone (slotMask c.passed) (slotMask c.requested) (applyStaged i (withRun none s)) := by
  unfold nextCalibration
  split
  next => exact congrArg _ (applyStaged_withRun i none s)
  next hn => exact absurd (hn.symm.trans h) (by simp)

end

/-- The regular scans of the part ended. -/
def withoutScans (s : State) : State := { s with smu := { s.smu with scan := none, overrun := none } }

theorem applyStaged_withoutScans (i : Fin 6) (s : State) :
    withoutScans (applyStaged i s) = applyStaged i (withoutScans s) := by
  cases h : s.smu.staged[i] with
  | none => rw [applyStaged_none h, applyStaged_none (s := withoutScans s) h]
  | some f => rw [applyStaged_some h, applyStaged_some (s := withoutScans s) h]; rfl

section
variable {s : State}

theorem abandonScans_free (h : s.smu.bus = none) : abandonScans s = withoutScans s := by
  have hd : dropScanMeasurement s = s := by simp only [dropScanMeasurement, h]
  exact congrArg withoutScans hd

theorem abandonScans_measuring {b : Measurement} {n pos : Nat} (h : s.smu.bus = some b) (hu : b.user = .scan n pos) :
    abandonScans s = applyStaged b.slot (withoutScans (dropBus s)) := by
  have hd : dropScanMeasurement s = applyStaged b.slot (dropBus s) := by simp only [dropScanMeasurement, h, hu]
  exact (congrArg withoutScans hd).trans (applyStaged_withoutScans ..)

theorem abandonScans_beside {b : Measurement} (h : s.smu.bus = some b) (hu : ∀ n pos, b.user ≠ .scan n pos) :
    abandonScans s = withoutScans s := by
  have hd : dropScanMeasurement s = s := by
    unfold dropScanMeasurement
    rw [h]
    split
    next b' hb =>
      obtain rfl : b = b' := Option.some.inj hb
      split
      next hs => exact absurd hs (hu _ _)
      all_goals rfl
    next => rfl
  exact congrArg withoutScans hd

end

section
variable {b : Measurement} {c : CalRun} {s : State} {slot : Fin 6} (hs : b.slot = slot) (hc : s.smu.calRun = some c)
include hs hc

theorem completeCalibration_passes {f : Factors} (hf : calibrateFactors s.smu.active[slot] c.white b = some f) :
    completeCalibration b s = nextCalibration { c with todo := c.todo.tail, passed := c.passed ++ [slot] }
      (applyStaged slot { s with smu := { s.smu with bus := none, active := s.smu.active.set slot f } }) := by
  subst hs
  have hf' : calibrateFactors (dropBus s).smu.active[b.slot] c.white b = some f := hf
  unfold completeCalibration
  rw [hc]
  simp only [hf']
  rfl

theorem completeCalibration_fails (hf : calibrateFactors s.smu.active[slot] c.white b = none) :
    completeCalibration b s = nextCalibration { c with todo := c.todo.tail } (applyStaged slot (dropBus s)) := by
  subst hs
  have hf' : calibrateFactors (dropBus s).smu.active[b.slot] c.white b = none := hf
  simp only [completeCalibration, hc, hf']

end

theorem execFrameSlotEnd_calibrates {b : Measurement} {e : Exchange} {s : State} (hb : s.smu.bus = some b)
    (hu : b.user = .cal) (hk : b.k = 4) (ht : b.taken = 15) (he : b.exchange = some e) :
    execFrameSlotEnd s = .next (completeCalibration (b.settle e) s) := by
  refine (execFrameSlotEnd_completes hb he (by rw [hk, ht]; decide) (.inr fun c hc => ?_)).trans (congrArg _ ?_)
  · cases hu.symm.trans hc
  · simp only [completeMeasurement, settle_user, hu]

/-- Settles O42. -/
theorem calibrationRunsAndParking : Obligations.CalibrationRunsAndParking := by
  refine ⟨⟨fun tag i s => ⟨fun h => ?_, fun f h => ?_⟩, fun tag i s h => ?_, fun tag i f s hf =>
    ⟨execCalWrite_applied tag i hf, fun b => execCalWrite_staged tag i hf⟩, fun tag i f s => execCalWrite_badValue tag⟩,
    ⟨fun tag mask s => ?_, fun white sum black => ⟨calibrationGain_none, fun h => ?_⟩, ?_, ?_, fun s => ?_⟩, fun s => ?_⟩
  · refine (execCalRead_slot tag i).trans ?_
    rw [h]
    rfl
  · refine (execCalRead_slot tag i).trans ?_
    rw [h, Option.map_some, optional_factorBytes]
    rfl
  · refine congrArg Host.Outcome.next ?_
    rw [slotIndex_eq_none h]
  · intro slots
    refine ⟨fun h => congrArg Host.Outcome.next (if_pos h), fun h hl => congrArg Host.Outcome.next ((if_neg h).trans (if_pos hl)),
      fun h hr hf => ?_⟩
    have hl : ¬ (s.wtb.line = .run ∨ s.wtb.line = .fault) := not_or.2 ⟨hr, hf⟩
    refine ⟨fun hc => ?_, fun hc hp => ?_, fun hc hp => ?_⟩
    · exact congrArg Host.Outcome.next ((if_neg h).trans ((if_neg hl).trans (if_pos hc)))
    · exact congrArg Host.Outcome.next ((if_neg h).trans ((if_neg hl).trans ((if_neg (by simp [hc])).trans
        (if_pos (by simp [hp])))))
    · exact congrArg Host.Outcome.next ((if_neg h).trans ((if_neg hl).trans ((if_neg (by simp [hc])).trans
        (if_neg (by simp [hp])))))
  · exact ⟨(sum + 8) / 16 - black, by omega, calibrationGain_some (by omega) (by omega)⟩
  · intro b x sent v c rest r g bl s hb hu hk ht he hc htodo hr hg hbl applied
    have happ : ∀ i u, applyStaged i u = applied i u := applyStaged_eq
    have hx := execFrameSlotEnd_calibrates hb hu hk ht he
    have hm := Measurement.settle_of_good b ⟨x, sent, some (.good v)⟩ v rfl
    rw [hm] at hx
    have hf : b.bad = false → _ := fun hbad => completeCalibration_passes
      (b := { b with exchange := none, taken := b.taken + 1, sums := ⟨b.sums.r + v.r, b.sums.g + v.g, b.sums.b + v.b⟩ })
      rfl hc (calibrateFactors_some hbad hr hg hbl)
    refine ⟨fun hbad hrest => ?_, fun hbad hrest => ?_⟩
    · refine hx.trans (congrArg _ ((hf hbad).trans ?_))
      rw [nextCalibration_goes_on (by rw [htodo]; exact hrest), happ, htodo]
      rfl
    · refine hx.trans (congrArg _ ((hf hbad).trans ?_))
      rw [nextCalibration_ends (by rw [htodo]; exact hrest), happ]
      rfl
  · intro b x sent ans c rest s hb hu hk ht he hc htodo hfail applied
    have happ : ∀ i u, applyStaged i u = applied i u := applyStaged_eq
    have hx := execFrameSlotEnd_calibrates hb hu hk ht he
    have hf : completeCalibration (b.settle ⟨x, sent, ans⟩) s = _ := completeCalibration_fails (settle_slot ..) hc
      (calibrateFactors_none ?_)
    · refine ⟨fun hrest => ?_, fun hrest => ?_⟩
      · refine hx.trans (congrArg _ (hf.trans ?_))
        rw [nextCalibration_goes_on (by rw [htodo]; exact hrest), happ, htodo]
        rfl
      · refine hx.trans (congrArg _ (hf.trans ?_))
        rw [nextCalibration_ends (by rw [htodo]; exact hrest), happ]
        rfl
    · rcases hfail with h | h | h | ⟨v, h, hg⟩
      · left
        unfold Measurement.settle
        split <;> first | exact h | rfl
      · subst h; exact .inl rfl
      · subst h; exact .inl rfl
      · subst h; exact .inr hg
  · intro applied out
    have happ : ∀ i u, applyStaged i u = applied i u := applyStaged_eq
    refine ⟨fun h => ?_, fun c h hb => ?_, fun c b h hb hu => ?_⟩
    · exact congrArg Host.Outcome.next (endCalibrationEarly_none h)
    · refine congrArg Host.Outcome.next ?_
      simp [endCalibrationEarly, State.onPins, State.onSmu, h, hb]
      rfl
    · refine congrArg Host.Outcome.next ?_
      rw [← happ]
      simp [endCalibrationEarly, State.onPins, State.onSmu, h, hb, hu]
      rfl
  · intro applied parked
    have happ : ∀ i u, applyStaged i u = applied i u := applyStaged_eq
    refine ⟨fun h => ?_, fun b n pos h hu => ?_, fun b h hu => ?_, fun b c h hu => ⟨_, rfl, ?_⟩⟩
    · refine congrArg Host.Outcome.next ((congrArg _ (abandonScans_free (s := parked) h)).trans ?_)
      exact abandonSpotIf_none (Smu.spotInProgress_of_free h)
    · refine congrArg Host.Outcome.next ((congrArg _ (abandonScans_measuring (s := parked) h hu)).trans ?_)
      rw [abandonSpotIf_none (Smu.spotInProgress_of_free (by rw [applyStaged_smu_bus]; rfl)), happ]
      rfl
    · refine congrArg Host.Outcome.next ((congrArg _ (abandonScans_beside (s := parked) h (by simp [hu]))).trans ?_)
      exact abandonSpotIf_none (by simp [Smu.spotInProgress, withoutScans, parked, h, hu])
    · refine congrArg Host.Outcome.next ((congrArg _ (abandonScans_beside (s := parked) h (by simp [hu]))).trans ?_)
      refine (abandonSpotIf_some (c := c) (by simp [Smu.spotInProgress, withoutScans, parked, h, hu]) rfl).trans ?_
      exact abandonSpot_eq c (happ ..).symm

end Sys2Proof.Machine
end

section
/-! The exchanges of the head bus: which measurement a frame slot begins, and what an answer says (R90, R91, R97,
R113). -/

namespace Sys2Proof.Machine

/-! ### A measurement begins (R90) -/

theorem sampleByte_eq (slot : Fin 6) (seq : Bool) :
    sampleByte slot seq = BitVec.ofNat 8 (slot.val + (if seq = true then 128 else 0)) := by
  revert slot seq
  decide

/-! ### The choice of a regular scan (R97) -/

theorem mod_succ_add (len q i : Nat) : ((q + 1) % len + i) % len = (q + (i + 1)) % len := by
  rw [Nat.mod_add_mod, Nat.add_assoc, Nat.add_comm 1 i]

theorem nextPosition_succ {len q : Nat} (hq : q < len) : nextPosition len (q + 1) = (q + 1) % len + 1 := by
  unfold nextPosition
  split
  next h => rw [Nat.mod_eq_of_lt h]
  next h =>
    obtain rfl : q + 1 = len := by omega
    rw [Nat.mod_self]

theorem chooseSlot_over {m : Smu} {fuel p visited : Nat} (h : m.params.scanList.length ≤ visited) :
    chooseSlot m fuel p visited = none := by
  cases fuel with
  | zero => rfl
  | succ fuel => exact if_pos h

theorem chooseSlot_takes {m : Smu} {fuel p visited : Nat} {slot : Fin 6} (hv : visited < m.params.scanList.length)
    (h : m.params.scanList[p - 1]? = some slot) (he : m.enables[slot] = true) :
    chooseSlot m (fuel + 1) p visited = some (slot, p, visited + 1) := by
  refine (if_neg (Nat.not_le.2 hv)).trans ?_
  rw [h]
  exact if_pos he

section
variable {m : Smu} {len : Nat} (hlen : len = m.params.scanList.length)

include hlen

theorem chooseSlot_skips {fuel q visited : Nat} {slot : Fin 6} (hv : visited < len) (hq : q < len)
    (h : m.params.scanList[q]? = some slot) (he : m.enables[slot] = false) :
    chooseSlot m (fuel + 1) (q + 1) visited = chooseSlot m fuel ((q + 1) % len + 1) (visited + 1) := by
  subst hlen
  refine (if_neg (Nat.not_le.2 hv)).trans ?_
  rw [Nat.add_sub_cancel, h]
  refine (if_neg (ne_true_of_eq_false he)).trans ?_
  rw [nextPosition_succ hq]

/-- The slot at position `q`, which is one of the list. -/
theorem scanList_getElem?_some {q : Nat} (hq : q < len) : ∃ slot, m.params.scanList[q]? = some slot := by
  subst hlen
  exact ⟨_, List.getElem?_eq_getElem hq⟩

/-- The first enabled slot from a position on is chosen. -/
theorem chooseSlot_first (j : Nat) {fuel q visited : Nat} {slot : Fin 6} (hf : j < fuel) (hq : q < len)
    (hv : visited + j < len) (h : m.params.scanList[(q + j) % len]? = some slot) (he : m.enables[slot] = true)
    (hbefore : ∀ i < j, ∀ x, m.params.scanList[(q + i) % len]? = some x → m.enables[x] = false) :
    chooseSlot m fuel (q + 1) visited = some (slot, (q + j) % len + 1, visited + j + 1) := by
  induction j generalizing fuel q visited with
  | zero =>
    obtain ⟨fuel, rfl⟩ : ∃ n, fuel = n + 1 := ⟨fuel - 1, by omega⟩
    simp only [Nat.add_zero, Nat.mod_eq_of_lt hq] at h ⊢
    exact chooseSlot_takes (by omega) h he
  | succ j ih =>
    obtain ⟨fuel, rfl⟩ : ∃ n, fuel = n + 1 := ⟨fuel - 1, by omega⟩
    obtain ⟨x, hx⟩ := scanList_getElem?_some hlen hq
    have hoff := hbefore 0 (Nat.succ_pos j) x (by rwa [Nat.add_zero, Nat.mod_eq_of_lt hq])
    have hnext := ih (fuel := fuel) (q := (q + 1) % len) (visited := visited + 1) (by omega) (Nat.mod_lt _ (by omega))
      (by omega) (by rwa [mod_succ_add]) he fun i hi y hy => hbefore (i + 1) (by omega) y (by rwa [← mod_succ_add])
    rw [chooseSlot_skips hlen (by omega) hq hx hoff, hnext, mod_succ_add, Nat.add_assoc visited 1 j, Nat.add_comm 1 j]

/-- With only disabled slots left nothing is chosen. -/
theorem chooseSlot_none {fuel q visited : Nat} (hq : q < len)
    (h : ∀ i x, visited + i < len → m.params.scanList[(q + i) % len]? = some x → m.enables[x] = false) :
    chooseSlot m fuel (q + 1) visited = none := by
  induction fuel generalizing q visited with
  | zero => rfl
  | succ fuel ih =>
    by_cases hv : visited < len
    · obtain ⟨x, hx⟩ := scanList_getElem?_some hlen hq
      have hoff := h 0 x hv (by rwa [Nat.add_zero, Nat.mod_eq_of_lt hq])
      rw [chooseSlot_skips hlen hv hq hx hoff]
      refine ih (Nat.mod_lt _ (by omega)) fun i y hi hy => h (i + 1) y (by omega) ?_
      rwa [← mod_succ_add]
    · exact chooseSlot_over (by omega)

end

/-! ### The scan's turn -/

section
variable {s : State} {c : Scan}

theorem scanTurn_none (h : s.smu.scan = none) : scanTurn s = s := by
  simp only [scanTurn, h]

theorem scanTurn_ends (h : s.smu.scan = some c) (hc : c.nscan ≤ c.completed ∨
    chooseSlot s.smu s.smu.params.scanList.length s.smu.pointer c.visited = none) :
    scanTurn s = { s with smu := { s.smu with scan := none } } := by
  unfold scanTurn
  rw [h]
  dsimp only
  split
  · rfl
  next hn =>
    rw [hc.resolve_left hn]
    rfl

theorem scanTurn_begins {slot : Fin 6} {p visited : Nat} (h : s.smu.scan = some c) (hc : c.completed < c.nscan)
    (hs : chooseSlot s.smu s.smu.params.scanList.length s.smu.pointer c.visited = some (slot, p, visited)) :
    scanTurn s = beginMeasurement slot c.kreg (.scan c.record p)
      { s with smu := { s.smu with scan := some { c with visited := visited } } } := by
  unfold scanTurn
  rw [h]
  dsimp only
  rw [if_neg (Nat.not_le.2 hc), hs]
  rfl

end

/-! ### The arbiter (R113) -/

theorem takeFirst_of_split {p : SpotContext → Bool} {before after : List SpotContext} {c : SpotContext}
    (hb : ∀ x ∈ before, p x = false) (hc : p c = true) :
    takeFirst p (before ++ c :: after) = some (c, before ++ after) := by
  induction before with
  | nil => exact if_pos hc
  | cons x xs ih =>
    have hx : p x = false := hb x List.mem_cons_self
    simp [takeFirst, hx, ih fun y hy => hb y (List.mem_cons_of_mem x hy)]

section
variable {s : State}

theorem State.spotsMayBegin_iff :
    s.spotsMayBegin = true ↔ s.parked = false ∧ s.wtb.line ≠ .idle ∧ s.wtb.line ≠ .fault := by
  simp [State.spotsMayBegin, and_assoc]

/-- With no spot that may begin, the frame slot is the scan's. -/
theorem spotTurn_none {fuel : Nat} (h : s.spotsMayBegin = false ∨ ∀ x ∈ s.smu.contexts, x.due = false) :
    spotTurn (fuel + 1) s = scanTurn s := by
  rcases h with h | h
  · exact if_neg (ne_true_of_eq_false h)
  · have ht : takeFirst (fun c => c.due) s.smu.contexts = none :=
      takeFirst_none.2 (List.filter_eq_nil_iff.2 fun x hx => ne_true_of_eq_false (h x hx))
    by_cases hm : s.spotsMayBegin = true
    · refine (if_pos hm).trans ?_
      rw [ht]
    · exact if_neg hm

theorem spotTurn_some {fuel : Nat} {before after : List SpotContext} {c : SpotContext} (hm : s.spotsMayBegin = true)
    (hs : s.smu.contexts = before ++ c :: after) (hb : ∀ x ∈ before, x.due = false) (hd : c.due = true) {t : State}
    (ht : t = { s with smu := s.smu.consume c (before ++ after) }) : spotTurn (fuel + 1) s =
      if t.smu.enables[c.slot] then beginMeasurement c.slot c.k (.spot c) t
      else spotTurn fuel (endSpot c .invalid t) := by
  subst ht
  refine (if_pos hm).trans ?_
  rw [hs, takeFirst_of_split hb hd]
  rfl

theorem arbitrate_of_no_run (h : s.smu.calRun = none) : arbitrate s = spotTurn s.looks s := by
  simp only [arbitrate, h, Option.bind_none]

theorem arbitrate_of_run {c : CalRun} {slot : Fin 6} {rest : List (Fin 6)} (h : s.smu.calRun = some c)
    (ht : c.todo = slot :: rest) : arbitrate s = beginMeasurement slot 4 .cal s := by
  simp only [arbitrate, h, Option.bind_some, ht, List.head?_cons]

theorem execFrameSlotStart_free (h : s.smu.bus = none) : execFrameSlotStart s = .next (arbitrate s) := by
  simp only [execFrameSlotStart, h]

theorem offerResult_smu_scan (r : SpotResult) (s : State) : (offerResult r s).smu.scan = s.smu.scan :=
  offerResult_keeps (fun t => t.smu.scan = s.smu.scan) (fun _ _ _ _ h => (raise_smu_scan ..).trans h)
    (fun _ _ h => h) r s rfl

end

/-! ### Answers (R91) -/

section
variable {b : Measurement} {sample : Byte} {sent frame : List Byte} {s : State} (hb : s.smu.bus = some b)
include hb

theorem execHeadAnswer_judged (he : b.exchange = some ⟨sample, sent, none⟩) : execHeadAnswer frame s =
    .next { s with smu := { s.smu with
      bus := some { b with exchange := some ⟨sample, sent, some (judgeAnswer sample frame)⟩ } } } := by
  simp only [execHeadAnswer, hb, he]
  rfl

theorem execHeadAnswer_discarded (he : b.exchange = none ∨ ∃ a, b.exchange = some ⟨sample, sent, some a⟩) :
    execHeadAnswer frame s = .next s := by
  rcases he with he | ⟨a, he⟩ <;> simp only [execHeadAnswer, hb, he]

end

theorem field_cons_skip (b : Byte) (rest : List Byte) (n k : Nat) : field (b :: rest) (n + 1) k = field rest n k := rfl

theorem judgeAnswer_values (sample echo lamp : Byte) {r g bl : Nat} (hr : r < 4096) (hg : g < 4096) (hbl : bl < 4096) :
    judgeAnswer sample (linkFrame 0x81#8 (echo :: (le2 r ++ le2 g ++ le2 bl ++ [lamp]))) =
      if echo = sample ∧ lamp = 0 then .good ⟨r, g, bl⟩ else .bad := by
  have hlen : (echo :: (le2 r ++ le2 g ++ le2 bl ++ [lamp])).length = 8 := by simp
  have hl : field [lamp] 0 1 = 0 ↔ lamp = 0 := by
    rw [← BitVec.toNat_inj]
    simp [field, ofLe]
  have hp := parseLink_linkFrame 0x81#8 (body := echo :: (le2 r ++ le2 g ++ le2 bl ++ [lamp])) (by rw [hlen]; decide)
  have hvalues : ∀ n k, field (echo :: (le2 r ++ le2 g ++ le2 bl ++ [lamp])) (n + 1) k =
      field (le2 r ++ (le2 g ++ (le2 bl ++ [lamp]))) n k := fun n k => by
    rw [field_cons_skip, List.append_assoc, List.append_assoc]
  have h65536 : r % 65536 % 4096 = r ∧ g % 65536 % 4096 = g ∧ bl % 65536 % 4096 = bl := by omega
  simp only [judgeAnswer, hp, hlen, rawValue, hvalues, field_le2, field_le2_skip, hl, h65536, List.head?_cons,
    Option.some.injEq, true_and]

theorem judgeAnswer_unread {sample : Byte} {frame : List Byte} (h : parseLink frame = none) :
    judgeAnswer sample frame = .bad := by
  simp only [judgeAnswer, h]

theorem judgeAnswer_other {sample type : Byte} {frame body : List Byte} (h : parseLink frame = some (type, body))
    (ho : type ≠ 0x81#8 ∨ body.length ≠ 8) : judgeAnswer sample frame = .bad := by
  simp only [judgeAnswer, h]
  exact if_neg fun ⟨h1, h2, _⟩ => ho.elim (· h1) (· h2)

/-- Settles O38. -/
theorem headBusExchanges : Obligations.HeadBusExchanges := by
  refine ⟨fun s => ?_, fun b sample sent s hb => ⟨fun r g bl hr hg hbl he => ⟨fun echo hecho => ?_, fun echo lamp h => ?_⟩,
    fun frame he hp => ?_, fun frame type body he hp ho => ?_, fun frame he => execHeadAnswer_discarded hb he⟩⟩
  · intro sample begun spots
    have hbegin : ∀ slot k user t, t.smu.seqBits = s.smu.seqBits → beginMeasurement slot k user t = begun t slot k user :=
      fun slot k user t ht => by
        have hs : sampleByte slot t.smu.seqBits[slot] = sample slot := by
          rw [sampleByte_eq]
          simp only [ht, sample]
        simp only [beginMeasurement, State.onSmu, sendSample, hs, Exchange.opened, begun]
        simp only [ht]
    refine ⟨fun c slot rest h hc ht => ?_, fun before c after h hc hs hsplit hbefore hdue => ?_, fun h hc hs => ?_,
      fun b hb => ⟨fun he => ?_, fun he => ?_⟩⟩
    · refine (execFrameSlotStart_free h).trans (congrArg _ ((arbitrate_of_run hc ht).trans ?_))
      exact hbegin slot 4 .cal s rfl
    · have hm := State.spotsMayBegin_iff.2 hs
      refine ⟨_, rfl, fun he => ?_, fun he hrest hscan hu1 hu2 => ?_⟩
      · refine (execFrameSlotStart_free h).trans (congrArg _ ((arbitrate_of_no_run hc).trans ?_))
        refine (spotTurn_some hm hsplit hbefore hdue rfl).trans ((if_pos he).trans ?_)
        exact hbegin _ _ _ _ rfl
      · refine (execFrameSlotStart_free h).trans (congrArg _ ((arbitrate_of_no_run hc).trans ?_))
        refine (spotTurn_some hm hsplit hbefore hdue rfl).trans ((if_neg (ne_true_of_eq_false he)).trans ?_)
        obtain ⟨fuel, hf⟩ : ∃ n, s.smu.contexts.length +
            (s.evu.routes.toList.map (fun r => (r.map (·.remaining)).getD 0)).sum = n + 1 :=
          ⟨before.length + after.length + (s.evu.routes.toList.map (fun r => (r.map (·.remaining)).getD 0)).sum, by
            rw [hsplit, List.length_append, List.length_cons]; omega⟩
        rw [hf]
        obtain ⟨hq, -⟩ := offerResult_queue (s := { s with smu := s.smu.consume c (before ++ after) }) ⟨hu1, hu2⟩
          (c.resultOf .invalid)
        exact (spotTurn_none (.inr (by rw [endSpot, hq]; exact hrest))).trans
          (scanTurn_none ((offerResult_smu_scan ..).trans hscan))
    · have hx : exec .frameSlotStart s = .next (scanTurn s) := by
        refine (execFrameSlotStart_free h).trans (congrArg _ ((arbitrate_of_no_run hc).trans (spotTurn_none ?_)))
        exact hs.imp_left fun hn => Bool.eq_false_iff.2 fun ht => hn (State.spotsMayBegin_iff.1 ht)
      refine ⟨fun hn => hx.trans (congrArg _ (scanTurn_none hn)), fun c hcs hd => hx.trans (congrArg _ (scanTurn_ends hcs
        (hd.imp_right chooseSlot_over))), fun c slot hcs h1 h2 h3 h4 => ?_, fun c len at_ hcs h1 hlen hp1 hp2 hat =>
        ⟨fun j slot hv hj he hbefore => ?_, fun hoff => ?_⟩⟩
      · obtain ⟨fuel, hf⟩ : ∃ n, s.smu.params.scanList.length = n + 1 :=
          ⟨s.smu.params.scanList.length - 1, by omega⟩
        refine hx.trans (congrArg _ ((scanTurn_begins hcs h1 (by rw [hf]; exact chooseSlot_takes h2 h3 h4)).trans ?_))
        exact hbegin _ _ _ _ rfl
      · have hpos : s.smu.pointer = s.smu.pointer - 1 + 1 := by omega
        have hch := chooseSlot_first hlen j (fuel := len) (q := s.smu.pointer - 1) (by omega) (by omega) hv
          (hat j ▸ hj) he fun i hi x hx => hbefore i hi x (hat i ▸ hx)
        rw [← hpos, hlen] at hch
        refine hx.trans (congrArg _ ((scanTurn_begins hcs h1 hch).trans ?_))
        rw [hlen]
        exact hbegin _ _ _ _ rfl
      · have hpos : s.smu.pointer = s.smu.pointer - 1 + 1 := by omega
        have hch := chooseSlot_none hlen (fuel := len) (q := s.smu.pointer - 1) (visited := c.visited) (by omega)
          fun i x hv hi => hoff i x hv (hat i ▸ hi)
        rw [← hpos, hlen] at hch
        exact hx.trans (congrArg _ (scanTurn_ends hcs (.inr hch)))
    · refine congrArg Host.Outcome.next ?_
      rw [hb]
      dsimp only
      rw [he]
      simp only [State.onSmu, sendSample, Exchange.opened, sampleByte_eq]
      rfl
    · obtain ⟨e, he⟩ := Option.isSome_iff_exists.1 he
      refine congrArg Host.Outcome.next ?_
      rw [hb]
      dsimp only
      rw [he]
  · refine (execHeadAnswer_judged hb he).trans ?_
    rw [judgeAnswer_values sample echo 0 hr hg hbl, if_pos ⟨hecho, rfl⟩]
  · refine (execHeadAnswer_judged hb he).trans ?_
    rw [judgeAnswer_values sample echo lamp hr hg hbl, if_neg fun ⟨h1, h2⟩ => h.elim (· h1) (· h2)]
  · refine (execHeadAnswer_judged hb he).trans ?_
    rw [judgeAnswer_unread hp]
  · refine (execHeadAnswer_judged hb he).trans ?_
    rw [judgeAnswer_other hp ho]

end Sys2Proof.Machine
end

section
/-! The creation of a record: what its steps do to the track, and the pending splices (R26 to R31, R36, R37, R44,
R45). -/

namespace Sys2Proof.Machine

/-! ### Splices that leave the pending list (R45) -/

/-- A record whose span closes with a splice in it, where `hit` says so. -/
def RepeatRecord.spliced (r : RepeatRecord) (hit : Bool) : RepeatRecord :=
  { r with splice := r.splice || hit, defects := { r.defects with splice := r.defects.splice || hit } }

/-- A pending splice that leaves the list lies in the span of `old`. -/
def spliceHits (old : RepeatRecord) (leaving : List Pos) : Bool := leaving.any (fun q => decide (0 ≤ sdiff q old.origin))

/-- The pending splices below the next origin. -/
def leavingSplices (origin : Pos) (qs : List Pos) : List Pos := qs.filter (fun q => sdiff q origin < 0)

theorem spliceHits_leaving {old : RepeatRecord} {origin : Pos} {qs : List Pos} :
    spliceHits old (leavingSplices origin qs) = true ↔
      ∃ x ∈ qs, (x - origin).toInt < 0 ∧ 0 ≤ (x - old.origin).toInt := by
  simp [spliceHits, leavingSplices, sdiff]

theorem settleSplice_tku (old : RepeatRecord) (s : State) (q : Pos) :
    (settleSplice old s q).tku =
      s.tku.onRecord old.number (fun r => r.spliced (decide (0 ≤ sdiff q old.origin))) := by
  unfold settleSplice
  split
  next h => simp [h, RepeatRecord.spliced, State.onTku]
  next h => simp [h, RepeatRecord.spliced, Tku.onRecord]

theorem foldl_settleSplice_tku (old : RepeatRecord) (qs : List Pos) (s : State) :
    (qs.foldl (settleSplice old) s).tku = s.tku.onRecord old.number (fun r => r.spliced (spliceHits old qs)) := by
  induction qs generalizing s with
  | nil => simp [spliceHits, RepeatRecord.spliced, Tku.onRecord]
  | cons q qs ih =>
    rw [List.foldl_cons, ih, settleSplice_tku]
    refine congrArg (fun x => { s.tku with track := x }) ?_
    simp only [Tku.onRecord, List.map_map]
    refine List.map_congr_left fun r _ => ?_
    by_cases h : r.number = old.number <;> simp [h, RepeatRecord.spliced, spliceHits, Bool.or_assoc]

theorem closeSplices_tku (old : RepeatRecord) (origin : Pos) (s : State) : (closeSplices old origin s).tku =
    { s.tku.onRecord old.number (fun r => r.spliced (spliceHits old (leavingSplices origin s.tku.splices))) with
      splices := s.tku.splices.filter (fun q => 0 ≤ (q - origin).toInt) } := by
  have hf : s.tku.splices.filter (fun q => ¬ sdiff q origin < 0) =
      s.tku.splices.filter (fun q => 0 ≤ (q - origin).toInt) := by simp [sdiff]
  rw [closeSplices, foldl_settleSplice_tku, State.onTku, hf]
  rfl

/-! ### What the steps of a creation leave (R29) -/

section
variable (P : State → Prop) (hraise : ∀ ev p1 p2 t, P t → P (raise ev p1 p2 t)) (htku : ∀ t f, P t → P (t.onTku f))
include hraise htku

theorem closeSplices_keeps (old : RepeatRecord) (origin : Pos) (s : State) (h : P s) : P (closeSplices old origin s) := by
  have hFold : ∀ (qs : List Pos) (t : State), P t → P (qs.foldl (settleSplice old) t) := by
    intro qs
    induction qs with
    | nil => exact fun t ht => ht
    | cons q qs ih =>
      intro t ht
      refine ih _ ?_
      unfold settleSplice
      split
      · exact htku _ _ ht
      · exact hraise _ _ _ _ ht
  exact hFold _ _ (htku _ _ h)

theorem closeLength_keeps (old : RepeatRecord) (origin : Pos) (b : Birth) (s : State) (h : P s) :
    P (closeLength old origin b s) := by
  unfold closeLength
  dsimp only
  split
  · exact htku _ _ h
  · split
    · exact htku _ _ h
    · split
      · exact hraise _ _ _ _ (htku _ _ h)
      · exact htku _ _ (htku _ _ h)

theorem joinAndClose_keeps (origin : Pos) (b : Birth) (s : State) (h : P s) : P (joinAndClose origin b s) := by
  have hj : P (joinTrack origin b s) := htku _ _ h
  unfold joinAndClose
  split
  · exact closeSplices_keeps P hraise htku _ _ _ (closeLength_keeps P hraise htku _ _ _ _ hj)
  · exact hj

end

/-! ### The span that closes (R30, R36, R37) -/

/-- The record of a span that closes, with its length and its splice. -/
def closedRecord (n : Nat) (len : SpanLength) (hit : Bool) (r : RepeatRecord) : RepeatRecord :=
  if r.number = n then { r with length := some len }.spliced hit else r

/-- The cases of R36 and R37: the length that is flagged, and the estimate after it. -/
structure SpanClosed (old : RepeatRecord) (b : Birth) (m : Int) (t : Tku) (rejected : Bool) (estimate : Int) : Prop where
  coasted : b = .coasted → rejected = false ∧ estimate = t.estimate
  accepted : b = .seen → old.coasted = false → (m - t.params.n).natAbs ≤ limOf t.params.n t.params.g →
    rejected = false ∧ estimate = estimatorRun t.estimate m t.params.f
  refused : b = .seen → old.coasted = false → limOf t.params.n t.params.g < (m - t.params.n).natAbs →
    rejected = true ∧ estimate = t.estimate

theorem closeLength_tku (old : RepeatRecord) (origin : Pos) (b : Birth) (s : State) : ∃ rejected estimate,
    SpanClosed old b (sdiff origin old.origin) s.tku rejected estimate ∧ (closeLength old origin b s).tku =
      { s.tku.onRecord old.number (fun r => { r with length := some ⟨sdiff origin old.origin, rejected⟩ }) with
        estimate := estimate } := by
  unfold closeLength
  dsimp only
  split
  next h =>
    exact ⟨false, s.tku.estimate, ⟨fun _ => ⟨rfl, rfl⟩, fun hb ho => by simp [hb, ho] at h, fun hb ho => by simp [hb, ho] at h⟩,
      rfl⟩
  next h =>
    split
    next hb => exact ⟨true, s.tku.estimate, ⟨by simp [hb], by simp [hb], by simp [hb]⟩, rfl⟩
    next hb =>
      split
      next hl =>
        refine ⟨true, s.tku.estimate, ⟨fun hc => absurd (.inr hc) h, fun _ _ ha => by omega, fun _ _ _ => ⟨rfl, rfl⟩⟩, ?_⟩
        rw [raise_tku]
        rfl
      next hl =>
        exact ⟨false, _, ⟨fun hc => absurd (.inr hc) h, fun _ _ _ => ⟨rfl, rfl⟩, fun _ _ ha => by omega⟩, rfl⟩

theorem joinAndClose_none {s : State} (h : s.tku.newest = none) (origin : Pos) (b : Birth) :
    joinAndClose origin b s = joinTrack origin b s := by
  simp only [joinAndClose, h]

theorem joinAndClose_some {s : State} {old : RepeatRecord} (h : s.tku.newest = some old) (origin : Pos) (b : Birth) :
    joinAndClose origin b s = closeSpan old origin b (joinTrack origin b s) := by
  simp only [joinAndClose, h]

theorem joinAndClose_tku {s : State} {old : RepeatRecord} (h : s.tku.newest = some old) (origin : Pos) (b : Birth) :
    ∃ rejected estimate, SpanClosed old b (sdiff origin old.origin) s.tku rejected estimate ∧
      (joinAndClose origin b s).tku = { s.tku with
        track := (s.tku.track ++ [newRecord s s.tku.nextRepeat origin b]).map (closedRecord old.number
          ⟨sdiff origin old.origin, rejected⟩ (spliceHits old (leavingSplices origin s.tku.splices)))
        nextRepeat := nextRepeatAfter s.tku.nextRepeat
        splices := s.tku.splices.filter (fun q => 0 ≤ (q - origin).toInt)
        estimate := estimate } := by
  obtain ⟨rej, est, hc, ht⟩ := closeLength_tku old origin b (joinTrack origin b s)
  refine ⟨rej, est, ⟨hc.coasted, hc.accepted, hc.refused⟩, ?_⟩
  rw [joinAndClose_some h, closeSpan, closeSplices_tku, ht]
  refine congrArg (fun x => { s.tku with
    track := x, nextRepeat := nextRepeatAfter s.tku.nextRepeat
    splices := s.tku.splices.filter (fun q => 0 ≤ (q - origin).toInt), estimate := est }) ?_
  simp only [Tku.onRecord, List.map_map, joinTrack, State.onTku]
  refine List.map_congr_left fun r _ => ?_
  by_cases hn : r.number = old.number <;> simp [hn, closedRecord]

/-! ### The cases of a mark's trailing edge and of a missed master -/

section
variable {s : State}

theorem addRecord_track_beside (origin : Pos) (b : Birth) (s : State) (hb : b ≠ .acquired) :
    addRecord origin b s = fitRecord s.tku.nextRepeat (joinAndClose origin b s) := by
  rw [addRecord_eq, if_neg hb]

theorem closeWindow_frame (n : Nat) (k : Fin 8) (s : State) :
    ∃ tr dep, (closeWindow n k s).tku = { s.tku with track := tr, departed := dep } := by
  obtain ⟨-, he⟩ | ⟨r, w, -, ⟨-, he⟩ | ⟨-, he⟩⟩ := closeWindow_cases n k s
  · exact ⟨_, _, by rw [he]⟩
  · exact ⟨_, _, by rw [he]; rfl⟩
  · rw [he, registerEntry_tku, writeRegEntry, State.onTku, raise_tku]
    exact ⟨_, _, rfl⟩

theorem closeWindows_frame (p : RepeatRecord → Window → Bool) (s : State) :
    ∃ tr dep, (closeWindows p s).tku = { s.tku with track := tr, departed := dep } := by
  unfold closeWindows
  generalize openWindows p s.tku.blocks = l
  induction l generalizing s with
  | nil => exact ⟨_, _, rfl⟩
  | cons x l ih =>
    obtain ⟨tr, dep, h⟩ := closeWindow_frame x.1 x.2 s
    obtain ⟨tr', dep', h'⟩ := ih (closeWindow x.1 x.2 s)
    exact ⟨tr', dep', by rw [List.foldl_cons, h', h]⟩

/-- What a creation leaves of the track unit beside its records. -/
theorem addRecord_frame (origin : Pos) (b : Birth) (s : State) :
    (addRecord origin b s).tku.coastCount = s.tku.coastCount ∧ (addRecord origin b s).tku.params = s.tku.params := by
  have hj : ∀ t : State, t.tku.coastCount = s.tku.coastCount → t.tku.params = s.tku.params →
      (joinAndClose origin b t).tku.coastCount = s.tku.coastCount ∧
        (joinAndClose origin b t).tku.params = s.tku.params := by
    intro t hc hp
    cases h : t.tku.newest with
    | none =>
      rw [joinAndClose_none h]
      exact ⟨hc, hp⟩
    | some old =>
      obtain ⟨rej, est, -, ht⟩ := joinAndClose_tku h origin b
      rw [ht]
      exact ⟨hc, hp⟩
  rw [addRecord_eq]
  split
  · obtain ⟨tr, dep, hu⟩ := closeWindows_frame (fun _ _ => true) s
    exact hj _ (by rw [hu]) (by rw [hu])
  · exact hj s rfl rfl

theorem State.trackFull_eq_false (h : s.tku.track.length < 512) : s.trackFull = false :=
  decide_eq_false (Nat.not_le.2 h)

theorem State.trackFull_eq_true (h : 512 ≤ s.tku.track.length) : s.trackFull = true :=
  decide_eq_true h

theorem createSeen_room (h : s.tku.track.length < 512) (origin : Pos) (b : Birth) : createSeen origin b s =
    { addRecord origin b s with tku := { (addRecord origin b s).tku with scanner := .tracking, coastCount := 0 } } :=
  if_neg (ne_true_of_eq_false (State.trackFull_eq_false h))

theorem createSeen_full (h : 512 ≤ s.tku.track.length) (origin : Pos) (b : Birth) :
    createSeen origin b s = latchCause .trackOverflow s := if_pos (State.trackFull_eq_true h)

/-- The part as a coasted record has joined and MASTER-COAST has been raised (R27). -/
def coastedPart (e : Pos) (s : State) : State :=
  raise .masterCoast (s.tku.coastCount + 1) s.tku.nextRepeat { addRecord e .coasted s with
    tku := { (addRecord e .coasted s).tku with coastCount := s.tku.coastCount + 1 } }

theorem createCoasted_room (h : s.tku.track.length < 512) (e : Pos) : createCoasted e s =
    if s.tku.params.c ≤ s.tku.coastCount + 1 then masterLost s.tku.nextRepeat (coastedPart e s) else coastedPart e s := by
  obtain ⟨hc, hp⟩ := addRecord_frame e .coasted s
  have hx : (addRecord e .coasted s).onTku (fun t => { t with coastCount := t.coastCount + 1 }) =
      { addRecord e .coasted s with
        tku := { (addRecord e .coasted s).tku with coastCount := s.tku.coastCount + 1 } } := by rw [State.onTku, hc]
  refine (if_neg (ne_true_of_eq_false (State.trackFull_eq_false h))).trans ?_
  dsimp only
  rw [hx]
  refine if_congr (Iff.of_eq ?_) rfl rfl
  rw [raise_tku]
  exact congrArg (fun p : RepeatParams => p.c ≤ s.tku.coastCount + 1) hp

theorem createCoasted_full (h : 512 ≤ s.tku.track.length) (e : Pos) :
    createCoasted e s = latchCause .trackOverflow s := if_pos (State.trackFull_eq_true h)

theorem masterLost_eq (n : Nat) {s lost : State} (h : lost = raise .masterLost 0 n s) : masterLost n s =
    { lost with
      tku := { lost.tku with scanner := .acquire, coastCount := 0 }
      rlu := { lost.rlu with stations := lost.rlu.stations.map (fun x =>
        { x with mode := if x.mode = .auto then .monitor else x.mode }) } } := by
  subst h
  rfl

/-- MASTER_COAST of a missed master (R27). -/
theorem execMasterCoast_misses {e : Pos} (hw : s.wtb.newWeb = true) (hr : s.running = true)
    (hs : s.tku.scanner = .tracking) (he : s.tku.expected = some e)
    (ho : (s.tku.params.wMaster : Int) < (s.wtb.wp - e).toInt)
    (hh : ∀ p, s.tku.halfSeen = some p → s.tku.params.wMaster < (p - e).toInt.natAbs) :
    execMasterCoast s = .next (createCoasted e s) := by
  have ha : s.advancing = true := by simp [State.advancing, hw, hr]
  have hover : s.tku.windowOver e s.wtb.wp = true := decide_eq_true ho
  have hheld : s.tku.heldBy (s.tku.inMasterWindow e) = false := by
    unfold Tku.heldBy
    cases hp : s.tku.halfSeen with
    | none => rfl
    | some p => exact decide_eq_false (Nat.not_le.2 (hh p hp))
  refine congrArg Host.Outcome.next ?_
  rw [he]
  exact if_pos ⟨ha, hs, hover, hheld⟩

/-- The part as a trailing edge has been read, before its mark is handled (R22). -/
def edgeRead (s : State) : State := { s with
  pins := { s.pins with scn := s.wtb.polarity.scn }, tku := { s.tku with scnPrev := false, halfSeen := none } }

/-- A trailing edge ends a half-seen mark (R23). -/
theorem execMarkTrailingEdge_ends {p : Pos} (hw : s.wtb.newWeb = true) (hr : s.running = true)
    (hs : s.tku.scanner ≠ .off) (hp : s.tku.scnPrev = true) (hh : s.tku.halfSeen = some p) (hne : p ≠ s.wtb.wp) :
    execMarkTrailingEdge s = .next (settleMark p (edgeRead s)) := by
  have hscans : (s.onPins (fun p => { p with scn := s.wtb.polarity.scn })).scans = true := by
    simp only [State.scans, State.advancing]
    simp [State.onPins, hw, hs]
    exact hr
  refine congrArg Host.Outcome.next ((if_pos ⟨hscans, hp⟩).trans ?_)
  dsimp only [State.onPins, State.onTku]
  rw [hh]
  exact if_neg hne

theorem classify_master {p : RepeatParams} {w : Int} (h : (w - p.masterWidth).natAbs ≤ p.widthTol) :
    classify p w = .master := if_pos h

/-- A master-shaped mark creates its record, and the windows that waited close (R25, R26, R32). -/
theorem settleMark_creates {p : Pos} {b : Birth} (hc : classify s.tku.params (sdiff s.wtb.wp p) = .master)
    (h : (s.tku.scanner = .acquire ∧ b = .acquired) ∨ (s.tku.scanner = .tracking ∧ b = .seen ∧
      ∃ e, s.tku.expected = some e ∧ (p - e).toInt.natAbs ≤ s.tku.params.wMaster)) :
    settleMark p s = closeHeldWindows p (createSeen p b s) := by
  have hcoast : ∀ t, coastAfterMark p true t = t := fun t => if_pos rfl
  rcases h with ⟨hs, rfl⟩ | ⟨hs, rfl, e, he, hin⟩
  · simp only [settleMark, hc, hs, marksRecord, markInAcquire]
    exact hcoast _
  · have hin' : s.tku.inMasterWindow e p = true := decide_eq_true hin
    simp only [settleMark, hc, hs, marksRecord, markInTracking, he, hin', if_true, Option.map_some, Option.getD_some]
    exact hcoast _

end

theorem State.running_iff {s : State} : s.running = true ↔ s.wtb.line = .run ∨ s.wtb.line = .hold := by
  simp [State.running]

/-- Settles O28. -/
theorem splicesJoinAndSettle : Obligations.SplicesJoinAndSettle := by
  refine ⟨fun bit s => ⟨fun hl hb => ⟨fun h => ?_, fun h => ?_⟩, fun h => ?_⟩, fun old origin s => ⟨?_, fun r hr => ?_,
    fun mark hmark => ?_⟩, fun origin b s => ?_, fun p s hw hr hp hh hne hlen hm => ?_, fun e s hw hr hs he ho hh hlen => ?_⟩
  · refine congrArg Host.Outcome.next ((if_pos ⟨by simpa [reading] using hb, State.running_iff.2 hl⟩).trans
      ((if_pos h).trans ?_))
    rw [State.onTku, posPlus_nat]
  · exact congrArg Host.Outcome.next ((if_pos ⟨by simpa [reading] using hb, State.running_iff.2 hl⟩).trans
      (if_neg (Nat.not_lt.2 h)))
  · refine congrArg Host.Outcome.next (if_neg fun ⟨h1, h2⟩ => ?_)
    rcases h with ⟨hr, hh⟩ | h
    · exact (State.running_iff.1 h2).elim hr hh
    · simp [reading, h] at h1
  · rw [closeSplices_tku]
  · rw [closeSplices_tku]
    refine ⟨_, List.mem_map_of_mem hr, ?_⟩
    have hit := spliceHits_leaving (old := old) (origin := origin) (qs := s.tku.splices)
    by_cases hn : r.number = old.number
    · simp [hn, RepeatRecord.spliced, hit]
    · simp [hn]
  · have hset : ∀ u q, settleSplice old u q = if 0 ≤ (q - old.origin).toInt then mark u else raise .spliceSeen 2 0 u :=
      fun u q => by rw [hmark]; rfl
    have hf : s.tku.splices.filter (fun q => ¬ sdiff q origin < 0) =
        s.tku.splices.filter (fun q => 0 ≤ (q - origin).toInt) := by simp [sdiff]
    rw [closeSplices, State.onTku, hf]
    refine congrFun (congrFun (congrArg List.foldl (funext fun u => funext fun q => hset u q)) _) _
  · have hn : (if b = .acquired then closeWindows (fun _ _ => true) s else s).tku.nextRepeat = s.tku.nextRepeat := by
      obtain ⟨tr, dep, hu⟩ := closeWindows_frame (fun _ _ => true) s
      split
      · rw [hu]
      · rfl
    refine ⟨_, joinAndClose origin b (if b = .acquired then closeWindows (fun _ _ => true) s else s), rfl,
      fun old h => joinAndClose_some h origin b, fun h => joinAndClose_none (List.getLast?_eq_none_iff.2 h) origin b, ?_⟩
    refine Eq.trans ?_ (congrArg (fitRecord · _) hn)
    rw [addRecord_eq]
    split <;> rfl
  · intro read created
    have hread : ∀ b, createSeen p b read = created b := createSeen_room (s := read) hlen p
    refine ⟨fun hs => ?_, fun e hs he hin => ?_⟩
    · refine (execMarkTrailingEdge_ends hw hr (by simp [hs]) hp hh hne).trans (congrArg _ ?_)
      rw [← hread]
      exact settleMark_creates (s := edgeRead s) (classify_master hm) (.inl ⟨hs, rfl⟩)
    · refine (execMarkTrailingEdge_ends hw hr (by simp [hs]) hp hh hne).trans (congrArg _ ?_)
      rw [← hread]
      exact settleMark_creates (s := edgeRead s) (classify_master hm) (.inr ⟨hs, rfl, e, he, hin⟩)
  · intro added coasted
    refine (execMasterCoast_misses hw hr hs he ho hh).trans (congrArg _ ((createCoasted_room hlen e).trans ?_))
    by_cases hc : s.tku.params.c ≤ s.tku.coastCount + 1
    · rw [if_pos hc, if_neg (Nat.not_lt.2 hc)]
      exact masterLost_eq _ rfl
    · rw [if_neg hc, if_pos (Nat.not_le.1 hc)]
      rfl

end Sys2Proof.Machine
end

section
/-! The record that a creation leaves, and a missed master (R27 to R31). -/

namespace Sys2Proof.Machine

/-! ### The track after a creation (R29) -/

/-- The windows a record gets by this estimate (R31). -/
def State.windowsBy (s : State) (estimate : Int) : List Window :=
  ((List.finRange 8).filter (fun k => s.rlu.stations[k].isActive)).map (fun k =>
    ⟨k, targetOf s.rlu.stations[k].params.d estimate s.tku.params.n, s.rlu.stations[k].params.w, false, false⟩)

/-- What stands after a creation, from a state whose windows have been closed where the birth asks it. -/
structure Created (origin : Pos) (b : Birth) (s t : State) : Prop where
  newest : ∃ r, t.tku.track.getLast? = some r ∧ r.number = s.tku.nextRepeat ∧ r.origin = origin ∧
    r.coasted = (b == .coasted) ∧ r.acquired = (b == .acquired) ∧
    r.at_ = (newRecord s s.tku.nextRepeat origin b).at_ ∧ r.windows = s.windowsBy t.tku.estimate ∧
    ((∀ x ∈ s.tku.blocks, x.number < s.tku.nextRepeat) → r.length = none)
  numbers : t.tku.track.map (·.number) = s.tku.track.map (·.number) ++ [s.tku.nextRepeat]
  counter : t.tku.nextRepeat = nextRepeatAfter s.tku.nextRepeat
  params : t.tku.params = s.tku.params
  path : t.tku.path = s.tku.path
  scanner : t.tku.scanner = s.tku.scanner
  halfSeen : t.tku.halfSeen = s.tku.halfSeen
  unclosed : s.tku.newest = none → t.tku.splices = s.tku.splices ∧ t.tku.estimate = s.tku.estimate
  closed : ∀ old, s.tku.newest = some old → ∃ rejected,
    SpanClosed old b (sdiff origin old.origin) s.tku rejected t.tku.estimate ∧
    t.tku.splices = s.tku.splices.filter (fun q => 0 ≤ (q - origin).toInt) ∧
    ∀ r ∈ s.tku.track, r.number = old.number → ∃ q ∈ t.tku.track, q.number = r.number ∧
      q.length = some ⟨sdiff origin old.origin, rejected⟩ ∧
      q.splice = (r.splice || spliceHits old (leavingSplices origin s.tku.splices)) ∧
      q.defects.splice = (r.defects.splice || spliceHits old (leavingSplices origin s.tku.splices))

/-- A record with the windows of a creation, where it is the new one. -/
def fittedRecord (n : Nat) (ws : List Window) (r : RepeatRecord) : RepeatRecord :=
  if r.number = n then { r with windows := ws } else r

theorem fittedRecord_new {n : Nat} {ws : List Window} {r : RepeatRecord} (h : r.number = n) :
    fittedRecord n ws r = { r with windows := ws } := if_pos h

/-- The fields a creation's windows leave. -/
theorem fittedRecord_fields (n : Nat) (ws : List Window) (r : RepeatRecord) :
    (fittedRecord n ws r).number = r.number ∧ (fittedRecord n ws r).length = r.length ∧
      (fittedRecord n ws r).splice = r.splice ∧ (fittedRecord n ws r).defects = r.defects := by
  unfold fittedRecord
  split <;> exact ⟨rfl, rfl, rfl, rfl⟩

theorem closedRecord_of_number {n : Nat} {len : SpanLength} {hit : Bool} {r : RepeatRecord} (h : r.number = n) :
    closedRecord n len hit r = { r with length := some len }.spliced hit := if_pos h

theorem closedRecord_of_other {n : Nat} {len : SpanLength} {hit : Bool} {r : RepeatRecord} (h : r.number ≠ n) :
    closedRecord n len hit r = r := if_neg h

/-- The fields the close of a span leaves. -/
theorem closedRecord_fields (n : Nat) (len : SpanLength) (hit : Bool) (r : RepeatRecord) :
    (closedRecord n len hit r).number = r.number ∧ (closedRecord n len hit r).origin = r.origin ∧
      (closedRecord n len hit r).coasted = r.coasted ∧ (closedRecord n len hit r).acquired = r.acquired ∧
      (closedRecord n len hit r).at_ = r.at_ := by
  unfold closedRecord
  split <;> exact ⟨rfl, rfl, rfl, rfl, rfl⟩

theorem map_number_of_kept {f : RepeatRecord → RepeatRecord} (hf : ∀ r, (f r).number = r.number)
    (l : List RepeatRecord) : (l.map f).map (·.number) = l.map (·.number) := by
  rw [List.map_map]
  exact List.map_congr_left fun r _ => hf r

theorem joinAndClose_rlu (origin : Pos) (b : Birth) (s : State) : (joinAndClose origin b s).rlu = s.rlu :=
  joinAndClose_keeps (fun t => t.rlu = s.rlu) (fun _ _ _ _ h => (raise_rlu ..).trans h) (fun _ _ h => h) _ _ s rfl

theorem newWindows_eq {s t : State} (hr : t.rlu = s.rlu) (hp : t.tku.params = s.tku.params) :
    t.newWindows = s.windowsBy t.tku.estimate := by
  simp only [State.newWindows, State.windowsBy, hr, hp]

theorem fitRecord_tku (n : Nat) (s : State) : (fitRecord n s).tku = Tku.forget { s.tku with
    track := s.tku.track.map (fittedRecord n s.newWindows), cursors := s.cursorsWith n } := rfl

theorem fitRecord_created (origin : Pos) (b : Birth) (s : State) :
    Created origin b s (fitRecord s.tku.nextRepeat (joinAndClose origin b s)) := by
  have hrlu := joinAndClose_rlu origin b s
  have hfit := fitRecord_tku s.tku.nextRepeat (joinAndClose origin b s)
  obtain ⟨x, hx⟩ : ∃ x, x = newRecord s s.tku.nextRepeat origin b := ⟨_, rfl⟩
  have hxn : x.number = s.tku.nextRepeat := by rw [hx]; rfl
  have hnum := fun ws r => (fittedRecord_fields s.tku.nextRepeat ws r).1
  cases h : s.tku.newest with
  | none =>
    have ht : (joinAndClose origin b s).tku = { s.tku with
        track := s.tku.track ++ [x], nextRepeat := nextRepeatAfter s.tku.nextRepeat } := by
      rw [joinAndClose_none h, hx]; rfl
    have hw := newWindows_eq hrlu (by rw [ht])
    rw [ht] at hfit
    refine ⟨⟨{ x with windows := (joinAndClose origin b s).newWindows }, ?_, hxn, by rw [hx]; rfl, by rw [hx]; rfl,
      by rw [hx]; rfl, by rw [hx], by rw [hfit, hw, ht]; rfl, fun _ => by rw [hx]; rfl⟩, ?_, by rw [hfit]; rfl,
      by rw [hfit]; rfl, by rw [hfit]; rfl, by rw [hfit]; rfl, by rw [hfit]; rfl, fun _ => by rw [hfit]; exact ⟨rfl, rfl⟩,
      fun old ho => absurd (h.symm.trans ho) (by simp)⟩
    · rw [hfit, Tku.forget_track, List.map_append, List.map_singleton, List.getLast?_concat, fittedRecord_new hxn]
    · rw [hfit, Tku.forget_track, map_number_of_kept (hnum _), List.map_append, List.map_singleton, hxn]
  | some old =>
    obtain ⟨rej, est, hspan, ht⟩ := joinAndClose_tku h origin b
    rw [← hx] at ht
    have hw := newWindows_eq hrlu (by rw [ht])
    rw [ht] at hfit
    obtain ⟨len, hlen⟩ : ∃ len : SpanLength, len = ⟨sdiff origin old.origin, rej⟩ := ⟨_, rfl⟩
    obtain ⟨hit, hhit⟩ : ∃ hit, hit = spliceHits old (leavingSplices origin s.tku.splices) := ⟨_, rfl⟩
    rw [← hlen, ← hhit] at hfit
    obtain ⟨hcn, hco, hcc, hca, hcat⟩ := closedRecord_fields old.number len hit x
    have htrack : (fitRecord s.tku.nextRepeat (joinAndClose origin b s)).tku.track = (s.tku.track ++ [x]).map (fun r =>
        fittedRecord s.tku.nextRepeat (joinAndClose origin b s).newWindows (closedRecord old.number len hit r)) := by
      rw [hfit, Tku.forget_track]
      exact List.map_map
    have hest : (fitRecord s.tku.nextRepeat (joinAndClose origin b s)).tku.estimate = est := by rw [hfit]; rfl
    refine ⟨⟨{ closedRecord old.number len hit x with windows := (joinAndClose origin b s).newWindows }, ?_,
      hcn.trans hxn, hco.trans (by rw [hx]; rfl), hcc.trans (by rw [hx]; rfl), hca.trans (by rw [hx]; rfl),
      hcat.trans (by rw [hx]), by rw [hest, hw, ht], fun hlt => ?_⟩, ?_, by rw [hfit]; rfl,
      by rw [hfit]; rfl, by rw [hfit]; rfl, by rw [hfit]; rfl, by rw [hfit]; rfl,
      fun hn => absurd (h.symm.trans hn) (by simp), fun old' ho => ?_⟩
    · rw [htrack, List.map_append, List.map_singleton, List.getLast?_concat, fittedRecord_new (hcn.trans hxn)]
    · have hne : x.number ≠ old.number := by
        have := hlt old (List.mem_of_getLast? h)
        omega
      show (closedRecord old.number len hit x).length = none
      rw [closedRecord_of_other hne, hx]
      rfl
    · rw [htrack, map_number_of_kept fun r => (hnum _ _).trans (closedRecord_fields old.number len hit r).1,
        List.map_append, List.map_singleton, hxn]
    · obtain rfl : old = old' := Option.some.inj (h.symm.trans ho)
      refine ⟨rej, by rw [hest]; exact hspan, by rw [hfit]; rfl, fun r hr hn => ?_⟩
      rw [← hlen, ← hhit]
      refine ⟨fittedRecord s.tku.nextRepeat (joinAndClose origin b s).newWindows (closedRecord old.number len hit r), ?_, ?_⟩
      · rw [htrack]
        exact List.mem_map.2 ⟨r, List.mem_append_left _ hr, rfl⟩
      · obtain ⟨h1, h2, h3, h4⟩ := fittedRecord_fields s.tku.nextRepeat (joinAndClose origin b s).newWindows
          (closedRecord old.number len hit r)
        rw [h1, h2, h3, h4, closedRecord_of_number hn]
        exact ⟨rfl, rfl, rfl, rfl⟩

/-! ### The windows of the active stations, as the statements write them -/

theorem Station.isActive_iff (st : Station) : st.isActive = decide (st.mode = .monitor ∨ st.mode = .auto) := by
  cases st with
  | mk mode => cases mode <;> rfl

theorem addRecord_rlu {origin : Pos} {b : Birth} (hb : b ≠ .acquired) (s : State) : (addRecord origin b s).rlu = s.rlu := by
  rw [addRecord_track_beside origin b s hb]
  exact joinAndClose_rlu origin b s

/-- A track overflow freezes the track (R29, R16). -/
theorem latchCause_overflow {s : State} (hr : s.running = true) (h : s.wtb.latched.trackOverflow = false) :
    (latchCause .trackOverflow s).wtb = { s.wtb with
      latched := { s.wtb.latched with trackOverflow := true }, line := .fault, resumeArmed := false } ∧
    (latchCause .trackOverflow s).tku = { s.tku with scanner := .off, halfSeen := none, coastCount := 0 } := by
  have hl : s.wtb.line = .thread ∨ s.wtb.line = .run ∨ s.wtb.line = .hold := .inr (State.running_iff.1 hr)
  obtain ⟨u, hw, -, -⟩ := latchCause_fault (c := .trackOverflow) h hl
  refine ⟨hw, ?_⟩
  rw [latchCause_faults (c := .trackOverflow) h hl]
  rw [enterFault_eq]
  simp [reportFault, noteCause, scannerOff, State.onTku]

/-- The scanner's state and the coast count after a missed master (R27, R28). -/
theorem createCoasted_leaves {e : Pos} {s : State} (h : s.tku.track.length < 512) (hs : s.tku.scanner = .tracking) :
    ∃ sc cc, (createCoasted e s).tku = { (addRecord e .coasted s).tku with scanner := sc, coastCount := cc } ∧
      (s.tku.coastCount + 1 < s.tku.params.c →
        cc = s.tku.coastCount + 1 ∧ sc = .tracking ∧ (createCoasted e s).rlu = s.rlu) ∧
      (s.tku.params.c ≤ s.tku.coastCount + 1 →
        cc = 0 ∧ sc = .acquire ∧ ∀ k : Fin 8, (createCoasted e s).rlu.stations[k].mode ≠ .auto) := by
  have hcreated := fitRecord_created e .coasted s
  rw [← addRecord_track_beside e .coasted s (by decide)] at hcreated
  rw [createCoasted_room h]
  by_cases hc : s.tku.params.c ≤ s.tku.coastCount + 1
  · rw [if_pos hc, masterLost_eq _ rfl]
    refine ⟨.acquire, 0, ?_, fun hn => absurd hc (Nat.not_le.2 hn), fun _ => ⟨rfl, rfl, fun k => ?_⟩⟩
    · rw [coastedPart, raise_tku, raise_tku]
    · simp only [Fin.getElem_fin, Vector.getElem_map]
      split
      · decide
      next hn => exact hn
  · rw [if_neg hc]
    refine ⟨.tracking, s.tku.coastCount + 1, ?_, fun _ => ⟨rfl, rfl, ?_⟩, fun hn => absurd hn hc⟩
    · rw [coastedPart, raise_tku, ← hs, ← hcreated.scanner]
    · rw [coastedPart, raise_rlu]
      exact addRecord_rlu (by decide) s

/-- Settles O27. -/
theorem missedMasterIsCoasted : Obligations.MissedMasterIsCoasted := by
  intro e s hw hr hs he ho hh
  have hx := execMasterCoast_misses hw hr hs he ho hh
  refine ⟨hx, fun hlen => ⟨_, rfl, fun hc => ?_, fun hc => ⟨_, rfl, ?_⟩⟩, fun hlen hl => ?_, fun hlen => ?_⟩
  · refine hx.trans (congrArg _ ((createCoasted_room hlen e).trans ?_))
    exact if_neg (Nat.not_le.2 hc)
  · refine hx.trans (congrArg _ ((createCoasted_room hlen e).trans ((if_pos hc).trans ?_)))
    exact masterLost_eq _ rfl
  · obtain ⟨h1, h2⟩ := latchCause_overflow hr hl
    exact ⟨_, hx.trans (congrArg _ (createCoasted_full hlen e)), h1, h2⟩
  · have hcreated := fitRecord_created e .coasted s
    rw [← addRecord_track_beside e .coasted s (by decide)] at hcreated
    obtain ⟨sc, cc, ht, hgo, hlost⟩ := createCoasted_leaves (e := e) hlen hs
    obtain ⟨r, hlast, hn, ho, hco, hac, -, hwin, -⟩ := hcreated.newest
    have hest : (addRecord e .coasted s).tku.estimate = s.tku.estimate := by
      cases h : s.tku.newest with
      | none => exact (hcreated.unclosed h).2
      | some old =>
        obtain ⟨rej, hspan, -, -⟩ := hcreated.closed old h
        exact (hspan.coasted rfl).2
    refine ⟨_, r, hx, ?_⟩
    rw [ht]
    refine ⟨hlast, hn, ho, hco, hac, ?_, hcreated.numbers, hcreated.counter, hest, fun old hold => ?_,
      fun hnone => (hcreated.unclosed (List.getLast?_eq_none_iff.2 hnone)).1, hgo, hlost⟩
    · rw [hwin, hest]
      simp only [State.windowsBy, Station.isActive_iff]
      rfl
    · obtain ⟨rej, -, hsp, hq⟩ := hcreated.closed old hold
      refine ⟨hsp, fun hmem => ?_⟩
      obtain ⟨q, hqm, hqn, -, hqs, hqd⟩ := hq old hmem rfl
      refine ⟨q, hqm, hqn, ?_, ?_⟩
      · rw [hqs, Bool.or_eq_true, spliceHits_leaving]
      · rw [hqd, Bool.or_eq_true, spliceHits_leaving]

end Sys2Proof.Machine
end

section
/-! The windows' work, which leaves the records' own fields, and a master mark's record (R25, R26, R30 to R32, R36). -/

namespace Sys2Proof.Machine

/-! ### What a register entry and an occurrence leave -/

/-- What the windows' work and a creation leave beside the track. -/
structure SameSurroundings (s t : State) : Prop where
  wp : t.wtb.wp = s.wtb.wp
  running : t.running = s.running
  lbp : t.lbp = s.lbp
  batches : t.btu.batches = s.btu.batches
  history : t.rku.history = s.rku.history
  shade : t.smu.params = s.smu.params
  lanes : ∀ l, (t.lane l).params = (s.lane l).params
  stations : ∀ k : Fin 8, t.rlu.stations[k].params = s.rlu.stations[k].params ∧
    t.rlu.stations[k].isActive = s.rlu.stations[k].isActive

section
variable {s t : State}

theorem SameSurroundings.refl (s : State) : SameSurroundings s s :=
  ⟨rfl, rfl, rfl, rfl, rfl, rfl, fun _ => rfl, fun _ => ⟨rfl, rfl⟩⟩

theorem SameSurroundings.trans {u : State} (h : SameSurroundings s t) (h' : SameSurroundings t u) :
    SameSurroundings s u :=
  ⟨h'.wp.trans h.wp, h'.running.trans h.running, h'.lbp.trans h.lbp, h'.batches.trans h.batches,
    h'.history.trans h.history, h'.shade.trans h.shade, fun l => (h'.lanes l).trans (h.lanes l),
    fun k => ⟨(h'.stations k).1.trans (h.stations k).1, (h'.stations k).2.trans (h.stations k).2⟩⟩

theorem SameSurroundings.raise (h : SameSurroundings s t) (ev : Event) (p1 p2 : Nat) :
    SameSurroundings s (raise ev p1 p2 t) :=
  ⟨(raise_wtb_wp ..).trans h.wp, (raise_running ..).trans h.running, (raise_lbp ..).trans h.lbp,
    (raise_btu_batches ..).trans h.batches, (raise_rku_history ..).trans h.history, (raise_smu_params ..).trans h.shade,
    fun l => (raise_lane_params ..).trans (h.lanes l), fun k => by rw [raise_rlu]; exact h.stations k⟩

theorem SameSurroundings.onTku (h : SameSurroundings s t) (f : Tku → Tku) : SameSurroundings s (t.onTku f) :=
  ⟨h.wp, h.running, h.lbp, h.batches, h.history, h.shade, h.lanes, h.stations⟩

theorem SameSurroundings.onStation (h : SameSurroundings s t) (k : Fin 8) (f : Station → Station)
    (hf : ∀ st, (f st).params = st.params ∧ (f st).isActive = st.isActive) :
    SameSurroundings s (t.onRlu (fun r => r.onStation k f)) := by
  refine ⟨h.wp, h.running, h.lbp, h.batches, h.history, h.shade, h.lanes, fun j => ?_⟩
  have hj := h.stations j
  by_cases hk : j = k
  · subst hk
    have hset : (t.onRlu (fun r => r.onStation j f)).rlu.stations[j] = f t.rlu.stations[j] := by
      simp [State.onRlu, Rlu.onStation]
    rw [hset, (hf _).1, (hf _).2]
    exact hj
  · have hset : (t.onRlu (fun r => r.onStation k f)).rlu.stations[j] = t.rlu.stations[j] := by
      simp only [State.onRlu, Rlu.onStation, Fin.getElem_fin]
      exact Vector.getElem_set_ne _ _ (fun hn => hk (Fin.ext hn.symm))
    rw [hset]
    exact hj

theorem SameSurroundings.onChannel (h : SameSurroundings s t) (c : Fin 9) (f : TrimChannel → TrimChannel) :
    SameSurroundings s (t.onRlu (fun r => r.onChannel c f)) :=
  ⟨h.wp, h.running, h.lbp, h.batches, h.history, h.shade, h.lanes, h.stations⟩

theorem SameSurroundings.addOwed (h : SameSurroundings s t) (c : Fin 9) (amount : Int) (n : Nat) :
    SameSurroundings s (addOwed c amount n t) := by
  unfold Machine.addOwed
  dsimp only
  split
  · exact h.onChannel _ _
  · exact (h.onChannel _ _).raise _ _ _

theorem SameSurroundings.countOutOfTolerance (h : SameSurroundings s t) (k : Fin 8) (n : Nat) (rd : RegReading) :
    SameSurroundings s (countOutOfTolerance k n rd t) := by
  unfold Machine.countOutOfTolerance
  split
  · exact h
  · exact h.onStation _ _ fun _ => ⟨rfl, rfl⟩
  · dsimp only
    split
    · refine SameSurroundings.raise ?_ _ _ _
      exact h.onStation _ _ fun _ => ⟨rfl, rfl⟩
    · exact h.onStation _ _ fun _ => ⟨rfl, rfl⟩

theorem dropAuto_isActive (st : Station) : st.dropAuto.isActive = st.isActive := by
  cases st with
  | mk mode => cases mode <;> rfl

theorem SameSurroundings.countMissing (h : SameSurroundings s t) (k : Fin 8) (n : Nat) (rd : RegReading) :
    SameSurroundings s (countMissing k n rd t) := by
  unfold Machine.countMissing
  split
  · exact h.onStation _ _ fun _ => ⟨rfl, rfl⟩
  · split
    · exact h.onStation _ _ fun _ => ⟨rfl, rfl⟩
    · refine SameSurroundings.onStation (SameSurroundings.raise ?_ _ _ _) _ _ fun st => ⟨rfl, dropAuto_isActive st⟩
      exact h.onStation _ _ fun _ => ⟨rfl, rfl⟩

theorem SameSurroundings.stationLoop (h : SameSurroundings s t) (k : Fin 8) (n : Nat) (rd : RegReading) :
    SameSurroundings s (stationLoop k n rd t) := by
  unfold Machine.stationLoop
  dsimp only
  split
  · exact h
  · split
    · exact h.onStation _ _ fun _ => ⟨rfl, rfl⟩
    · split
      · exact h
      · split
        · exact h
        · split
          · exact h
          · refine SameSurroundings.onStation (h.addOwed _ _ _) _ _ fun _ => ⟨rfl, rfl⟩

theorem SameSurroundings.registerEntry (h : SameSurroundings s t) (k : Fin 8) (n : Nat) (c : Bool) (rd : RegReading) :
    SameSurroundings s (registerEntry k n c rd t) := by
  have hw : SameSurroundings s (writeRegEntry k n rd t) := h.onTku _
  unfold Machine.registerEntry
  dsimp only
  split
  · exact hw
  · exact ((hw.countOutOfTolerance _ _ _).countMissing _ _ _).stationLoop _ _ _

end

/-! ### Windows that close (R32) -/

/-- What a window's close and a report leave of a window. -/
def Window.fixed (w : Window) : Fin 8 × Int × Nat × Bool := (w.station, w.target, w.half, w.captured)

/-- What a window's close and a report leave of a record. -/
structure RecordKept (r q : RepeatRecord) : Prop where
  number : q.number = r.number
  origin : q.origin = r.origin
  length : q.length = r.length
  coasted : q.coasted = r.coasted
  acquired : q.acquired = r.acquired
  splice : q.splice = r.splice
  spliceDefect : q.defects.splice = r.defects.splice
  at_ : q.at_ = r.at_
  windows : q.windows.map Window.fixed = r.windows.map Window.fixed

theorem RecordKept.refl (r : RepeatRecord) : RecordKept r r := ⟨rfl, rfl, rfl, rfl, rfl, rfl, rfl, rfl, rfl⟩

theorem RecordKept.trans {r q x : RepeatRecord} (h : RecordKept r q) (h' : RecordKept q x) : RecordKept r x :=
  ⟨h'.number.trans h.number, h'.origin.trans h.origin, h'.length.trans h.length, h'.coasted.trans h.coasted,
    h'.acquired.trans h.acquired, h'.splice.trans h.splice, h'.spliceDefect.trans h.spliceDefect, h'.at_.trans h.at_,
    h'.windows.trans h.windows⟩

/-- What the windows' work leaves. -/
structure WindowsWork (s t : State) : Prop where
  surroundings : SameSurroundings s t
  tku : ∃ g dep, (∀ r, RecordKept r (g r)) ∧ t.tku = { s.tku with track := s.tku.track.map g, departed := dep }
  newest : ∀ r, s.tku.newest = some r → ∃ q, t.tku.newest = some q ∧ RecordKept r q
  unwritten : s.tku.newest = none → t.tku.newest = none
  blocks : ∀ x ∈ t.tku.blocks, ∃ y ∈ s.tku.blocks, y.number = x.number

theorem WindowsWork.refl (s : State) : WindowsWork s s :=
  ⟨.refl s, ⟨id, _, .refl, by rw [List.map_id]⟩, fun r h => ⟨r, h, .refl r⟩, id, fun x hx => ⟨x, hx, rfl⟩⟩

theorem WindowsWork.trans {s t u : State} (h : WindowsWork s t) (h' : WindowsWork t u) : WindowsWork s u := by
  obtain ⟨g, dep, hg, ht⟩ := h.tku
  obtain ⟨g', dep', hg', hu⟩ := h'.tku
  refine ⟨h.surroundings.trans h'.surroundings, ⟨g' ∘ g, dep', fun r => (hg r).trans (hg' _), ?_⟩, fun r hr => ?_,
    fun hn => h'.unwritten (h.unwritten hn), fun x hx => ?_⟩
  · rw [hu, ht, ← List.map_map]
  · obtain ⟨q, hq, hk⟩ := h.newest r hr
    obtain ⟨x, hx, hk'⟩ := h'.newest q hq
    exact ⟨x, hx, hk.trans hk'⟩
  · obtain ⟨y, hy, hyn⟩ := h'.blocks x hx
    obtain ⟨z, hz, hzn⟩ := h.blocks y hy
    exact ⟨z, hz, hzn.trans hyn⟩

/-- The newest record is not forgotten (R26). -/
theorem Tku.forget_newest (t : Tku) : t.forget.newest = t.newest := by
  have hd : t.track = [] → (t.departed.filter t.stillRead).getLast? = t.departed.getLast? := by
    intro ht
    cases h : t.departed.getLast? with
    | none => rw [List.getLast?_eq_none_iff.1 h]; rfl
    | some x =>
      obtain ⟨init, hi⟩ := List.getLast?_eq_some_iff.1 h
      have hx : t.stillRead x = true := by simp [Tku.stillRead, ht, h]
      have hf : t.departed.filter t.stillRead = init.filter t.stillRead ++ [x] := by
        rw [hi, List.filter_append, List.filter_singleton, hx]
        rfl
      rw [hf, List.getLast?_concat]
  show (t.departed.filter t.stillRead ++ t.track).getLast? = (t.departed ++ t.track).getLast?
  rw [List.getLast?_append, List.getLast?_append]
  cases h : t.track.getLast? with
  | none => rw [hd (List.getLast?_eq_none_iff.1 h)]
  | some x => rfl

/-- Records changed on the track and among the departed. -/
def Tku.changed (t : Tku) (g g' : RepeatRecord → RepeatRecord) : Tku :=
  { t with track := t.track.map g, departed := t.departed.map g' }

theorem Tku.changed_newest (t : Tku) (g g' : RepeatRecord → RepeatRecord) :
    (t.changed g g').newest = (t.track.getLast?.map g).or (t.departed.getLast?.map g') := by
  simp [Tku.newest, Tku.blocks, Tku.changed, List.getLast?_append]

theorem Tku.newest_eq (t : Tku) : t.newest = t.track.getLast?.or t.departed.getLast? := List.getLast?_append

section
variable {s : State} {g g' : RepeatRecord → RepeatRecord}

/-- A change of records that keeps them is work of the windows. -/
theorem WindowsWork.changed (hg : ∀ r, RecordKept r (g r)) (hg' : ∀ r, RecordKept r (g' r)) :
    WindowsWork s (s.onTku (fun t => (t.changed g g').forget)) := by
  refine ⟨(SameSurroundings.refl s).onTku _, ⟨g, _, hg, rfl⟩, fun r hr => ?_, fun hn => ?_, fun x hx => ?_⟩
  · rw [State.onTku_tku, Tku.forget_newest, Tku.changed_newest]
    rw [Tku.newest_eq] at hr
    cases h : s.tku.track.getLast? with
    | none =>
      rw [h] at hr
      exact ⟨g' r, by rw [show s.tku.departed.getLast? = some r from hr]; rfl, hg' r⟩
    | some x =>
      rw [h] at hr
      obtain rfl : x = r := Option.some.inj hr
      exact ⟨g x, rfl, hg x⟩
  · rw [State.onTku_tku, Tku.forget_newest, Tku.changed_newest]
    rw [Tku.newest_eq, Option.or_eq_none_iff] at hn
    rw [hn.1, hn.2]
    rfl
  · obtain hx | hx := List.mem_append.1 hx
    · obtain ⟨y, hy, rfl⟩ := List.mem_map.1 (List.mem_filter.1 hx).1
      exact ⟨y, List.mem_append_left _ hy, (hg' y).number.symm⟩
    · obtain ⟨y, hy, rfl⟩ := List.mem_map.1 hx
      exact ⟨y, List.mem_append_right _ hy, (hg y).number.symm⟩

/-- A change of records on the track alone. -/
theorem WindowsWork.onTrack (hg : ∀ r, RecordKept r (g r)) :
    WindowsWork s (s.onTku (fun t => { t with track := t.track.map g })) := by
  refine ⟨(SameSurroundings.refl s).onTku _, ⟨g, s.tku.departed, hg, rfl⟩, fun r hr => ?_, fun hn => ?_, fun x hx => ?_⟩
  · rw [State.onTku_tku, Tku.newest_eq]
    rw [Tku.newest_eq] at hr
    rw [List.getLast?_map]
    cases h : s.tku.track.getLast? with
    | none =>
      rw [h] at hr
      exact ⟨r, hr, .refl r⟩
    | some x =>
      rw [h] at hr
      obtain rfl : x = r := Option.some.inj hr
      exact ⟨g x, rfl, hg x⟩
  · rw [State.onTku_tku, Tku.newest_eq, List.getLast?_map]
    rw [Tku.newest_eq, Option.or_eq_none_iff] at hn
    rw [hn.1]
    exact hn.2
  · obtain hx | hx := List.mem_append.1 hx
    · exact ⟨x, List.mem_append_left _ hx, rfl⟩
    · obtain ⟨y, hy, rfl⟩ := List.mem_map.1 hx
      exact ⟨y, List.mem_append_right _ hy, (hg y).number.symm⟩

end

/-- A step that leaves the track unit is work of the windows where it keeps the surroundings. -/
theorem WindowsWork.of_tku {s t u : State} (h : WindowsWork s t) (hu : SameSurroundings s u) (ht : u.tku = t.tku) :
    WindowsWork s u :=
  ⟨hu, by rw [ht]; exact h.tku, by rw [ht]; exact h.newest, by rw [ht]; exact h.unwritten, by rw [ht]; exact h.blocks⟩

theorem WindowsWork.closeWindow (n : Nat) (k : Fin 8) (s : State) : WindowsWork s (closeWindow n k s) := by
  have hg : ∀ r : RepeatRecord, RecordKept r (if r.number = n then
      r.onWindow k (fun w => { w with closed := true }) else r) := by
    intro r
    split
    · refine ⟨rfl, rfl, rfl, rfl, rfl, rfl, rfl, rfl, ?_⟩
      rw [RepeatRecord.onWindow, List.map_map]
      refine List.map_congr_left fun w _ => ?_
      dsimp only [Function.comp_apply]
      split <;> rfl
    · exact .refl r
  have hshut : WindowsWork s (s.onTku (fun t => t.onWindow n k (fun w => { w with closed := true }))) :=
    WindowsWork.changed hg hg
  obtain ⟨-, he⟩ | ⟨r, w, -, ⟨-, he⟩ | ⟨-, he⟩⟩ := closeWindow_cases n k s
  · rw [he]; exact .refl s
  · rw [he]; exact hshut
  · rw [he]
    have hraised := hshut.of_tku (hshut.surroundings.raise .markMissing (k.val + 1) n) (raise_tku ..)
    refine (hraised.trans (WindowsWork.onTrack (g := fun x => if x.number = n then { x with
      regs := x.regs ++ [⟨k, .missing⟩], defects := { x.defects with
        register := x.defects.register || RegReading.missing.isDefect } } else x) fun x => ?_)).of_tku
      (hraised.surroundings.registerEntry ..) (registerEntry_tku ..)
    split
    · exact ⟨rfl, rfl, rfl, rfl, rfl, rfl, rfl, rfl, rfl⟩
    · exact .refl x

theorem WindowsWork.closeWindows (p : RepeatRecord → Window → Bool) (s : State) : WindowsWork s (closeWindows p s) := by
  unfold Machine.closeWindows
  generalize openWindows p s.tku.blocks = l
  induction l generalizing s with
  | nil => exact .refl s
  | cons x l ih => exact (WindowsWork.closeWindow x.1 x.2 s).trans (ih _)

theorem WindowsWork.closeHeldWindows (p : Pos) (s : State) : WindowsWork s (closeHeldWindows p s) := by
  unfold Machine.closeHeldWindows
  split
  · exact .closeWindows _ s
  · exact .refl s

end Sys2Proof.Machine
end

section
/-! A master mark creates the next record (R25, R26, R29 to R31, R36, R37). -/

namespace Sys2Proof.Machine

/-! ### The estimator (R37) -/

theorem estimatorRun_step (e m : Int) {f : Nat} (hf : 1 ≤ f) :
    estimatorRun e m f = e + (16 * m - e + 2 ^ (f - 1)) / 2 ^ f := if_neg (by omega)

/-- The step of the estimator lies between 0 and the whole distance. -/
theorem roundedShare_bounds (d : Int) {f : Nat} (hf : 1 ≤ f) :
    (0 ≤ d → 0 ≤ (d + 2 ^ (f - 1)) / 2 ^ f ∧ (d + 2 ^ (f - 1)) / 2 ^ f ≤ d) ∧
      (d ≤ 0 → d ≤ (d + 2 ^ (f - 1)) / 2 ^ f ∧ (d + 2 ^ (f - 1)) / 2 ^ f ≤ 0) := by
  obtain ⟨k, rfl⟩ : ∃ k, f = k + 1 := ⟨f - 1, by omega⟩
  have hpos : (0 : Int) < 2 ^ k := by positivity
  rw [Nat.add_sub_cancel, pow_succ]
  generalize (2 : Int) ^ k = h at hpos
  refine ⟨fun hd => ⟨Int.ediv_nonneg (by omega) (by omega), ?_⟩, fun hd => ⟨?_, ?_⟩⟩
  · refine Int.lt_add_one_iff.1 (Int.ediv_lt_of_lt_mul (by omega) ?_)
    nlinarith
  · refine (Int.le_ediv_iff_mul_le (by omega)).2 ?_
    nlinarith
  · refine Int.lt_add_one_iff.1 (Int.ediv_lt_of_lt_mul (by omega) ?_)
    omega

theorem estimatorRun_between (e m : Int) (f : Nat) :
    (e ≤ 16 * m → e ≤ estimatorRun e m f ∧ estimatorRun e m f ≤ 16 * m) ∧
      (16 * m ≤ e → 16 * m ≤ estimatorRun e m f ∧ estimatorRun e m f ≤ e) := by
  obtain rfl | hf := Nat.eq_zero_or_pos f
  · have h0 : estimatorRun e m 0 = 16 * m := if_pos rfl
    omega
  · obtain ⟨hup, hdown⟩ := roundedShare_bounds (16 * m - e) hf
    rw [estimatorRun_step e m hf]
    refine ⟨fun h => ?_, fun h => ?_⟩
    · have := hup (by omega)
      omega
    · have := hdown (by omega)
      omega

/-! ### A master mark's record -/

section
variable {s u : State}

/-- The fixed crossing positions of a record depend on nothing the windows' work changes (R41). -/
theorem newRecord_at {origin : Pos} {b : Birth} {n m : Nat} (hs : SameSurroundings s u)
    (hp : u.tku.params = s.tku.params) (hpath : u.tku.path = s.tku.path) (ho : u.tku.overtaken = s.tku.overtaken) :
    (newRecord u n origin b).at_ = (newRecord s m origin b).at_ := by
  have hx : ∀ p, u.crossingPosition origin p = s.crossingPosition origin p := by
    intro p
    have hl := hs.lanes
    match p with
    | .emboss | .shade | .knife .a | .knife .b =>
      simp only [State.crossingPosition, State.pointDistance, State.pointOffset, State.heldOffset, hp, hpath, ho,
        hs.shade, hl]
  simp only [newRecord, hx]

theorem windowsBy_fixed (h : ∀ k : Fin 8, u.rlu.stations[k].params = s.rlu.stations[k].params ∧
      u.rlu.stations[k].isActive = s.rlu.stations[k].isActive) (hp : u.tku.params = s.tku.params) (est : Int) :
    (u.windowsBy est).map Window.fixed = (s.windowsBy est).map Window.fixed := by
  have h1 := fun k => (h k).1
  have h2 := fun k => (h k).2
  simp only [State.windowsBy, h1, h2, hp]

end

/-- What stands after the record of a master mark has been created and the windows that waited have closed, the windows
of the older records closed before where the birth asks it. -/
structure MasterRecord (p : Pos) (b : Birth) (s t : State) : Prop where
  newest : ∃ r, t.tku.track.getLast? = some r ∧ r.number = s.tku.nextRepeat ∧ r.origin = p ∧
    r.coasted = (b == .coasted) ∧ r.acquired = (b == .acquired) ∧
    r.at_ = (newRecord s s.tku.nextRepeat p b).at_ ∧
    r.windows.map Window.fixed = (s.windowsBy t.tku.estimate).map Window.fixed ∧
    ((∀ x ∈ s.tku.blocks, x.number < s.tku.nextRepeat) → r.length = none)
  numbers : t.tku.track.map (·.number) = s.tku.track.map (·.number) ++ [s.tku.nextRepeat]
  counter : t.tku.nextRepeat = nextRepeatAfter s.tku.nextRepeat
  scanner : t.tku.scanner = .tracking ∧ t.tku.coastCount = 0
  kept : t.tku.halfSeen = s.tku.halfSeen ∧ t.tku.params = s.tku.params ∧ t.tku.path = s.tku.path
  surroundings : SameSurroundings s t
  unclosed : s.tku.newest = none → t.tku.splices = s.tku.splices
  closed : ∀ old, s.tku.newest = some old → ∃ rejected,
    SpanClosed old b (sdiff p old.origin) s.tku rejected t.tku.estimate ∧
    t.tku.splices = s.tku.splices.filter (fun q => 0 ≤ (q - p).toInt) ∧
    (old ∈ s.tku.track → ∃ q ∈ t.tku.track, q.number = old.number ∧ q.length = some ⟨sdiff p old.origin, rejected⟩ ∧
      (q.splice = true ↔ old.splice = true ∨ ∃ x ∈ s.tku.splices, (x - p).toInt < 0 ∧ 0 ≤ (x - old.origin).toInt) ∧
      (q.defects.splice = true ↔ old.defects.splice = true ∨
        ∃ x ∈ s.tku.splices, (x - p).toInt < 0 ∧ 0 ≤ (x - old.origin).toInt))

theorem joinAndFit_surroundings (p : Pos) (b : Birth) (n : Nat) (s : State) :
    SameSurroundings s (fitRecord n (joinAndClose p b s)) :=
  (joinAndClose_keeps (SameSurroundings s) (fun _ _ _ _ h => h.raise _ _ _) (fun _ _ h => h.onTku _) p b s
    (.refl s)).onTku _

theorem masterRecord_of {p : Pos} {b : Birth} {s u c v t : State} (hu : WindowsWork s u)
    (hc : c = fitRecord u.tku.nextRepeat (joinAndClose p b u))
    (hv : v = { c with tku := { c.tku with scanner := .tracking, coastCount := 0 } }) (ht : WindowsWork v t) :
    MasterRecord p b s t := by
  have hcreated := fitRecord_created p b u
  have hsur : SameSurroundings s c := hu.surroundings.trans (by rw [hc]; exact joinAndFit_surroundings p b _ u)
  rw [← hc] at hcreated
  obtain ⟨g, dep, hg, hut⟩ := hu.tku
  obtain ⟨g', dep', hg', htt⟩ := ht.tku
  have hnr : u.tku.nextRepeat = s.tku.nextRepeat := by rw [hut]
  have hup : u.tku.params = s.tku.params := by rw [hut]
  have hvt : v.tku.track = c.tku.track := by rw [hv]
  have htrack : t.tku.track = c.tku.track.map g' := by rw [htt, hvt]
  have hest : t.tku.estimate = c.tku.estimate := by rw [htt, hv]
  have hspl : t.tku.splices = c.tku.splices := by rw [htt, hv]
  have husp : u.tku.splices = s.tku.splices := by rw [hut]
  obtain ⟨r, hlast, hn, ho, hco, hac, hat, hwin, hlen⟩ := hcreated.newest
  have hr := hg' r
  refine ⟨⟨g' r, ?_, hr.number.trans (hn.trans hnr), hr.origin.trans ho, hr.coasted.trans hco, hr.acquired.trans hac,
    hr.at_.trans (hat.trans (newRecord_at hu.surroundings hup (by rw [hut]) (by rw [hut]))), ?_, fun hlt => ?_⟩, ?_, ?_,
    ?_, ⟨?_, ?_, ?_⟩, ?_, fun hnone => ?_, fun old hold => ?_⟩
  · rw [htrack, List.getLast?_map, hlast]; rfl
  · rw [hr.windows, hwin, hest]
    exact windowsBy_fixed hu.surroundings.stations hup _
  · refine hr.length.trans (hlen fun x hx => ?_)
    obtain ⟨y, hy, hyn⟩ := hu.blocks x hx
    rw [hnr, ← hyn]
    exact hlt y hy
  · rw [htrack, map_number_of_kept fun x => (hg' x).number, hcreated.numbers, hut, map_number_of_kept fun x => (hg x).number]
  · rw [htt, hv, ← hnr]
    exact hcreated.counter
  · rw [htt, hv]
    exact ⟨rfl, rfl⟩
  · rw [htt, hv]
    exact hcreated.halfSeen.trans (by rw [hut])
  · rw [htt, hv]
    exact hcreated.params.trans hup
  · rw [htt, hv]
    exact hcreated.path.trans (by rw [hut])
  · refine SameSurroundings.trans ?_ ht.surroundings
    rw [hv]
    exact hsur.onTku fun t => { t with scanner := .tracking, coastCount := 0 }
  · rw [hspl, (hcreated.unclosed (hu.unwritten hnone)).1, husp]
  · obtain ⟨old', hold', hk⟩ := hu.newest old hold
    obtain ⟨rej, hspan, hsp, hq⟩ := hcreated.closed old' hold'
    refine ⟨rej, ?_, ?_, fun hmem => ?_⟩
    · rw [hest, ← hk.origin]
      have hest' : u.tku.estimate = s.tku.estimate := by rw [hut]
      refine ⟨fun hb => ?_, fun hb hc hl => ?_, fun hb hc hl => ?_⟩
      · rw [← hest']; exact hspan.coasted hb
      · rw [← hest', ← hup]; exact hspan.accepted hb (hk.coasted.trans hc) (by rw [hup]; exact hl)
      · rw [← hest']; exact hspan.refused hb (hk.coasted.trans hc) (by rw [hup]; exact hl)
    · rw [hspl, hsp, husp]
    · have hgold := hg old
      obtain ⟨q, hqm, hqn, hql, hqs, hqd⟩ := hq (g old) (by rw [hut]; exact List.mem_map_of_mem hmem)
        (hgold.number.trans hk.number.symm)
      refine ⟨g' q, by rw [htrack]; exact List.mem_map_of_mem hqm, (hg' q).number.trans (hqn.trans hgold.number), ?_, ?_, ?_⟩
      · rw [(hg' q).length, hql, hk.origin]
      · rw [(hg' q).splice, hqs, Bool.or_eq_true, spliceHits_leaving, hgold.splice, husp, hk.origin]
      · rw [(hg' q).spliceDefect, hqd, Bool.or_eq_true, spliceHits_leaving, hgold.spliceDefect, husp, hk.origin]

/-- A master-shaped mark that creates its record (R25, R26). -/
theorem createSeen_masterRecord {p : Pos} (b : Birth) {s : State} (h : s.tku.track.length < 512) :
    MasterRecord p b s (closeHeldWindows p (createSeen p b s)) := by
  rw [createSeen_room h]
  refine masterRecord_of (u := if b = .acquired then closeWindows (fun _ _ => true) s else s) ?_ rfl ?_
    (.closeHeldWindows p _)
  · split
    · exact .closeWindows _ s
    · exact .refl s
  · rw [addRecord_eq]
    split <;> rfl

/-- The statement's part of the windows. -/
theorem windowsBy_stations (s : State) (est : Int) : (s.windowsBy est).map Window.fixed =
    ((List.finRange 8).filter (fun k =>
      s.rlu.stations[k].mode = .monitor ∨ s.rlu.stations[k].mode = .auto)).map (fun k =>
        (k, (s.rlu.stations[k].params.d * est + 8 * s.tku.params.n) / (16 * s.tku.params.n),
          s.rlu.stations[k].params.w, false)) := by
  simp only [State.windowsBy, Station.isActive_iff, List.map_map]
  rfl

/-- Settles O26. -/
theorem masterMarkCreatesRecord : Obligations.MasterMarkCreatesRecord := by
  refine ⟨fun p s hw hr hp hh hne hm hwhere => ?_, fun e m f => ⟨if_pos rfl, estimatorRun_step e m,
    (estimatorRun_between e m f).1, (estimatorRun_between e m f).2⟩⟩
  obtain ⟨b, hb, hbseen, hcase⟩ : ∃ b : Birth, b = (if s.tku.scanner = .acquire then .acquired else .seen) ∧
      (s.tku.scanner = .tracking → b = .seen) ∧ ((s.tku.scanner = .acquire ∧ b = .acquired) ∨
        (s.tku.scanner = .tracking ∧ b = .seen ∧ ∃ e, s.tku.expected = some e ∧
          (p - e).toInt.natAbs ≤ s.tku.params.wMaster)) := by
    rcases hwhere with h | ⟨h, he⟩
    · exact ⟨.acquired, by rw [if_pos h], by simp [h], .inl ⟨h, rfl⟩⟩
    · exact ⟨.seen, by rw [if_neg (by simp [h])], fun _ => rfl, .inr ⟨h, rfl, he⟩⟩
  have hscan : s.tku.scanner ≠ .off := by rcases hcase with ⟨h, -⟩ | ⟨h, -⟩ <;> simp [h]
  have hx : exec .markTrailingEdge s = .next (closeHeldWindows p (createSeen p b (edgeRead s))) :=
    (execMarkTrailingEdge_ends hw hr hscan hp hh hne).trans
      (congrArg _ (settleMark_creates (s := edgeRead s) (classify_master hm) hcase))
  refine ⟨fun hlen hl => ?_, fun hlen hlt => ?_⟩
  · obtain ⟨h1, h2⟩ := latchCause_overflow (s := edgeRead s) hr hl
    have hstop : (latchCause .trackOverflow (edgeRead s)).running = false := by simp [State.running, h1]
    refine ⟨_, hx.trans (congrArg _ ?_), h1, h2⟩
    rw [createSeen_full (s := edgeRead s) hlen]
    exact if_neg (ne_true_of_eq_false hstop)
  · have hrec := createSeen_masterRecord (p := p) b (s := edgeRead s) hlen
    obtain ⟨r, hlast, hn, ho, hco, hac, hat, hwin, hnone⟩ := hrec.newest
    obtain ⟨hhalf, hparams, hpath⟩ := hrec.kept
    have hsur := hrec.surroundings
    refine ⟨_, r, hx, hlast, hrec.numbers, hn, ho, ?_, ?_, hnone hlt, hat, ?_, hrec.counter, hrec.scanner.1,
      hrec.scanner.2, hhalf, hparams, hpath, hsur.wp, hsur.lbp, hsur.batches, hsur.history, fun old hold => ?_,
      fun hempty => hrec.unclosed (List.getLast?_eq_none_iff.2 hempty), fun old hs hold hoc hl => ?_,
      fun old hs hold hoc hl => ?_⟩
    · rw [hco, hb]; split <;> rfl
    · rw [hac, hb]
      split
      next h => simp [h]
      next h => simp [h]
    · exact hwin.trans (windowsBy_stations (edgeRead s) _)
    · obtain ⟨rej, -, hsp, hq⟩ := hrec.closed old hold
      refine ⟨hsp, fun hmem => ?_⟩
      obtain ⟨q, hqm, hqn, -, hqs, hqd⟩ := hq hmem
      exact ⟨q, hqm, hqn, hqs, hqd⟩
    · obtain ⟨rej, hspan, -, hq⟩ := hrec.closed old hold
      obtain ⟨rfl, hest⟩ := hspan.accepted (hbseen hs) hoc hl
      refine ⟨hest, fun hmem => ?_⟩
      obtain ⟨q, hqm, hqn, hql, -⟩ := hq hmem
      exact ⟨q, hqm, hqn, hql⟩
    · obtain ⟨rej, hspan, -, hq⟩ := hrec.closed old hold
      obtain ⟨rfl, hest⟩ := hspan.refused (hbseen hs) hoc hl
      refine ⟨hest, fun hmem => ?_⟩
      obtain ⟨q, hqm, hqn, hql, -⟩ := hq hmem
      exact ⟨q, hqm, hqn, hql⟩

end Sys2Proof.Machine
end

section
/-! What a crossing leaves: the consumers of the three points keep the records' places, the cursors, the counter and
the lanes' parameters (R41, R42). -/

namespace Sys2Proof.Machine

/-- What a consumer leaves of a record it is handed. -/
structure RecordPlaced (r q : RepeatRecord) : Prop where
  number : q.number = r.number
  origin : q.origin = r.origin
  coasted : q.coasted = r.coasted
  at_ : q.at_ = r.at_
  windows : q.windows = r.windows

/-- What a consumer leaves of the part. -/
structure CrossKept (s t : State) : Prop where
  wp : t.wtb.wp = s.wtb.wp
  newWeb : t.wtb.newWeb = s.wtb.newWeb
  lanes : ∀ l, (t.lane l).params = (s.lane l).params
  emboss : t.epu.params = s.epu.params
  tku : ∃ g, (∀ r, RecordPlaced r (g r)) ∧ t.tku = { s.tku with track := s.tku.track.map g }

section
variable {s t : State}

theorem CrossKept.refl (s : State) : CrossKept s s :=
  ⟨rfl, rfl, fun _ => rfl, rfl, id, fun _ => ⟨rfl, rfl, rfl, rfl, rfl⟩, by rw [List.map_id]⟩

/-- A step beside the track and the lanes. -/
theorem CrossKept.of_eq {u : State} (h : CrossKept s t) (hw : u.wtb = t.wtb := by rfl) (ht : u.tku = t.tku := by rfl)
    (hl : ∀ l, (u.lane l).params = (t.lane l).params := by exact fun _ => rfl) (he : u.epu = t.epu := by rfl) :
    CrossKept s u :=
  ⟨by rw [hw]; exact h.wp, by rw [hw]; exact h.newWeb, fun l => (hl l).trans (h.lanes l), by rw [he]; exact h.emboss,
    by rw [ht]; exact h.tku⟩

theorem CrossKept.raise (h : CrossKept s t) (ev : Event) (p1 p2 : Nat) : CrossKept s (raise ev p1 p2 t) :=
  ⟨(raise_wtb_wp ..).trans h.wp, (raise_wtb_newWeb ..).trans h.newWeb,
    fun l => (raise_lane_params ..).trans (h.lanes l), (raise_epu_params ..).trans h.emboss, by rw [raise_tku]; exact h.tku⟩

theorem CrossKept.onSmu (h : CrossKept s t) (f : Smu → Smu) : CrossKept s (t.onSmu f) := h.of_eq

theorem CrossKept.onLane (h : CrossKept s t) (l : Lane) (f : LaneControl → LaneControl)
    (hf : ∀ k, (f k).params = k.params := by exact fun _ => rfl) : CrossKept s (t.onLane l f) := by
  refine h.of_eq (hl := fun m => ?_)
  by_cases hm : m = l
  · rw [hm, State.lane_onLane_same, hf]
  · rw [State.lane_onLane_ne t f hm]

theorem CrossKept.onRecord (h : CrossKept s t) (n : Nat) (f : RepeatRecord → RepeatRecord)
    (hf : ∀ r, RecordPlaced r (f r) := by exact fun _ => ⟨rfl, rfl, rfl, rfl, rfl⟩) :
    CrossKept s (t.onTku (fun x => x.onRecord n f)) := by
  obtain ⟨g, hg, ht⟩ := h.tku
  refine ⟨h.wp, h.newWeb, h.lanes, h.emboss, fun r => if (g r).number = n then f (g r) else g r, fun r => ?_, ?_⟩
  · obtain ⟨h1, h2, h3, h4, h5⟩ := hg r
    dsimp only
    split
    · obtain ⟨f1, f2, f3, f4, f5⟩ := hf (g r)
      exact ⟨f1.trans h1, f2.trans h2, f3.trans h3, f4.trans h4, f5.trans h5⟩
    · exact ⟨h1, h2, h3, h4, h5⟩
  · rw [State.onTku_tku, Tku.onRecord, ht, List.map_map]
    rfl

/-! ### The lanes' work at a knife (R129 to R136) -/

theorem CrossKept.finalise (h : CrossKept s t) (how : Closing) (l : Lane) (r : OpenRoll) (x : Pos) :
    CrossKept s (finalise how l r x t) :=
  finalise_keeps (P := CrossKept s) (fun _ _ _ _ h => h.raise _ _ _) (fun _ _ h => h.of_eq)
    (fun _ _ h => h.of_eq (hl := fun l => by cases l <;> rfl)) (fun _ _ h => h.of_eq) how l r x t h

theorem CrossKept.openRoll (h : CrossKept s t) (l : Lane) (x : Pos) : CrossKept s (openRoll l x t) := by
  unfold Machine.openRoll
  refine CrossKept.onLane ?_ l _
  exact h.of_eq (hl := fun l => by cases l <;> rfl)

theorem CrossKept.fireCut (h : CrossKept s t) (l : Lane) (c : ArmedCut) : CrossKept s (fireCut l c t) := by
  have hf : CrossKept s (t.onLane l (fun k => { k with
      pulses := k.pulses + 1, turret := some k.params.turretTimeout, cut := none, state := .indexing })) :=
    h.onLane l _
  unfold Machine.fireCut
  dsimp only
  split
  · exact ((hf.openRoll _ _).raise _ _ _).finalise _ _ _ _
  · exact (hf.openRoll _ _).raise _ _ _

theorem CrossKept.deferRoll (h : CrossKept s t) (l : Lane) (r : OpenRoll) : CrossKept s (deferRoll l r t) := by
  have hd : CrossKept s (Machine.raise .cutDeferred l.code r.number
      (t.onLane l (fun k => { k.wait with roll := some { r with deferrals := satInc 255 r.deferrals } }))) :=
    (h.onLane l _).raise _ _ _
  unfold Machine.deferRoll
  dsimp only
  split
  · exact (hd.onLane l _).raise _ _ _
  · exact hd

theorem CrossKept.attemptCut (h : CrossKept s t) (l : Lane) (winder : Bool) : CrossKept s (attemptCut l winder t) := by
  unfold Machine.attemptCut
  split
  · exact h
  · split
    · exact h.fireCut _ _
    · split
      · exact h.deferRoll _ _
      · exact (h.onLane l _).raise _ _ _

theorem CrossKept.armCut (h : CrossKept s t) (l : Lane) (n : Nat) (x : Pos) (winder : Bool) :
    CrossKept s (armCut l n x winder t) := by
  have ha : CrossKept s (t.onLane l (fun k => { k with cut := some (t.cutAt l n x) })) := h.onLane l _
  unfold Machine.armCut
  dsimp only
  split
  · split
    · exact CrossKept.attemptCut (ha.onLane l _) _ _
    · exact ha.attemptCut _ _
  · exact ha

theorem CrossKept.countRecord (h : CrossKept s t) (l : Lane) (r : RepeatRecord) : CrossKept s (countRecord l r t) := by
  unfold Machine.countRecord
  split
  · exact h
  · refine CrossKept.onRecord (h.onLane l _) _ _ fun x => ?_
    cases l <;> exact ⟨rfl, rfl, rfl, rfl, rfl⟩

theorem CrossKept.cutRecordTest (h : CrossKept s t) (l : Lane) (r : RepeatRecord) (winder : Bool) :
    CrossKept s (cutRecordTest l r winder t) := by
  unfold Machine.cutRecordTest
  split
  · split
    · exact h.attemptCut _ _
    · exact h
  · exact h

theorem CrossKept.rearm (h : CrossKept s t) (l : Lane) (r : RepeatRecord) (winder : Bool) :
    CrossKept s (rearm l r winder t) := by
  unfold Machine.rearm
  split
  · split
    · split
      · exact h.armCut _ _ _ _
      · exact h.onLane l _
    · exact h
  · exact h

theorem CrossKept.armingTest (h : CrossKept s t) (l : Lane) (r : RepeatRecord) (winder : Bool) :
    CrossKept s (armingTest l r winder t) := by
  unfold Machine.armingTest
  split
  · split
    · exact CrossKept.armCut (h.onLane l _) _ _ _ _
    · exact h
  · exact h

theorem CrossKept.leaderArming (h : CrossKept s t) (l : Lane) (r : RepeatRecord) (winder : Bool) :
    CrossKept s (leaderArming l r winder t) := by
  unfold Machine.leaderArming
  split
  · exact h
  · exact h.armCut _ _ _ _

theorem CrossKept.laneCrossing (h : CrossKept s t) (l : Lane) (r : RepeatRecord) (winder : Bool) :
    CrossKept s (laneCrossing l r winder t) := by
  unfold Machine.laneCrossing
  split
  case h_1 => exact h
  case h_2 =>
    split
    · exact h.leaderArming _ _ _
    · dsimp only
      split
      · exact (h.cutRecordTest _ _ _).rearm _ _ _
      · exact (h.cutRecordTest _ _ _).countRecord _ _
  case h_3 => exact (h.countRecord _ _).armingTest _ _ _
  case h_4 => exact ((h.cutRecordTest _ _ _).countRecord _ _).rearm _ _ _
  case h_5 => exact h.countRecord _ _

theorem CrossKept.knifeCrossing (h : CrossKept s t) (l : Lane) (r : RepeatRecord) (winder : Bool) :
    CrossKept s (knifeCrossing l r winder t) := by
  unfold Machine.knifeCrossing
  dsimp only
  split
  · exact (h.laneCrossing _ _ _).raise _ _ _
  · exact h.laneCrossing _ _ _

/-! ### The measurement unit's work at a knife (R100, R115) -/

theorem CrossKept.offerResult (h : CrossKept s t) (r : SpotResult) : CrossKept s (offerResult r t) :=
  offerResult_keeps (CrossKept s) (fun _ _ _ _ h => h.raise _ _ _) (fun _ _ h => h.onSmu _) r t h

theorem CrossKept.missAll (h : CrossKept s t) (p : SpotContext → Bool) : CrossKept s (missAll p t) :=
  missPending_keeps (CrossKept s) p (fun _ _ _ h => (h.onSmu _).offerResult _) _ t h

theorem CrossKept.pushReply (h : CrossKept s t) (r : Reply) : CrossKept s (pushReply r t) :=
  h.of_eq (by simp) (by simp) (fun l => by simp [State.lane]) (by simp)

theorem CrossKept.abandonSpotIf (h : CrossKept s t) (p : SpotContext → Bool) : CrossKept s (abandonSpotIf p t) := by
  obtain he | ⟨c, -, -, he⟩ := abandonSpotIf_cases p t
  · rwa [he]
  · rw [he]
    exact abandonSpot_keeps (fun _ _ _ _ h => h.raise _ _ _) (fun _ _ _ h => h.onSmu _) (fun _ h => h.onSmu _)
      (fun _ _ h => h.pushReply _) c t h

theorem CrossKept.applyStaged (h : CrossKept s t) (i : Fin 6) : CrossKept s (applyStaged i t) := by
  unfold Machine.applyStaged
  split
  · exact h
  · exact h.onSmu _

theorem CrossKept.cutScanShort (h : CrossKept s t) (n : Nat) : CrossKept s (cutScanShort n t) := by
  have hdrop : ∀ {t}, CrossKept s t → CrossKept s (dropScanMeasurement t) := fun {t} h => by
    unfold dropScanMeasurement
    split
    · split
      · exact CrossKept.applyStaged (h.onSmu _) _
      · exact h
      · exact h
    · exact h
  have hfold : ∀ (b : Bool) (cs : List Scan) (t : State), CrossKept s t →
      CrossKept s (cs.foldl (fun t c => raiseOverrun c (c.leftSlots b t.smu) t) t) := by
    intro b cs
    induction cs with
    | nil => exact fun t ht => ht
    | cons c cs ih =>
      intro t ht
      refine ih _ ?_
      unfold raiseOverrun
      dsimp only
      split
      · exact ht.raise _ _ _
      · exact ht
  unfold Machine.cutScanShort
  dsimp only
  refine hfold _ _ _ (CrossKept.onSmu ?_ _)
  split
  · exact hdrop h
  · exact h

theorem CrossKept.shadeAtKnife (h : CrossKept s t) (n : Nat) : CrossKept s (shadeAtKnife n t) :=
  ((h.missAll _).abandonSpotIf _).cutScanShort _

/-! ### The consumers (R42) -/

theorem CrossKept.shadeCrossing (h : CrossKept s t) (n : Nat) : CrossKept s (shadeCrossing n t) := by
  have hb : CrossKept s (bindSpots n t) := h.onSmu _
  have hs : ∀ {t}, CrossKept s t → CrossKept s (settleScan t) := fun {t} h => by
    unfold settleScan
    split
    · exact h
    · split
      · exact h.onSmu _
      · unfold raiseOverrun
        split
        · exact CrossKept.raise (h.onSmu _) _ _ _
        · exact h.onSmu _
  unfold Machine.shadeCrossing
  dsimp only
  split
  · exact hb
  · exact CrossKept.onSmu ((hs hb).onRecord _ _) _

theorem handOff_kept (p : Point) (n : Nat) (winder : Bool) (s : State) : CrossKept s (handOff p n winder s) := by
  match p with
  | .emboss => exact (CrossKept.refl s).onRecord _ _
  | .shade => exact (CrossKept.refl s).shadeCrossing n
  | .knife l =>
    simp only [handOff, knifePoint]
    split
    · exact ((CrossKept.refl s).shadeAtKnife n).knifeCrossing _ _ _
    · exact (CrossKept.refl s).shadeAtKnife n

end

end Sys2Proof.Machine
end

section
/-! Crossings run dry and records retire (R41 to R43), and what a knife crossing ends in the measurement unit (R100,
R115). -/

namespace Sys2Proof.Machine

/-! ### Cursors -/

theorem Cursors.get_put_same (c : Cursors) (p : Point) (n : Option Nat) : (c.put p n).get p = n := by
  match p with
  | .emboss | .shade | .knife .a | .knife .b => rfl

theorem Cursors.get_put_ne (c : Cursors) {p q : Point} (n : Option Nat) (h : q ≠ p) : (c.put p n).get q = c.get q := by
  match p, q with
  | .emboss, .emboss | .shade, .shade | .knife .a, .knife .a | .knife .b, .knife .b => exact absurd rfl h
  | .emboss, .shade | .emboss, .knife .a | .emboss, .knife .b | .shade, .emboss | .shade, .knife .a
  | .shade, .knife .b | .knife .a, .emboss | .knife .a, .shade | .knife .a, .knife .b | .knife .b, .emboss
  | .knife .b, .shade | .knife .b, .knife .a => rfl

/-- Where a cursor moves depends on the numbers of the track alone. -/
theorem Tku.after_eq (t : Tku) (n : Nat) : t.after n = (t.track.map (·.number)).find? (fun m => decide (n < m)) := by
  rw [Tku.after, List.find?_map]
  rfl

theorem State.pastKnife_iff {s : State} {l : Lane} {n : Nat} : s.pastKnife l n = true ↔
    (s.lane l).params.enabled = false ∨ ∀ m, s.tku.cursors.get (.knife l) = some m → n < m := by
  unfold State.pastKnife
  cases h : s.tku.cursors.get (.knife l) <;> simp [State.pointEnabled]

/-! ### One crossing (R41 to R43) -/

/-- The part as a record has been handed to a consumer and the cursor has moved. -/
def handedOn (p : Point) (n : Nat) (winder : Bool) (s : State) : State := moveCursor p n (handOff p n winder s)

section
variable (p : Point) (n : Nat) (winder : Bool) (s : State)

theorem handedOn_kept : ∃ g, (∀ r, RecordPlaced r (g r)) ∧ (handedOn p n winder s).tku = { s.tku with
    track := s.tku.track.map g, cursors := s.tku.cursors.put p (s.tku.after n) } := by
  obtain ⟨g, hg, ht⟩ := (handOff_kept p n winder s).tku
  have ha : (handOff p n winder s).tku.after n = s.tku.after n := by
    rw [Tku.after_eq, Tku.after_eq, ht, map_number_of_kept fun r => (hg r).number]
  refine ⟨g, hg, ?_⟩
  rw [handedOn, moveCursor, State.onTku_tku, ha, ht]

theorem handedOn_lanes (l : Lane) : ((handedOn p n winder s).lane l).params = (s.lane l).params :=
  (handOff_kept p n winder s).lanes l

theorem handedOn_numbers : (handedOn p n winder s).tku.track.map (·.number) = s.tku.track.map (·.number) := by
  obtain ⟨g, hg, ht⟩ := handedOn_kept p n winder s
  rw [ht, map_number_of_kept fun r => (hg r).number]

theorem handedOn_after : (handedOn p n winder s).tku.after n = s.tku.after n := by
  rw [Tku.after_eq, Tku.after_eq, handedOn_numbers]

theorem handedOn_cursor : (handedOn p n winder s).tku.cursors.get p = s.tku.after n := by
  obtain ⟨g, -, ht⟩ := handedOn_kept p n winder s
  rw [ht]
  exact Cursors.get_put_same ..

theorem handedOn_cursor_ne {q : Point} (h : q ≠ p) :
    (handedOn p n winder s).tku.cursors.get q = s.tku.cursors.get q := by
  obtain ⟨g, -, ht⟩ := handedOn_kept p n winder s
  rw [ht]
  exact Cursors.get_put_ne _ _ h

/-- The knife that a record has just crossed does not hold it on the track (R43). -/
theorem handedOn_pastKnife (l : Lane) : (handedOn (.knife l) n winder s).pastKnife l n = true :=
  State.pastKnife_iff.2 (.inr fun _ hm => Tku.after_gt ((handedOn_cursor (.knife l) n winder s).symm.trans hm))

theorem crossOne_beside (h : p = .emboss ∨ p = .shade) : crossOne p n winder s = handedOn p n winder s := by
  rcases h with rfl | rfl <;> rfl

theorem crossOne_stays {l : Lane} (h : (handedOn (.knife l) n winder s).pastKnife (otherLane l) n = false) :
    crossOne (.knife l) n winder s = handedOn (.knife l) n winder s := by
  refine if_neg ?_
  cases l <;> simp only [otherLane, handedOn] at h <;> simp [h]

theorem crossOne_retires {l : Lane} (h : (handedOn (.knife l) n winder s).pastKnife (otherLane l) n = true) :
    crossOne (.knife l) n winder s = (handedOn (.knife l) n winder s).onTku (fun t => t.release n) := by
  refine if_pos ?_
  have hl := handedOn_pastKnife n winder s l
  cases l <;> simp only [otherLane, handedOn] at h hl <;> simp [h, hl]

/-- All that a crossing can do after the hand-off. -/
theorem crossOne_cases : crossOne p n winder s = handedOn p n winder s ∨
    crossOne p n winder s = (handedOn p n winder s).onTku (fun t => t.release n) := by
  match p with
  | .emboss => exact .inl (crossOne_beside _ n winder s (.inl rfl))
  | .shade => exact .inl (crossOne_beside _ n winder s (.inr rfl))
  | .knife l =>
    cases h : (handedOn (.knife l) n winder s).pastKnife (otherLane l) n with
    | false => exact .inl (crossOne_stays n winder s h)
    | true => exact .inr (crossOne_retires n winder s h)

theorem crossOne_cursor : (crossOne p n winder s).tku.cursors.get p = s.tku.after n := by
  obtain h | h := crossOne_cases p n winder s
  · rw [h, handedOn_cursor]
  · rw [h, State.onTku_tku, Tku.release_cursors, Cursors.get_leave, handedOn_cursor, handedOn_after, ite_self]

theorem crossOne_numbers : ((crossOne p n winder s).tku.track.map (·.number)).Sublist (s.tku.track.map (·.number)) := by
  obtain h | h := crossOne_cases p n winder s
  · rw [h, handedOn_numbers]
  · rw [h, State.onTku_tku, Tku.release_track, ← handedOn_numbers p n winder s]
    exact (List.filter_sublist).map _

theorem crossOne_parts : (crossOne p n winder s).wtb.newWeb = s.wtb.newWeb ∧
    ∀ q, (crossOne p n winder s).pointEnabled q = s.pointEnabled q := by
  have hk := handOff_kept p n winder s
  have hq : ∀ q, (handOff p n winder s).pointEnabled q = s.pointEnabled q := by
    intro q
    match q with
    | .emboss => exact congrArg EmbossParams.configured hk.emboss
    | .shade => rfl
    | .knife l => exact congrArg LaneParams.enabled (hk.lanes l)
  obtain h | h := crossOne_cases p n winder s <;> rw [h] <;> exact ⟨hk.newWeb, hq⟩

end

/-! ### The crossings run dry (R41) -/

/-- The records a point still has before it. -/
def State.ahead (s : State) (p : Point) : Nat :=
  ((s.tku.cursors.get p).map (fun n => (s.tku.track.map (·.number)).countP (fun m => decide (n ≤ m)))).getD 0

theorem State.ahead_le (s : State) (p : Point) : s.ahead p ≤ s.tku.track.length := by
  unfold State.ahead
  cases s.tku.cursors.get p with
  | none => exact Nat.zero_le _
  | some n => exact List.countP_le_length.trans_eq (List.length_map _)

/-- Each crossing leaves fewer records before the point. -/
theorem crossOne_ahead {p : Point} {n : Nat} {s : State} (winder : Bool) (h : s.crossingDue p = some n) :
    (crossOne p n winder s).ahead p < s.ahead p := by
  obtain ⟨hc, r, hr, -⟩ := crossingDue_eq_some.1 h
  obtain ⟨hmem, hn⟩ := record?_eq_some hr
  have hin : n ∈ s.tku.track.map (·.number) := List.mem_map.2 ⟨r, hmem, hn⟩
  have hlt : ∀ l : List Nat, n ∈ l → l.countP (fun m => decide (n < m)) < l.countP (fun m => decide (n ≤ m)) := by
    intro l hl
    induction l with
    | nil => simp at hl
    | cons x l ih =>
      have hle : l.countP (fun m => decide (n < m)) ≤ l.countP (fun m => decide (n ≤ m)) :=
        List.countP_mono_left fun m _ hm => by simp only [decide_eq_true_eq] at hm ⊢; omega
      simp only [List.countP_cons, decide_eq_true_eq]
      obtain rfl | hl := List.mem_cons.1 hl
      · simp only [lt_irrefl, if_false, le_refl, if_true]
        omega
      · have := ih hl
        split <;> split <;> omega
  have hs : s.ahead p = (s.tku.track.map (·.number)).countP (fun m => decide (n ≤ m)) := by simp [State.ahead, hc]
  rw [hs]
  refine Nat.lt_of_le_of_lt ?_ (hlt _ hin)
  rw [State.ahead, crossOne_cursor]
  cases ha : s.tku.after n with
  | none => exact Nat.zero_le _
  | some m =>
    have hm := Tku.after_gt ha
    refine ((crossOne_numbers p n winder s).countP_le (p := fun x => decide (m ≤ x))).trans ?_
    exact List.countP_mono_left fun x _ hx => by simp only [decide_eq_true_eq] at hx ⊢; omega

theorem crossAll_none {p : Point} {winder : Bool} {fuel : Nat} {s : State} (h : s.crossingDue p = none) :
    crossAll p winder fuel s = s := by
  cases fuel with
  | zero => rfl
  | succ fuel => simp only [crossAll, h]

/-- With a step for each record before the point, every due crossing is made. -/
theorem crossAll_dry {p : Point} {winder : Bool} (fuel : Nat) {s : State} (h : s.ahead p ≤ fuel) :
    (crossAll p winder fuel s).crossingDue p = none ∧
      ∀ fuel', s.ahead p ≤ fuel' → crossAll p winder fuel' s = crossAll p winder fuel s := by
  induction fuel generalizing s with
  | zero =>
    have hd : s.crossingDue p = none := by
      cases hd : s.crossingDue p with
      | none => rfl
      | some n => exact absurd (crossOne_ahead winder hd) (by omega)
    exact ⟨hd, fun fuel' _ => crossAll_none hd⟩
  | succ fuel ih =>
    cases hd : s.crossingDue p with
    | none => exact ⟨by rw [crossAll_none hd, hd], fun fuel' _ => by rw [crossAll_none hd, crossAll_none hd]⟩
    | some n =>
      have hlt := crossOne_ahead winder hd
      obtain ⟨h1, h2⟩ := ih (s := crossOne p n winder s) (by omega)
      rw [crossAll_due hd]
      refine ⟨h1, fun fuel' hf => ?_⟩
      obtain ⟨k, rfl⟩ : ∃ k, fuel' = k + 1 := ⟨fuel' - 1, by omega⟩
      rw [crossAll_due hd]
      exact h2 k (by omega)

theorem execPointCrossing_none {p : Point} {winder : Bool} {s : State}
    (h : s.wtb.newWeb = false ∨ s.running = false ∨ s.pointEnabled p = false) :
    execPointCrossing p winder s = .next s := by
  refine congrArg _ (if_neg fun ⟨ha, hp⟩ => ?_)
  obtain ⟨hn, hr⟩ := Bool.and_eq_true_iff.1 ha
  rcases h with h | h | h
  · exact absurd hn (ne_true_of_eq_false h)
  · exact absurd hr (ne_true_of_eq_false h)
  · exact absurd hp (ne_true_of_eq_false h)

/-! ### The expected origin and the mark blocks of a record that leaves (R26, R32) -/

/-- The record that leaves is the oldest: the newest stands where it did. -/
theorem filter_oldest {t : List RepeatRecord} {n : Nat} (hs : t.Pairwise (fun a b => a.number < b.number))
    (ho : ∀ r ∈ t, n ≤ r.number) : t.filter (fun r => r.number == n) ++ t.filter (fun r => r.number != n) = t := by
  cases t with
  | nil => rfl
  | cons r t =>
    obtain ⟨hr, -⟩ := List.pairwise_cons.1 hs
    have hrest : ∀ x ∈ t, x.number ≠ n := fun x hx => by
      have h1 := hr x hx
      have h2 := ho r List.mem_cons_self
      omega
    have h1 : t.filter (fun r => r.number == n) = [] := List.filter_eq_nil_iff.2 fun x hx => by simpa using hrest x hx
    have h2 : t.filter (fun r => r.number != n) = t := List.filter_eq_self.2 fun x hx => by simpa using hrest x hx
    by_cases h : r.number = n <;> simp [h, h1, h2]

theorem release_newest {t : Tku} {n : Nat} (hs : t.track.Pairwise (fun a b => a.number < b.number))
    (ho : ∀ r ∈ t.track, n ≤ r.number) : (t.release n).newest = t.newest := by
  rw [Tku.release, Tku.forget_newest]
  show ((t.departed ++ t.track.filter (fun r => r.number == n)) ++ t.track.filter (fun r => r.number != n)).getLast? = _
  rw [List.append_assoc, filter_oldest hs ho]
  rfl

end Sys2Proof.Machine
end

section
/-! What a knife crossing ends in the measurement unit (R100, R115), and the crossings' statement. -/

namespace Sys2Proof.Machine

/-! ### Contexts that an occurrence's route adds serve no record yet (R110, R178) -/

/-- A context serves the record of a repeat number (R112). -/
def SpotContext.ofRecord (n : Nat) (c : SpotContext) : Bool := c.serves == some n

theorem SpotContext.ofRecord_iff {n : Nat} {c : SpotContext} : c.ofRecord n = true ↔
    c.target = .number n ∨ (c.target = .next ∧ c.bound = some n) := by
  unfold SpotContext.ofRecord SpotContext.serves
  cases h : c.target <;> simp

theorem SpotContext.copyFor_ofRecord (n : Nat) (c : SpotContext) (src : SpotSource) :
    (c.copyFor src).ofRecord n = false := by
  rw [SpotContext.copyFor_eq]
  unfold SpotContext.ofRecord SpotContext.serves
  by_cases h : c.target = .immediate <;> simp [h]

theorem templateContext_ofRecord {n : Nat} {t : SpotTemplate} {slot : Fin 4} {c : SpotContext}
    (h : templateContext t slot = some c) : c.ofRecord n = false := by
  obtain ⟨i, -, rfl⟩ := Option.map_eq_some_iff.1 h
  rfl

theorem joinSpot_ofRecord {n : Nat} {c : SpotContext} (h : c.ofRecord n = false) (s : State) :
    (joinSpot c s).smu.contexts.filter (·.ofRecord n) = s.smu.contexts.filter (·.ofRecord n) := by
  show (s.smu.contexts ++ [c]).filter (·.ofRecord n) = _
  rw [List.filter_append, List.filter_singleton, h]
  exact List.append_nil _

theorem spotTrigger_ofRecord (n : Nat) (src : SpotSource) (s : State) :
    (spotTrigger src s).smu.contexts.filter (·.ofRecord n) = s.smu.contexts.filter (·.ofRecord n) := by
  unfold spotTrigger
  split
  · exact joinSpot_ofRecord (SpotContext.copyFor_ofRecord n _ src) s
  · rfl
  · rfl

theorem runAction_ofRecord (n : Nat) (slot : Fin 4) (a : RouteAction) (lanes : List Lane) (s : State) :
    (runAction slot a lanes s).state.smu.contexts.filter (·.ofRecord n) = s.smu.contexts.filter (·.ofRecord n) := by
  have hsmu : ∀ t : State, t.smu = s.smu →
      t.smu.contexts.filter (·.ofRecord n) = s.smu.contexts.filter (·.ofRecord n) := fun t h => by rw [h]
  cases a with
  | spot t =>
    cases t with
    | none => exact spotTrigger_ofRecord n _ s
    | some t =>
      simp only [runAction]
      split
      next c _ hc => exact joinSpot_ofRecord (templateContext_ofRecord hc) s
      next => rfl
  | cut t =>
    cases t with
    | lane l => exact hsmu _ (cutLane_smu l s)
    | event =>
      refine hsmu _ ?_
      show (lanes.foldl (fun t l => cutLane l t) s).smu = s.smu
      obtain ⟨a, b, h⟩ := foldl_cutLane_lanes lanes s
      rw [h]
  | holdLine =>
    simp only [runAction]
    split
    · exact hsmu _ (enterHold_smu ..)
    all_goals rfl
  | releaseEmboss =>
    simp only [runAction]
    split
    · exact hsmu _ (releaseEmboss_smu s)
    · exact hsmu _ (releaseEmboss_smu s)
    all_goals rfl
  | newBatch => rfl

/-- No occurrence changes which contexts serve a record. -/
theorem raise_ofRecord (n : Nat) (ev : Event) (p1 p2 : Nat) (s : State) :
    (raise ev p1 p2 s).smu.contexts.filter (·.ofRecord n) = s.smu.contexts.filter (·.ofRecord n) := by
  unfold raise
  split
  · rw [notice_smu]
  next slot r _ =>
    dsimp only
    split
    · unfold finishAction
      dsimp only
      split
      · rw [noticeLineState_smu, countRoute_smu]
        exact runAction_ofRecord ..
      · rw [countRoute_smu]
        exact runAction_ofRecord ..
    · rw [notice_smu]
      exact runAction_ofRecord ..

theorem offerResult_ofRecord (n : Nat) (r : SpotResult) (s : State) :
    (offerResult r s).smu.contexts.filter (·.ofRecord n) = s.smu.contexts.filter (·.ofRecord n) :=
  offerResult_keeps (fun t => t.smu.contexts.filter (·.ofRecord n) = s.smu.contexts.filter (·.ofRecord n))
    (fun _ _ _ _ h => (raise_ofRecord ..).trans h) (fun _ _ h => h) r s rfl

theorem offerResult_smu_overrun (r : SpotResult) (s : State) : (offerResult r s).smu.overrun = s.smu.overrun :=
  offerResult_keeps (fun t => t.smu.overrun = s.smu.overrun) (fun _ _ _ _ h => (raise_smu_overrun ..).trans h)
    (fun _ _ h => h) r s rfl

/-! ### The spots of the record (R115) -/

theorem missPending_none {p : SpotContext → Bool} {fuel : Nat} {s : State} (h : s.smu.contexts.filter p = []) :
    missPending p fuel s = s := by
  cases fuel with
  | zero => rfl
  | succ fuel => simp only [missPending, takeFirst_none.2 h]

/-- The one pending spot of a record ends MISSED. -/
theorem missAll_one {n : Nat} {before after : List SpotContext} {c : SpotContext} {s : State}
    (hs : s.smu.contexts = before ++ c :: after) (hc : c.ofRecord n = true)
    (hrest : ∀ x ∈ before ++ after, x.ofRecord n = false) : missAll (·.ofRecord n) s =
      offerResult (c.resultOf .missed) { s with smu := s.smu.consume c (before ++ after) } := by
  have hlen : s.smu.contexts.length = before.length + after.length + 1 := by
    rw [hs, List.length_append, List.length_cons]; omega
  have htake : takeFirst (·.ofRecord n) s.smu.contexts = some (c, before ++ after) := by
    rw [hs]
    exact takeFirst_of_split (fun x hx => hrest x (List.mem_append_left _ hx)) hc
  rw [missAll, hlen, missPending, htake]
  refine missPending_none ?_
  rw [endSpot, offerResult_ofRecord]
  exact List.filter_eq_nil_iff.2 fun x hx => ne_true_of_eq_false (hrest x hx)

/-! ### The scan of the record (R100) -/

section
variable {n : Nat} {s : State}

theorem measures_eq_false (h : ∀ b pos, s.smu.bus = some b → b.user ≠ .scan n pos) : s.smu.measures n = false := by
  unfold Smu.measures
  split
  next b hb =>
    split
    next r pos hu => exact decide_eq_false fun hr => h b pos hb (hr ▸ hu)
    all_goals rfl
  next => rfl

theorem filter_other {o : Option Scan} (h : ∀ c, o = some c → c.record ≠ n) :
    o.filter (fun c => c.record != n) = o ∧ o.toList.filter (fun c => c.record == n) = [] := by
  cases o with
  | none => exact ⟨rfl, rfl⟩
  | some c => simp [Option.filter, h c rfl]

/-- A knife crossing of a record without head work of its own. -/
theorem cutScanShort_none (h1 : ∀ c, s.smu.scan = some c → c.record ≠ n) (h2 : ∀ c, s.smu.overrun = some c → c.record ≠ n)
    (h3 : ∀ b pos, s.smu.bus = some b → b.user ≠ .scan n pos) : cutScanShort n s = s := by
  have hscans : ([s.smu.scan, s.smu.overrun].filterMap id).filter (fun c => c.record == n) = [] := by
    have ha := (filter_other h1).2
    have hb := (filter_other h2).2
    cases hs : s.smu.scan <;> cases ho : s.smu.overrun <;> simp_all
  simp only [cutScanShort, measures_eq_false h3, hscans, Bool.false_eq_true, if_false, List.foldl_nil, State.onSmu,
    (filter_other h1).1, (filter_other h2).1]

/-- The scan that a knife crossing cuts short, whether or not its measurement runs. -/
theorem cutScanShort_some {c : Scan} {slot : Fin 6} (hc : s.smu.scan = some c) (hn : c.record = n)
    (h2 : ∀ c, s.smu.overrun = some c → c.record ≠ n) {b : Bool} (hb : s.smu.measures n = b) {t : State}
    (ht : t = { (if b then dropScanMeasurement s else s) with smu := {
      (if b then dropScanMeasurement s else s).smu with scan := none } })
    (ho : t.smu.overrun = s.smu.overrun) (hp : t.smu.params = s.smu.params) (hpt : t.smu.pointer = s.smu.pointer)
    (hscan : (if b then dropScanMeasurement s else s).smu.scan = some c)
    (hslot : s.smu.params.scanList[s.smu.pointer - 1]? = some slot) : cutScanShort n s =
      if c.completed + (if b then 1 else 0) < c.nscan ∧ c.visited < s.smu.params.scanList.length then
        raise .scanOverrun slot.val n t else t := by
  have hscans : ([s.smu.scan, s.smu.overrun].filterMap id).filter (fun c => c.record == n) = [c] := by
    have hb := (filter_other h2).2
    cases ho : s.smu.overrun <;> simp_all
  have hkeep : (some c).filter (fun c : Scan => c.record != n) = none := by simp [Option.filter, hn]
  have hover : ∀ u : State, u.smu.overrun = s.smu.overrun → u.smu.overrun.filter (fun c => c.record != n) = u.smu.overrun :=
    fun u hu => by rw [hu]; exact (filter_other h2).1
  have hst : t.smu.slotAtPointer = slot.val := by
    show ((t.smu.params.scanList[t.smu.pointer - 1]?).map Fin.val).getD 0 = slot.val
    rw [hp, hpt, hslot]
    rfl
  have hu : (if b then dropScanMeasurement s else s).smu.overrun = s.smu.overrun := by rw [← ho, ht]
  have hx : cutScanShort n s = raiseOverrun c (c.leftSlots b t.smu) t := by
    simp only [cutScanShort, hb, hscans, List.foldl_cons, List.foldl_nil, State.onSmu, hscan, hkeep, hover _ hu, ← ht]
  rw [hx, raiseOverrun, hst, hn]
  refine if_congr ?_ rfl rfl
  simp [Scan.leftSlots, hp]

end

end Sys2Proof.Machine
end

section
/-! Crossings run dry, end the head work of a record at its knife, and let it leave (R41 to R43, R100, R115). -/

namespace Sys2Proof.Machine

section
variable {n : Nat} {s : State}

theorem shadeAtKnife_eq (n : Nat) (s : State) : shadeAtKnife n s =
    cutScanShort n (abandonSpotIf (·.ofRecord n) (missAll (·.ofRecord n) s)) := rfl

theorem missAll_unserved (h : ∀ c ∈ s.smu.contexts, c.ofRecord n = false) : missAll (·.ofRecord n) s = s :=
  missAll_none (List.filter_eq_nil_iff.2 fun x hx => ne_true_of_eq_false (h x hx))

theorem abandonSpotIf_unserved (h : ∀ c, s.smu.spotInProgress = some c → c.ofRecord n = false) :
    abandonSpotIf (·.ofRecord n) s = s := by
  cases hc : s.smu.spotInProgress with
  | none => exact abandonSpotIf_none hc
  | some c => exact abandonSpotIf_false hc (h c hc)

end

/-! ### A record that leaves, or stays (R41, R43) -/

section
variable {l : Lane} {n : Nat} {winder : Bool} {s : State}

/-- The other knife lets the record go, or holds it. -/
theorem handedOn_otherKnife : (handedOn (.knife l) n winder s).pastKnife (otherLane l) n = true ↔
    (s.lane (otherLane l)).params.enabled = false ∨
      ∀ m, s.tku.cursors.get (.knife (otherLane l)) = some m → n < m := by
  have hne : Point.knife (otherLane l) ≠ .knife l := by cases l <;> simp [otherLane]
  rw [State.pastKnife_iff, handedOn_lanes, handedOn_cursor_ne _ _ _ _ hne]

theorem crossOne_knife_retired (h : (handedOn (.knife l) n winder s).pastKnife (otherLane l) n = true) :
    (crossOne (.knife l) n winder s).tku.track.map (·.number) =
      (s.tku.track.map (·.number)).filter (fun m => m != n) := by
  rw [crossOne_retires n winder s h, State.onTku_tku, Tku.release_track, ← handedOn_numbers (.knife l) n winder s,
    List.filter_map]
  rfl

theorem crossOne_knife_cursor {p : Point} (hp : p ≠ .knife l) : (crossOne (.knife l) n winder s).tku.cursors.get p =
    if (handedOn (.knife l) n winder s).pastKnife (otherLane l) n = true ∧ s.tku.cursors.get p = some n then
      s.tku.after n else s.tku.cursors.get p := by
  cases h : (handedOn (.knife l) n winder s).pastKnife (otherLane l) n with
  | false => rw [crossOne_stays n winder s h, handedOn_cursor_ne _ _ _ _ hp, if_neg (by simp)]
  | true =>
    rw [crossOne_retires n winder s h, State.onTku_tku, Tku.release_cursors, Cursors.get_leave,
      handedOn_cursor_ne _ _ _ _ hp, handedOn_after]
    exact if_congr (by simp) rfl rfl

theorem crossOne_knife_kept : ∃ g, (∀ r, RecordPlaced r (g r)) ∧
    (handedOn (.knife l) n winder s).tku.track = s.tku.track.map g ∧
    (handedOn (.knife l) n winder s).tku.departed = s.tku.departed ∧
    (handedOn (.knife l) n winder s).tku.estimate = s.tku.estimate := by
  obtain ⟨g, hg, ht⟩ := handedOn_kept (.knife l) n winder s
  exact ⟨g, hg, by rw [ht], by rw [ht], by rw [ht]⟩

/-- The expected origin stands where the oldest record crosses (R26). -/
theorem crossOne_expected (hs : s.tku.track.Pairwise (fun a b => a.number < b.number))
    (ho : ∀ r ∈ s.tku.track, n ≤ r.number) : (crossOne (.knife l) n winder s).tku.expected = s.tku.expected := by
  obtain ⟨g, hg, htr, hdep, hest⟩ := crossOne_knife_kept (l := l) (n := n) (winder := winder) (s := s)
  have hexp : ∀ t : Tku, t.estimate = s.tku.estimate →
      t.newest.map (·.origin) = s.tku.newest.map (·.origin) → t.expected = s.tku.expected := by
    intro t he hn
    have hx : ∀ u : Tku, u.expected = (u.newest.map (·.origin)).map (fun o => posPlus o u.repeatCounts) := fun u => by
      rw [Option.map_map]; rfl
    rw [hx, hx, hn, Tku.repeatCounts, he]
    rfl
  have hnew : (handedOn (.knife l) n winder s).tku.newest.map (·.origin) = s.tku.newest.map (·.origin) := by
    rw [Tku.newest_eq, Tku.newest_eq, htr, hdep, List.getLast?_map]
    cases s.tku.track.getLast? with
    | none => rfl
    | some r => exact congrArg some (hg r).origin
  obtain h | h := crossOne_cases (.knife l) n winder s
  · rw [h]
    exact hexp _ hest hnew
  · rw [h, State.onTku_tku]
    refine hexp _ hest ((congrArg _ (release_newest ?_ fun r hr => ?_)).trans hnew)
    · rw [htr]
      exact List.pairwise_map.2 (hs.imp fun h => by rwa [(hg _).number, (hg _).number])
    · rw [htr] at hr
      obtain ⟨x, hx, rfl⟩ := List.mem_map.1 hr
      rw [(hg x).number]
      exact ho x hx

/-- The windows that the scanner still reads stay (R32). -/
theorem crossOne_windows {r : RepeatRecord} (hr : r ∈ s.tku.track) (ho : ∃ w ∈ r.windows, w.closed = false) :
    ∃ q ∈ (crossOne (.knife l) n winder s).tku.blocks, RecordPlaced r q := by
  obtain ⟨g, hg, htr, -, -⟩ := crossOne_knife_kept (l := l) (n := n) (winder := winder) (s := s)
  have hmem : g r ∈ (handedOn (.knife l) n winder s).tku.blocks :=
    List.mem_append_right _ (by rw [htr]; exact List.mem_map_of_mem hr)
  obtain h | h := crossOne_cases (.knife l) n winder s
  · exact ⟨g r, by rw [h]; exact hmem, hg r⟩
  · obtain ⟨w, hw, hc⟩ := ho
    have hopen : (g r).blockOpen = true := by
      rw [RepeatRecord.blockOpen, (hg r).windows]
      exact List.any_eq_true.2 ⟨w, hw, by simp [hc]⟩
    exact ⟨g r, by rw [h]; exact Tku.release_keeps_open _ n _ hmem hopen, hg r⟩

end

/-! ### The scan that is cut short behind its own measurement (R100, R120) -/

theorem applyStaged_smu_params (i : Fin 6) (s : State) : (applyStaged i s).smu.params = s.smu.params := by
  obtain ⟨a, st, h⟩ := applyStaged_smu i s
  rw [h]

/-- The part without its regular scan. -/
def withoutScan (s : State) : State := { s with smu := { s.smu with scan := none } }

theorem applyStaged_withoutScan (i : Fin 6) (s : State) :
    withoutScan (applyStaged i s) = applyStaged i (withoutScan s) := by
  cases h : s.smu.staged[i] with
  | none => rw [applyStaged_none h, applyStaged_none (s := withoutScan s) h]
  | some f => rw [applyStaged_some h, applyStaged_some (s := withoutScan s) h]; rfl

/-- Settles O29. -/
theorem crossingsRunDryAndRetire : Obligations.CrossingsRunDryAndRetire := by
  refine ⟨⟨fun p n winder s => ⟨fun hw hr hp hd => ?_, ?_⟩, fun p winder s => ⟨fun hw hr hp _ => ?_,
    fun h => execPointCrossing_none h⟩⟩, fun l n winder s => ?_, fun l n winder s t ht => ?_⟩
  · have hx := execPointCrossing_due (w := winder) hw hr hp
    obtain ⟨fuel, hf⟩ : ∃ k, s.tku.track.length = k + 1 := by
      have h1 := crossOne_ahead winder hd
      have h2 := s.ahead_le p
      exact ⟨s.tku.track.length - 1, by omega⟩
    rw [hf, crossAll_due hd] at hx
    refine ⟨fun hn => hx.trans (congrArg _ (crossAll_none hn)), fun _ hrun => hx.trans ?_⟩
    obtain ⟨hweb, hen⟩ := crossOne_parts p n winder s
    refine Eq.symm ((execPointCrossing_due (w := winder) (hweb.trans hw) hrun ((hen p).trans hp)).trans (congrArg _ ?_))
    have h1 := crossOne_ahead winder hd
    have h2 := s.ahead_le p
    exact (crossAll_dry fuel (by omega)).2 _ (State.ahead_le _ p)
  · refine ⟨_, handedOn p n winder s, rfl, rfl, crossOne_beside p n winder s, fun l hl h => ?_, fun l hl h =>
      ⟨_, _, rfl, rfl, ?_⟩⟩
    · subst hl
      exact crossOne_stays n winder s h
    · subst hl
      refine (crossOne_retires n winder s h).trans ?_
      rfl
  · refine ⟨_, execPointCrossing_due hw hr hp, fun n r hc hrec => ?_⟩
    have hnone := (crossAll_dry (winder := winder) _ (s.ahead_le p)).1
    by_contra hge
    exact absurd hnone (by
      rw [crossingDue_eq_some.2 ⟨hc, r, hrec, decide_eq_true (Int.not_lt.1 hge)⟩]
      simp)
  · intro applied serves toLane noSpots noScan
    have happ : ∀ i u, applyStaged i u = applied i u := applyStaged_eq
    have hto : handOff (.knife l) n winder s = toLane (shadeAtKnife n s) := rfl
    have hserve : ∀ c : SpotContext, ¬ serves c → c.ofRecord n = false := fun c hc =>
      Bool.eq_false_iff.2 fun h => hc (SpotContext.ofRecord_iff.1 h)
    have hserves : ∀ c : SpotContext, serves c → c.ofRecord n = true := fun c hc => SpotContext.ofRecord_iff.2 hc
    have hnum : ∀ c : SpotContext, serves c → c.serves = some n := fun c hc => by
      simpa [SpotContext.ofRecord] using hserves c hc
    refine ⟨fun ⟨h1, h2⟩ ⟨h3, h4, h5⟩ => ?_, fun before c after ⟨h3, h4, h5⟩ hsplit hc hrest hprog => ?_,
      fun c ⟨h3, h4, h5⟩ hctx hprog hc => ⟨_, rfl, ?_⟩, fun c slot ⟨h1, h2⟩ hscan hn hover hslot => ?_⟩
    · rw [hto, shadeAtKnife_eq, missAll_unserved fun c hc => hserve c (h1 c hc),
        abandonSpotIf_unserved fun c hc => hserve c (h2 c hc), cutScanShort_none h3 h4 h5]
    · rw [hto, shadeAtKnife_eq, missAll_one hsplit (hserves c hc) fun x hx => hserve x (hrest x hx)]
      obtain ⟨u, hu⟩ : ∃ u, u = offerResult (c.resultOf .missed) { s with smu := s.smu.consume c (before ++ after) } :=
        ⟨_, rfl⟩
      have hbus : u.smu.bus = s.smu.bus := by rw [hu, offerResult_bus]; rfl
      have hsc : u.smu.scan = s.smu.scan := by rw [hu, offerResult_smu_scan]; rfl
      have hov : u.smu.overrun = s.smu.overrun := by rw [hu, offerResult_smu_overrun]; rfl
      rw [← hu, abandonSpotIf_unserved fun x hx => hserve x (hprog x (by
        rwa [Smu.spotInProgress_of_bus hbus] at hx)), cutScanShort_none (by rw [hsc]; exact h3) (by rw [hov]; exact h4)
        (by rw [hbus]; exact h5), hu, SpotContext.resultOf, hnum c hc]
      rfl
    · have hab : abandonSpotIf (·.ofRecord n) s = abandonSpot c s := abandonSpotIf_some hprog (hserves c hc)
      rw [hto, shadeAtKnife_eq, missAll_unserved fun x hx => hserve x (hctx x hx), hab, cutScanShort_none
        (by rw [abandonSpot_smu_scan]; exact h3) (by rw [abandonSpot_smu_overrun]; exact h4)
        (by rw [abandonSpot_smu_bus]; simp)]
      refine congrArg toLane (abandonSpot_eq c ?_)
      rw [← happ, SpotContext.resultOf, hnum c hc]
      rfl
    · intro cut
      have hs : shadeAtKnife n s = cutScanShort n s := by
        rw [shadeAtKnife_eq, missAll_unserved fun c hc => hserve c (h1 c hc),
          abandonSpotIf_unserved fun c hc => hserve c (h2 c hc)]
      refine ⟨fun hbus => ?_, fun b pos hb hu => ?_⟩
      · rw [hto, hs]
        refine congrArg toLane (cutScanShort_some hscan hn hover (measures_eq_false hbus) rfl rfl rfl rfl hscan hslot)
      · have hm : s.smu.measures n = true := by simp [Smu.measures, hb, hu]
        have hdrop : dropScanMeasurement s = applyStaged b.slot (dropBus s) := by simp only [dropScanMeasurement, hb, hu]
        rw [hto, hs]
        refine congrArg toLane (cutScanShort_some (b := true) hscan hn hover hm ?_ ?_ ?_ ?_ ?_ hslot)
        · rw [← happ, if_pos rfl, hdrop]
          exact (applyStaged_withoutScan b.slot (dropBus s)).symm
        · rw [← happ, applyStaged_smu_overrun]
        · rw [← happ, applyStaged_smu_params]
        · rw [← happ, applyStaged_smu_pointer]
        · rw [if_pos rfl, hdrop, applyStaged_smu_scan]
          exact hscan
  · subst ht
    refine ⟨fun h => crossOne_knife_retired (handedOn_otherKnife.2 h.symm), fun m he hm hle => ?_,
      crossOne_cursor (.knife l) n winder s, fun p hp => ⟨fun hgone hc hin => ?_, fun h => ?_⟩,
      fun hs ho => crossOne_expected hs ho, fun r hr hn ho => ?_⟩
    · have hstay : (handedOn (.knife l) n winder s).pastKnife (otherLane l) n = false :=
        Bool.eq_false_iff.2 fun h => (handedOn_otherKnife.1 h).elim (by simp [he]) fun h => by
          have := h m hm
          omega
      rw [crossOne_stays n winder s hstay, handedOn_numbers]
    · have hpast : (handedOn (.knife l) n winder s).pastKnife (otherLane l) n = true := by
        by_contra hstay
        rw [crossOne_stays n winder s (Bool.eq_false_iff.2 hstay)] at hgone
        obtain ⟨r, hr, hn⟩ := hin
        have hmem : n ∈ (handedOn (.knife l) n winder s).tku.track.map (·.number) := by
          rw [handedOn_numbers]
          exact List.mem_map.2 ⟨r, hr, hn⟩
        obtain ⟨x, hx, hxn⟩ := List.mem_map.1 hmem
        exact hgone x hx hxn
      rw [crossOne_knife_cursor hp, if_pos ⟨hpast, hc⟩]
      rfl
    · rw [crossOne_knife_cursor hp]
      refine if_neg fun ⟨hpast, hc⟩ => ?_
      rcases h with h | ⟨r, hr, hn⟩
      · exact h hc
      · have hmem : n ∈ (crossOne (.knife l) n winder s).tku.track.map (·.number) := List.mem_map.2 ⟨r, hr, hn⟩
        rw [crossOne_knife_retired hpast] at hmem
        simp at hmem
    · obtain ⟨q, hq, hk⟩ := crossOne_windows (l := l) (n := n) (winder := winder) hr ho
      exact ⟨q, hq, hk.number.trans hn, hk.origin, hk.coasted, hk.windows⟩

end Sys2Proof.Machine
end

section
/-! What the register loops do with an entry depends on (R57 to R63), and the windows of a record as lists (R31). -/

namespace Sys2Proof.Machine

/-! ### The line after an occurrence (R11, R178) -/

theorem runAction_line (slot : Fin 4) (a : RouteAction) (ls : List Lane) (s : State) :
    (runAction slot a ls s).state.wtb.line = if a = .holdLine ∧ s.wtb.line = .run then .hold else s.wtb.line := by
  cases a with
  | spot t =>
    rw [if_neg (by simp)]
    cases t with
    | none => exact congrArg Wtb.line (spotTrigger_wtb _ s)
    | some t =>
      simp only [runAction]
      split <;> simp
  | cut target =>
    rw [if_neg (by simp)]
    cases target with
    | lane l => exact congrArg Wtb.line (cutLane_wtb l s)
    | event => exact congrArg Wtb.line (foldl_cutLane_wtb ls s)
  | holdLine => cases h : s.wtb.line <;> simp [runAction, h]
  | releaseEmboss => cases h : s.epu.state <;> simp [runAction, h]
  | newBatch => simp [runAction]

theorem raise_line_congr {s t : State} (ev : Event) (p1 p2 : Nat) (hl : t.wtb.line = s.wtb.line)
    (hr : t.evu.routes = s.evu.routes) : (raise ev p1 p2 t).wtb.line = (raise ev p1 p2 s).wtb.line := by
  have hroute := Evu.routeFor_congr (e := s.evu) (e' := t.evu) hr ev
  have hline : ∀ u : State, u.wtb.line = s.wtb.line → ∀ x, u.evu.routeFor ev = some x →
      (raise ev p1 p2 u).wtb.line = if x.2.action = .holdLine ∧ s.wtb.line = .run then .hold else s.wtb.line := by
    intro u hu x hx
    rw [raise_bound hx, ← hu, ← runAction_line x.1 x.2.action (ev.lanesFor p1) u]
    split
    · rw [finishAction_eq]
      split <;> simp
    · simp
  cases h : s.evu.routeFor ev with
  | none => simp [raise_unrouted, h, hroute, hl]
  | some x => rw [hline t hl x (hroute.trans h), hline s rfl x h]

/-! ### The loops at an entry -/

/-- States whose register loops do alike. -/
structure SameLoop (s t : State) : Prop where
  rlu : t.rlu = s.rlu
  line : t.wtb.line = s.wtb.line
  settle : ∀ k, t.settleOf k = s.settleOf k

theorem SameLoop.onRlu {s t : State} (h : SameLoop s t) (f : Rlu → Rlu) : SameLoop (s.onRlu f) (t.onRlu f) :=
  ⟨congrArg f h.rlu, h.line, h.settle⟩

theorem SameLoop.raise {s t : State} (h : SameLoop s t) (hr : t.evu.routes = s.evu.routes) (ev : Event) (p1 p2 : Nat) :
    SameLoop (raise ev p1 p2 s) (raise ev p1 p2 t) := by
  refine ⟨?_, raise_line_congr ev p1 p2 h.line hr, fun k => ?_⟩
  · rw [raise_rlu, raise_rlu, h.rlu]
  · simpa only [State.settleOf, raise_tku] using h.settle k

theorem SameLoop.countOutOfTolerance {s t : State} (h : SameLoop s t) (hr : t.evu.routes = s.evu.routes) (k : Fin 8)
    (n : Nat) (rd : RegReading) : SameLoop (countOutOfTolerance k n rd s) (countOutOfTolerance k n rd t) := by
  cases rd with
  | missing => exact h
  | error e inTol =>
    cases inTol with
    | true =>
      simp only [Machine.countOutOfTolerance]
      exact h.onRlu _
    | false =>
      simp only [Machine.countOutOfTolerance, h.rlu]
      split
      · exact (h.onRlu _).raise hr _ _ _
      · exact h.onRlu _

theorem SameLoop.stationLoop_rlu {s t : State} (h : SameLoop s t) (k : Fin 8) (n : Nat) (rd : RegReading) :
    (stationLoop k n rd t).rlu = (stationLoop k n rd s).rlu := by
  have howed : ∀ (c : Fin 9) (x : Int), (addOwed c x n t).rlu = (addOwed c x n s).rlu := by
    intro c x
    simp only [addOwed, h.rlu]
    split <;> simp [State.onRlu, h.rlu]
  simp only [stationLoop, h.rlu, h.line]
  split
  · exact h.rlu
  · split
    · exact (h.onRlu _).rlu
    · cases rd with
      | missing => exact h.rlu
      | error e b =>
        dsimp only
        split
        · exact h.rlu
        · split
          · exact h.rlu
          · have hs : (addOwed (channelOfStation k) (correctionOf e s.rlu.stations[k].params.gain
                s.rlu.stations[k].params.maxStep) n t).settleOf k = (addOwed (channelOfStation k) (correctionOf e
                s.rlu.stations[k].params.gain s.rlu.stations[k].params.maxStep) n s).settleOf k := by
              simpa only [State.settleOf, addOwed_tku] using h.settle k
            simp only [State.onRlu, howed, hs]

/-- An error's entry does the same to the loops in such states. -/
theorem SameLoop.registerEntry_rlu {s t : State} (h : SameLoop s t) (hr : t.evu.routes = s.evu.routes) (k : Fin 8)
    (n : Nat) (c : Bool) (e : Int) (b : Bool) :
    (registerEntry k n c (.error e b) t).rlu = (registerEntry k n c (.error e b) s).rlu := by
  have hw : SameLoop (writeRegEntry k n (.error e b) s) (writeRegEntry k n (.error e b) t) := ⟨h.rlu, h.line, h.settle⟩
  cases c with
  | true => exact h.rlu
  | false => exact ((hw.countOutOfTolerance hr k n (.error e b)).onRlu _).stationLoop_rlu k n (.error e b)

end Sys2Proof.Machine
end

section
/-! A mark that creates no record: which window takes it, and what waits for it (R22, R23, R25 to R27, R31 to R33). -/

namespace Sys2Proof.Machine

/-! ### The window that takes a mark (R31) -/

/-- How far a mark lies from a window's target. -/
def Window.far (w : Window) (r : RepeatRecord) (p : Pos) : Nat := (p - posPlus r.origin w.target).toInt.natAbs

/-- An open, uncaptured window that holds the mark (R31). -/
def Window.takes (w : Window) (r : RepeatRecord) (p : Pos) : Prop :=
  w.closed = false ∧ w.captured = false ∧ w.far r p ≤ w.half

section
variable {r : RepeatRecord} {p : Pos} {w : Window}

theorem windowHolds_iff : windowHolds r w p = true ↔ w.far r p ≤ w.half := decide_eq_true_iff

theorem windowHolds_eq_false : windowHolds r w p = false ↔ w.half < w.far r p := by
  rw [← Bool.not_eq_true, windowHolds_iff, Nat.not_le]

theorem not_takes_iff : ¬ w.takes r p ↔ (w.closed || w.captured || !windowHolds r w p) = true := by
  rw [Window.takes, ← windowHolds_iff]
  cases w.closed <;> cases w.captured <;> simp

theorem not_takes_of_far (h : w.half < w.far r p) : ¬ w.takes r p := fun ht => by
  have := ht.2.2
  omega

theorem nearerWindow_passes (h : ¬ w.takes r p) (best : Option Window) : nearerWindow r p best w = best :=
  if_pos (not_takes_iff.1 h)

theorem nearerWindow_first (h : w.takes r p) : nearerWindow r p none w = some w :=
  if_neg (mt not_takes_iff.2 (not_not.2 h))

theorem nearerWindow_some (h : w.takes r p) (b : Window) :
    nearerWindow r p (some b) w = if w.far r p < b.far r p then some w else some b :=
  if_neg (mt not_takes_iff.2 (not_not.2 h))

theorem foldl_nearerWindow_passes {ws : List Window} (h : ∀ v ∈ ws, ¬ v.takes r p) (best : Option Window) :
    ws.foldl (nearerWindow r p) best = best := by
  induction ws with
  | nil => rfl
  | cons v ws ih =>
    rw [List.foldl_cons, nearerWindow_passes (h v (by simp)), ih fun x hx => h x (List.mem_cons_of_mem _ hx)]

/-- Windows that lie further off leave a best that lies further off. -/
theorem foldl_nearerWindow_farther {d : Nat} {ws : List Window} (h : ∀ v ∈ ws, v.takes r p → d < v.far r p)
    {best : Option Window} (hb : ∀ b, best = some b → d < b.far r p) :
    ∀ b, ws.foldl (nearerWindow r p) best = some b → d < b.far r p := by
  induction ws generalizing best with
  | nil => exact hb
  | cons v ws ih =>
    refine ih (fun x hx => h x (List.mem_cons_of_mem _ hx)) fun b hv => ?_
    by_cases ht : v.takes r p
    · have hd := h v (by simp) ht
      cases best with
      | none =>
        rw [nearerWindow_first ht] at hv
        rwa [← Option.some.inj hv]
      | some x =>
        rw [nearerWindow_some ht] at hv
        split at hv
        · rwa [← Option.some.inj hv]
        · exact hb b hv
    · rw [nearerWindow_passes ht] at hv
      exact hb b hv

/-- A best stands against windows that are no nearer. -/
theorem foldl_nearerWindow_stands {ws : List Window} (h : ∀ v ∈ ws, v.takes r p → w.far r p ≤ v.far r p) :
    ws.foldl (nearerWindow r p) (some w) = some w := by
  induction ws with
  | nil => rfl
  | cons v ws ih =>
    have hv : nearerWindow r p (some w) v = some w := by
      by_cases ht : v.takes r p
      · rw [nearerWindow_some ht, if_neg (Nat.not_lt.2 (h v (by simp) ht))]
      · exact nearerWindow_passes ht _
    rw [List.foldl_cons, hv, ih fun x hx => h x (List.mem_cons_of_mem _ hx)]

theorem foldl_nearerWindow_takes {lower higher : List Window} (ht : w.takes r p)
    (hl : ∀ v ∈ lower, v.takes r p → w.far r p < v.far r p) (hh : ∀ v ∈ higher, v.takes r p → w.far r p ≤ v.far r p) :
    (lower ++ w :: higher).foldl (nearerWindow r p) none = some w := by
  have hfirst : nearerWindow r p (lower.foldl (nearerWindow r p) none) w = some w := by
    have hb := foldl_nearerWindow_farther hl (best := none) (by simp)
    cases h : lower.foldl (nearerWindow r p) none with
    | none => exact nearerWindow_first ht
    | some b => rw [nearerWindow_some ht, if_pos (hb b h)]
  rw [List.foldl_append, List.foldl_cons, hfirst, foldl_nearerWindow_stands hh]

theorem takingWindow_none {blocks : List RepeatRecord} (h : ∀ x ∈ blocks, ∀ v ∈ x.windows, ¬ v.takes x p) :
    takingWindow p blocks = none :=
  List.findSome?_eq_none_iff.2 fun x hx => by rw [foldl_nearerWindow_passes (h x hx)]; rfl

theorem takingWindow_some {older newer : List RepeatRecord} {lower higher : List Window}
    (ho : ∀ x ∈ older, ∀ v ∈ x.windows, ¬ v.takes x p) (hr : r.windows = lower ++ w :: higher) (ht : w.takes r p)
    (hl : ∀ v ∈ lower, v.takes r p → w.far r p < v.far r p) (hh : ∀ v ∈ higher, v.takes r p → w.far r p ≤ v.far r p) :
    takingWindow p (older ++ r :: newer) = some (r, w) := by
  have hn : older.findSome? (fun x => (x.windows.foldl (nearerWindow x p) none).map (fun w => (x, w))) = none :=
    takingWindow_none ho
  rw [takingWindow, List.findSome?_append, hn, Option.none_or, List.findSome?_cons, hr,
    foldl_nearerWindow_takes ht hl hh]
  rfl

end

theorem offerMark_none {p : Pos} {s : State} (h : takingWindow p s.tku.blocks = none) : offerMark p s = strayMark s := by
  simp only [offerMark, h]

theorem offerMark_some {p : Pos} {s : State} {r : RepeatRecord} {w : Window}
    (h : takingWindow p s.tku.blocks = some (r, w)) : offerMark p s =
      registerEntry w.station r.number r.coasted (captureReading s w.station p r.origin w.target)
        (s.onTku (fun t => t.onWindow r.number w.station (fun w => { w with captured := true }))) := by
  simp only [offerMark, h]

/-! ### The windows of a station, changed -/

/-- A record whose window of a station is changed where it has the number. -/
def RepeatRecord.onWindowOf (n : Nat) (k : Fin 8) (f : Window → Window) (r : RepeatRecord) : RepeatRecord :=
  if r.number = n then r.onWindow k f else r

theorem RepeatRecord.onWindowOf_fields (n : Nat) (k : Fin 8) (f : Window → Window) (r : RepeatRecord) :
    (r.onWindowOf n k f).number = r.number ∧ (r.onWindowOf n k f).origin = r.origin ∧
      (r.onWindowOf n k f).regs = r.regs ∧ (r.onWindowOf n k f).defects = r.defects := by
  unfold RepeatRecord.onWindowOf
  split <;> exact ⟨rfl, rfl, rfl, rfl⟩

theorem Tku.onWindow_eq (t : Tku) (n : Nat) (k : Fin 8) (f : Window → Window) :
    t.onWindow n k f = (t.changed (·.onWindowOf n k f) (·.onWindowOf n k f)).forget := rfl

theorem Tku.onWindow_track (t : Tku) (n : Nat) (k : Fin 8) (f : Window → Window) :
    (t.onWindow n k f).track = t.track.map (·.onWindowOf n k f) := rfl

/-- The change of a window, with what it forgets. -/
theorem Tku.onWindow_written (t : Tku) (n : Nat) (k : Fin 8) (f : Window → Window) :
    t.onWindow n k f = { t with
      track := t.track.map (·.onWindowOf n k f)
      departed := (t.departed.map (·.onWindowOf n k f)).filter (fun r => r.windows.any (fun w => !w.closed) ||
        (t.track.isEmpty && (t.departed.map (·.onWindowOf n k f)).getLast? == some r)) } := by
  have hs : (t.changed (·.onWindowOf n k f) (·.onWindowOf n k f)).stillRead = fun r =>
      r.windows.any (fun w => !w.closed) ||
        (t.track.isEmpty && (t.departed.map (·.onWindowOf n k f)).getLast? == some r) := by
    funext r
    simp [Tku.stillRead, Tku.changed, RepeatRecord.blockOpen]
  rw [Tku.onWindow_eq, Tku.forget, hs]
  rfl

theorem Tku.onWindow_newest (t : Tku) (n : Nat) (k : Fin 8) (f : Window → Window) :
    (t.onWindow n k f).newest = t.newest.map (·.onWindowOf n k f) := by
  rw [Tku.onWindow_eq, Tku.forget_newest, Tku.changed_newest, Tku.newest_eq]
  cases t.track.getLast? <;> rfl

theorem Tku.onWindow_expected (t : Tku) (n : Nat) (k : Fin 8) (f : Window → Window) :
    (t.onWindow n k f).expected = t.expected := by
  have ho : ∀ r : RepeatRecord, (r.onWindowOf n k f).origin = r.origin := fun r => (r.onWindowOf_fields n k f).2.1
  simp only [Tku.expected, Tku.onWindow_newest, Option.map_map, Function.comp_def, ho]
  rfl

theorem Tku.mem_onWindow_blocks {t : Tku} {n : Nat} {k : Fin 8} {f : Window → Window} {x : RepeatRecord}
    (h : x ∈ (t.onWindow n k f).blocks) : ∃ r ∈ t.blocks, x = r.onWindowOf n k f := by
  obtain h | h := List.mem_append.1 h
  · obtain ⟨r, hr, rfl⟩ := List.mem_map.1 (List.mem_filter.1 h).1
    exact ⟨r, List.mem_append_left _ hr, rfl⟩
  · obtain ⟨r, hr, rfl⟩ := List.mem_map.1 h
    exact ⟨r, List.mem_append_right _ hr, rfl⟩

/-! ### What a mark leaves for the coast that waited (R27) -/

/-- What decides on the coast that waited for a mark. -/
structure SameCoast (s t : State) : Prop where
  running : t.running = s.running
  wp : t.wtb.wp = s.wtb.wp
  scanner : t.tku.scanner = s.tku.scanner
  params : t.tku.params = s.tku.params
  expected : t.tku.expected = s.tku.expected

theorem SameCoast.trans {s t u : State} (h : SameCoast s t) (h' : SameCoast t u) : SameCoast s u :=
  ⟨h'.running.trans h.running, h'.wp.trans h.wp, h'.scanner.trans h.scanner, h'.params.trans h.params,
    h'.expected.trans h.expected⟩

theorem SameCoast.of_windowsWork {s t : State} (h : WindowsWork s t) : SameCoast s t := by
  obtain ⟨g, dep, -, ht⟩ := h.tku
  refine ⟨h.surroundings.running, h.surroundings.wp, by rw [ht], by rw [ht], ?_⟩
  have hc : t.tku.repeatCounts = s.tku.repeatCounts := by rw [ht]; rfl
  cases hn : s.tku.newest with
  | none => simp only [Tku.expected, hn, h.unwritten hn, Option.map_none]
  | some r =>
    obtain ⟨q, hq, hk⟩ := h.newest r hn
    simp only [Tku.expected, hn, hq, Option.map_some, hk.origin, hc]

theorem SameCoast.registerEntry (k : Fin 8) (n : Nat) (c : Bool) (rd : RegReading) (s : State) :
    SameCoast s (registerEntry k n c rd s) := by
  refine .of_windowsWork ((WindowsWork.onTrack (g := fun r => if r.number = n then { r with
    regs := r.regs ++ [⟨k, rd⟩], defects := { r.defects with
      register := r.defects.register || rd.isDefect } } else r) fun r => ?_).of_tku
    ((SameSurroundings.refl s).registerEntry k n c rd) (registerEntry_tku ..))
  split
  · exact ⟨rfl, rfl, rfl, rfl, rfl, rfl, rfl, rfl, rfl⟩
  · exact .refl r

theorem SameCoast.offerMark (p : Pos) (s : State) : SameCoast s (offerMark p s) := by
  cases h : takingWindow p s.tku.blocks with
  | none =>
    rw [offerMark_none h]
    exact ⟨rfl, rfl, rfl, rfl, rfl⟩
  | some x =>
    rw [offerMark_some h]
    have hw : SameCoast s (s.onTku (fun t => t.onWindow x.1.number x.2.station
        (fun w => { w with captured := true }))) :=
      ⟨rfl, rfl, rfl, rfl, Tku.onWindow_expected ..⟩
    exact hw.trans (SameCoast.registerEntry ..)

theorem coastAfterMark_waits {p : Pos} {t : State} (h : t.tku.scanner ≠ .tracking ∨
    ∀ e, t.tku.expected = some e → (t.tku.params.wMaster < (p - e).toInt.natAbs ∨
      (t.wtb.wp - e).toInt ≤ t.tku.params.wMaster)) : coastAfterMark p false t = t := by
  unfold coastAfterMark
  split
  · rfl
  next hn =>
    cases he : t.tku.expected with
    | none => rfl
    | some e =>
      refine if_neg fun ha => ?_
      obtain ⟨h1, h2⟩ := Bool.and_eq_true_iff.1 ha
      have hin : (p - e).toInt.natAbs ≤ t.tku.params.wMaster := of_decide_eq_true h1
      have hover : (t.tku.params.wMaster : Int) < (t.wtb.wp - e).toInt := of_decide_eq_true h2
      obtain hs | hw := h
      · simp [hs] at hn
      · obtain hw | hw := hw e he <;> omega

theorem coastAfterMark_coasts {p e : Pos} {t : State} (hr : t.running = true) (hs : t.tku.scanner = .tracking)
    (he : t.tku.expected = some e) (hin : (p - e).toInt.natAbs ≤ t.tku.params.wMaster)
    (hover : (t.tku.params.wMaster : Int) < (t.wtb.wp - e).toInt) : coastAfterMark p false t = createCoasted e t := by
  have h1 : t.tku.inMasterWindow e p = true := decide_eq_true hin
  have h2 : t.tku.windowOver e t.wtb.wp = true := decide_eq_true hover
  simp [coastAfterMark, hr, hs, he, h1, h2]

/-! ### Marks that create no record (R25, R26, R33) -/

theorem classify_station {q : RepeatParams} {w : Int} (hm : ¬ (w - q.masterWidth).natAbs ≤ q.widthTol)
    (hs : (w - q.stationWidth).natAbs ≤ q.widthTol) : classify q w = .station := (if_neg hm).trans (if_pos hs)

theorem classify_stray {q : RepeatParams} {w : Int} (hm : ¬ (w - q.masterWidth).natAbs ≤ q.widthTol)
    (hs : ¬ (w - q.stationWidth).natAbs ≤ q.widthTol) : classify q w = .stray := (if_neg hm).trans (if_neg hs)

section
variable {p : Pos} {s : State}

theorem settleMark_offers (hs : s.tku.scanner ≠ .off) (hc : classify s.tku.params (sdiff s.wtb.wp p) = .station) :
    settleMark p s = coastAfterMark p false (closeHeldWindows p (offerMark p s)) := by
  cases h : s.tku.scanner with
  | off => exact absurd h hs
  | acquire =>
    simp only [settleMark, hc, h, markInAcquire, marksRecord]
    rfl
  | tracking =>
    simp only [settleMark, hc, h, markInTracking, marksRecord]
    rfl

theorem settleMark_strays (hs : s.tku.scanner ≠ .off) (hc : classify s.tku.params (sdiff s.wtb.wp p) = .stray) :
    settleMark p s = coastAfterMark p false (closeHeldWindows p (strayMark s)) := by
  cases h : s.tku.scanner with
  | off => exact absurd h hs
  | acquire =>
    simp only [settleMark, hc, h, markInAcquire, marksRecord]
    rfl
  | tracking =>
    simp only [settleMark, hc, h, markInTracking, marksRecord]
    rfl

/-- A master-shaped mark outside the master window is a stray (R26, R33). -/
theorem settleMark_misplaced (hs : s.tku.scanner = .tracking) (hc : classify s.tku.params (sdiff s.wtb.wp p) = .master)
    (h : ∀ e, s.tku.expected = some e → s.tku.params.wMaster < (p - e).toInt.natAbs) :
    settleMark p s = coastAfterMark p false (closeHeldWindows p (strayMark s)) := by
  cases he : s.tku.expected with
  | none =>
    simp only [settleMark, hc, hs, markInTracking, marksRecord, he]
    rfl
  | some e =>
    have hout : s.tku.inMasterWindow e p = false := decide_eq_false (Nat.not_le.2 (h e he))
    simp [settleMark, hc, hs, markInTracking, marksRecord, he, hout]

end

/-! ### The windows that waited (R32) -/

/-- The windows not yet closed that hold a mark and have ended, with the widths written out. -/
theorem closeHeldWindows_written {p : Pos} {m : State} (hr : m.running = true) : closeHeldWindows p m =
    ((m.tku.departed ++ m.tku.track).flatMap (fun r => (r.windows.filter (fun w => !w.closed &&
      decide ((p - posPlus r.origin w.target).toInt.natAbs ≤ w.half) &&
      decide (0 < (m.wtb.wp - posPlus r.origin (w.target + w.half)).toInt))).map
        (fun w => (r.number, w.station)))).foldl (fun u x => closeWindow x.1 x.2 u) m := by
  refine (if_pos hr).trans ?_
  refine congrArg (fun l : List (Nat × Fin 8) => l.foldl (fun u x => closeWindow x.1 x.2 u) m) ?_
  refine congrArg (fun f => m.tku.blocks.flatMap f) (funext fun r => ?_)
  refine congrArg (fun f => (r.windows.filter f).map (fun w => (r.number, w.station))) (funext fun w => ?_)
  exact (Bool.and_assoc ..).symm

end Sys2Proof.Machine
end

section
/-! What the close of windows and a coast leave of the register entries (R27, R31, R32, R55, R56). -/

namespace Sys2Proof.Machine

/-! ### The open window of a station -/

theorem Tku.openWindow_some {t : Tku} {n : Nat} {k : Fin 8} {r : RepeatRecord} {w : Window}
    (h : t.openWindow n k = some (r, w)) :
    r ∈ t.blocks ∧ r.number = n ∧ w ∈ r.windows ∧ w.station = k ∧ w.closed = false := by
  unfold Tku.openWindow at h
  split at h
  next => exact absurd h (by simp)
  next x hx =>
    obtain ⟨v, hv, he⟩ := Option.map_eq_some_iff.1 h
    obtain ⟨rfl, rfl⟩ := Prod.mk.inj he
    have hw : v.station = k ∧ v.closed = false := by simpa using List.find?_some hv
    exact ⟨List.mem_of_find?_eq_some hx, by simpa using List.find?_some hx, List.mem_of_find?_eq_some hv, hw.1, hw.2⟩

/-- Every window of the station in a record of the number satisfies `q`. -/
def Tku.AllWindows (t : Tku) (n : Nat) (k : Fin 8) (q : Window → Prop) : Prop :=
  ∀ r ∈ t.blocks, r.number = n → ∀ w ∈ r.windows, w.station = k → q w

section
variable {t : Tku} {n : Nat} {k : Fin 8} {q : Window → Prop} {f : Window → Window}

theorem Tku.AllWindows.openWindow (h : t.AllWindows n k (·.closed = true)) : t.openWindow n k = none := by
  refine Option.eq_none_iff_forall_ne_some.2 fun x hx => ?_
  obtain ⟨hr, hn, hw, hk, hc⟩ := Tku.openWindow_some hx
  exact absurd (h _ hr hn _ hw hk) (by simp [hc])

/-- A change of the station's windows makes them satisfy `q`, where it gives `q` to each it is made to. -/
theorem Tku.AllWindows.onWindow {q' : Window → Prop} (h : t.AllWindows n k q')
    (hq : ∀ w, q' w → q (f w)) : (t.onWindow n k f).AllWindows n k q := by
  intro x hx hn v hv hk
  obtain ⟨r, hr, rfl⟩ := Tku.mem_onWindow_blocks hx
  have hrn : r.number = n := (r.onWindowOf_fields n k f).1.symm.trans hn
  rw [RepeatRecord.onWindowOf, if_pos hrn] at hv
  obtain ⟨w, hw, rfl⟩ := List.mem_map.1 hv
  by_cases hwk : w.station = k
  · rw [if_pos hwk]
    exact hq w (h r hr hrn w hw hwk)
  · rw [if_neg hwk] at hk
    exact absurd hk hwk

end

theorem Tku.AllWindows.registerEntry {s : State} {m n : Nat} {j k : Fin 8} {q : Window → Prop} (h : s.tku.AllWindows m j q)
    (c : Bool) (rd : RegReading) : (registerEntry k n c rd s).tku.AllWindows m j q := by
  rw [registerEntry_tku]
  intro x hx hn v hv hk
  obtain hx | hx := List.mem_append.1 hx
  · exact h x (List.mem_append_left _ hx) hn v hv hk
  · obtain ⟨r, hr, rfl⟩ := List.mem_map.1 hx
    refine h r (List.mem_append_right _ hr) ?_ v ?_ hk
    · rw [← hn]
      split <;> rfl
    · revert hv
      split <;> exact id

/-- A window that has been closed is open no longer (R32). -/
theorem closeWindow_openWindow (n : Nat) (k : Fin 8) (s : State) : (closeWindow n k s).tku.openWindow n k = none := by
  have hall : s.tku.AllWindows n k (fun _ => True) := fun _ _ _ _ _ _ => trivial
  have hshut : (s.onTku (fun t => t.onWindow n k (fun w => { w with closed := true }))).tku.AllWindows n k
      (·.closed = true) := hall.onWindow fun _ _ => rfl
  obtain ⟨hn, he⟩ | ⟨r, w, -, ⟨-, he⟩ | ⟨-, he⟩⟩ := closeWindow_cases n k s
  · rwa [he]
  · rw [he]
    exact hshut.openWindow
  · rw [he]
    refine Tku.AllWindows.openWindow (Tku.AllWindows.registerEntry ?_ _ _)
    rwa [raise_tku]

/-! ### The entry that is written (R55, R56) -/

theorem writeRegEntry_writes {k : Fin 8} {n : Nat} {rd : RegReading} {s : State} {r : RepeatRecord}
    (hr : r ∈ s.tku.track) (hn : r.number = n) : ∃ q ∈ (writeRegEntry k n rd s).tku.track, q.number = n ∧
      ⟨k, rd⟩ ∈ q.regs ∧ (rd.isDefect = true → q.defects.register = true) := by
  refine ⟨_, List.mem_map_of_mem hr, ?_⟩
  rw [if_pos hn]
  exact ⟨hn, by simp, fun h => by simp [h]⟩

theorem writeRegEntry_discarded {n : Nat} {s : State} (h : ∀ r ∈ s.tku.track, r.number ≠ n) (k : Fin 8)
    (rd : RegReading) : (writeRegEntry k n rd s).tku.track = s.tku.track :=
  (List.map_congr_left fun r hr => if_neg (h r hr)).trans (List.map_id _)

/-- What is reported of the track: the strays, and each record's register entries. -/
def RepeatRecord.entries (r : RepeatRecord) : Nat × List RegEntry × Bool := (r.number, r.regs, r.defects.register)

/-- What the close of captured windows leaves. -/
structure EntriesKept (s t : State) : Prop where
  rlu : t.rlu = s.rlu
  stray : t.tku.stray = s.tku.stray
  entries : t.tku.track.map RepeatRecord.entries = s.tku.track.map RepeatRecord.entries

theorem EntriesKept.onWindow (n : Nat) (k : Fin 8) (f : Window → Window) (s : State) :
    EntriesKept s (s.onTku (fun t => t.onWindow n k f)) := by
  refine ⟨rfl, rfl, ?_⟩
  rw [State.onTku_tku, Tku.onWindow_track, List.map_map]
  refine List.map_congr_left fun r _ => ?_
  obtain ⟨h1, -, h2, h3⟩ := r.onWindowOf_fields n k f
  simp only [Function.comp_apply, RepeatRecord.entries, h1, h2, h3]

/-- The closes of windows that are all captured report nothing (R32). -/
theorem foldl_closeWindow_captured {n : Nat} {k : Fin 8} {l : List (Nat × Fin 8)} (hl : ∀ x ∈ l, x = (n, k)) {s : State}
    (hc : s.tku.AllWindows n k (·.captured = true)) : EntriesKept s (l.foldl (fun t x => closeWindow x.1 x.2 t) s) := by
  induction l generalizing s with
  | nil => exact ⟨rfl, rfl, rfl⟩
  | cons x l ih =>
    obtain rfl := hl x (by simp)
    have hrest : ∀ y ∈ l, y = (n, k) := fun y hy => hl y (List.mem_cons_of_mem _ hy)
    rw [List.foldl_cons]
    obtain ⟨-, he⟩ | ⟨r, w, ho, ⟨-, he⟩ | ⟨hw, -⟩⟩ := closeWindow_cases n k s
    · rw [he]
      exact ih hrest hc
    · rw [he]
      have hshut := EntriesKept.onWindow n k (fun w => { w with closed := true }) s
      have hfold := ih hrest (s := s.onTku (fun t => t.onWindow n k (fun w => { w with closed := true })))
        (hc.onWindow fun _ h => h)
      exact ⟨hfold.rlu.trans hshut.rlu, hfold.stray.trans hshut.stray, hfold.entries.trans hshut.entries⟩
    · obtain ⟨hr, hn, hm, hk, -⟩ := Tku.openWindow_some ho
      exact absurd (hc r hr hn w hm hk) (by simp [hw])

theorem mem_track_of_entries {s t : State} (h : t.tku.track.map RepeatRecord.entries = s.tku.track.map RepeatRecord.entries)
    {r : RepeatRecord} (hr : r ∈ s.tku.track) : ∃ q ∈ t.tku.track, q.entries = r.entries :=
  List.mem_map.1 (h ▸ List.mem_map_of_mem hr)

/-! ### A coast after a mark (R27) -/

theorem latchCause_records (c : StopCause) (s : State) :
    (latchCause c s).tku.track = s.tku.track ∧ (latchCause c s).tku.stray = s.tku.stray := by
  unfold latchCause
  dsimp only
  split
  · exact ⟨rfl, rfl⟩
  · split <;> simp [enterFault_tku]

theorem closedRecord_entries (n : Nat) (len : SpanLength) (hit : Bool) (r : RepeatRecord) :
    (closedRecord n len hit r).entries = r.entries := by
  unfold closedRecord
  split <;> rfl

theorem fittedRecord_entries (n : Nat) (ws : List Window) (r : RepeatRecord) :
    (fittedRecord n ws r).entries = r.entries := by
  unfold fittedRecord
  split <;> rfl

/-- A creation leaves the strays and the entries of the records. -/
theorem joinAndClose_entries (origin : Pos) (b : Birth) (s : State) :
    (joinAndClose origin b s).tku.stray = s.tku.stray ∧
      ∀ r ∈ s.tku.track, ∃ q ∈ (joinAndClose origin b s).tku.track, q.entries = r.entries := by
  cases h : s.tku.newest with
  | none =>
    rw [joinAndClose_none h]
    exact ⟨rfl, fun r hr => ⟨r, List.mem_append_left _ hr, rfl⟩⟩
  | some old =>
    obtain ⟨rej, est, -, ht⟩ := joinAndClose_tku h origin b
    rw [ht]
    exact ⟨rfl, fun r hr => ⟨_, List.mem_map_of_mem (List.mem_append_left _ hr), closedRecord_entries ..⟩⟩

theorem createCoasted_entries {e : Pos} {s : State} (hs : s.tku.scanner = .tracking) :
    (createCoasted e s).tku.stray = s.tku.stray ∧
      ∀ r ∈ s.tku.track, ∃ q ∈ (createCoasted e s).tku.track, q.entries = r.entries := by
  by_cases hlen : s.tku.track.length < 512
  · obtain ⟨sc, cc, ht, -⟩ := createCoasted_leaves (e := e) hlen hs
    obtain ⟨hstray, hjoin⟩ := joinAndClose_entries e .coasted s
    rw [ht, addRecord_track_beside e .coasted s (by decide), fitRecord_tku]
    refine ⟨hstray, fun r hr => ?_⟩
    obtain ⟨q, hq, he⟩ := hjoin r hr
    exact ⟨_, List.mem_map_of_mem hq, (fittedRecord_entries ..).trans he⟩
  · obtain ⟨htr, hst⟩ := latchCause_records .trackOverflow s
    rw [createCoasted_full (Nat.not_lt.1 hlen)]
    exact ⟨hst, fun r hr => ⟨r, htr ▸ hr, rfl⟩⟩

end Sys2Proof.Machine
end

section
/-! Marks and windows (R22, R23, R25 to R27, R31 to R33). -/

namespace Sys2Proof.Machine

/-! ### A mark that one window alone holds -/

/-- The capture of a mark by a window (R31, R55). -/
def takenMark (p : Pos) (r : RepeatRecord) (w : Window) (s : State) : State :=
  registerEntry w.station r.number r.coasted (captureReading s w.station p r.origin w.target)
    (s.onTku (fun t => t.onWindow r.number w.station (fun w => { w with captured := true })))

theorem offerMark_taken {p : Pos} {s : State} {r : RepeatRecord} {w : Window}
    (h : takingWindow p s.tku.blocks = some (r, w)) : offerMark p s = takenMark p r w s := offerMark_some h

section
variable {p : Pos} {r : RepeatRecord} {w : Window} {s : State}

theorem takenMark_tku : (takenMark p r w s).tku = (writeRegEntry w.station r.number
    (captureReading s w.station p r.origin w.target)
    (s.onTku (fun t => t.onWindow r.number w.station (fun w => { w with captured := true })))).tku := registerEntry_tku ..

theorem takenMark_captured : (takenMark p r w s).tku.AllWindows r.number w.station (·.captured = true) := by
  have hall : s.tku.AllWindows r.number w.station (fun _ => True) := fun _ _ _ _ _ _ => trivial
  have hset : (s.onTku (fun t => t.onWindow r.number w.station (fun w => { w with captured := true }))).tku.AllWindows
      r.number w.station (·.captured = true) := hall.onWindow fun _ _ => rfl
  exact hset.registerEntry _ _

/-- A capture moves no window. -/
theorem takenMark_window {x : RepeatRecord} (hx : x ∈ (takenMark p r w s).tku.blocks) {v : Window} (hv : v ∈ x.windows) :
    ∃ y ∈ s.tku.blocks, ∃ u ∈ y.windows, x.number = y.number ∧ v.station = u.station ∧ v.half = u.half ∧
      v.far x p = u.far y p := by
  have hset : ∃ z ∈ (s.onTku (fun t => t.onWindow r.number w.station
      (fun w => { w with captured := true }))).tku.blocks, z.number = x.number ∧ z.origin = x.origin ∧
        z.windows = x.windows := by
    rw [takenMark_tku] at hx
    obtain hx | hx := List.mem_append.1 hx
    · exact ⟨x, List.mem_append_left _ hx, rfl, rfl, rfl⟩
    · obtain ⟨z, hz, rfl⟩ := List.mem_map.1 hx
      refine ⟨z, List.mem_append_right _ hz, ?_⟩
      split <;> exact ⟨rfl, rfl, rfl⟩
  obtain ⟨z, hz, hzn, hzo, hzw⟩ := hset
  obtain ⟨y, hy, rfl⟩ := Tku.mem_onWindow_blocks hz
  obtain ⟨hn, ho, -⟩ := y.onWindowOf_fields r.number w.station (fun w => { w with captured := true })
  have hu : ∃ u ∈ y.windows, v.station = u.station ∧ v.half = u.half ∧ v.target = u.target := by
    rw [← hzw, RepeatRecord.onWindowOf] at hv
    split at hv
    · obtain ⟨u, hu, rfl⟩ := List.mem_map.1 hv
      refine ⟨u, hu, ?_⟩
      split <;> exact ⟨rfl, rfl, rfl⟩
    · exact ⟨v, hv, rfl, rfl, rfl⟩
  obtain ⟨u, hu, hus, huh, hut⟩ := hu
  refine ⟨y, hy, u, hu, hzn.symm.trans hn, hus, huh, ?_⟩
  rw [Window.far, Window.far, ← hzo, ho, hut]

/-- A mark that one open, uncaptured window alone holds is taken by it (R31). -/
theorem takingWindow_lone (hr : r ∈ s.tku.blocks) (hw : w ∈ r.windows) (ht : w.takes r p)
    (hlone : ∀ x ∈ s.tku.blocks, ∀ v ∈ x.windows, (x ≠ r ∨ v ≠ w) → v.half < v.far x p) :
    takingWindow p s.tku.blocks = some (r, w) := by
  obtain ⟨older, newer, hb, hnot⟩ := List.eq_append_cons_of_mem hr
  obtain ⟨lower, higher, hws, hlow⟩ := List.eq_append_cons_of_mem hw
  have holder : ∀ x ∈ older, ∀ v ∈ x.windows, ¬ v.takes x p := fun x hx v hv =>
    not_takes_of_far (hlone x (hb ▸ List.mem_append_left _ hx) v hv (.inl fun he => hnot (he ▸ hx)))
  have hother : ∀ v ∈ r.windows, v ≠ w → ¬ v.takes r p := fun v hv hne =>
    not_takes_of_far (hlone r hr v hv (.inr hne))
  rw [hb]
  refine takingWindow_some holder hws ht (fun v hv htv => ?_) fun v hv htv => ?_
  · exact absurd htv (hother v (hws ▸ List.mem_append_left _ hv) fun he => hlow (he ▸ hv))
  · by_cases he : v = w
    · rw [he]
    · exact absurd htv (hother v (hws ▸ List.mem_append_right _ (List.mem_cons_of_mem _ hv)) he)

/-- The windows that waited for such a mark report nothing. -/
theorem takenMark_closes (hrun : s.running = true)
    (hlone : ∀ x ∈ s.tku.blocks, ∀ v ∈ x.windows, (x ≠ r ∨ v ≠ w) → v.half < v.far x p) :
    EntriesKept (takenMark p r w s) (closeHeldWindows p (takenMark p r w s)) := by
  have hm : (takenMark p r w s).running = true := (registerEntry_running ..).trans hrun
  rw [closeHeldWindows, if_pos hm]
  refine foldl_closeWindow_captured (n := r.number) (k := w.station) (fun y hy => ?_) takenMark_captured
  obtain ⟨x, hx, hy⟩ := List.mem_flatMap.1 hy
  obtain ⟨v, hv, rfl⟩ := List.mem_map.1 hy
  obtain ⟨hv, hheld⟩ := List.mem_filter.1 hv
  have hwithin : v.far x p ≤ v.half := windowHolds_iff.1 (Bool.and_eq_true_iff.1 (Bool.and_eq_true_iff.1 hheld).2).1
  obtain ⟨y, hy, u, hu, hn, hst, hh, hf⟩ := takenMark_window hx hv
  by_cases he : y = r ∧ u = w
  · rw [hn, hst, he.1, he.2]
  · have := hlone y hy u hu (Decidable.not_and_iff_or_not.1 he)
    omega

theorem takenMark_coast : SameCoast s (takenMark p r w s) :=
  SameCoast.trans (t := s.onTku (fun t => t.onWindow r.number w.station (fun w => { w with captured := true })))
    ⟨rfl, rfl, rfl, rfl, Tku.onWindow_expected ..⟩ (SameCoast.registerEntry ..)

/-- Such a mark, before any coast. -/
theorem takenMark_writes (hr : r ∈ s.tku.track) : ∃ q ∈ (takenMark p r w s).tku.track, q.number = r.number ∧
    ⟨w.station, captureReading s w.station p r.origin w.target⟩ ∈ q.regs ∧
    ((captureReading s w.station p r.origin w.target).isDefect = true → q.defects.register = true) := by
  rw [takenMark_tku]
  exact writeRegEntry_writes (r := r.onWindowOf r.number w.station (fun w => { w with captured := true }))
    (List.mem_map_of_mem hr) (r.onWindowOf_fields ..).1

theorem takenMark_discarded (h : ∀ q ∈ s.tku.track, q.number ≠ r.number) :
    (takenMark p r w s).tku.track.map (·.regs) = s.tku.track.map (·.regs) := by
  rw [takenMark_tku, writeRegEntry_discarded]
  · rw [State.onTku_tku, Tku.onWindow_track, List.map_map]
    exact List.map_congr_left fun q _ => (q.onWindowOf_fields ..).2.2.1
  · intro q hq
    rw [State.onTku_tku, Tku.onWindow_track] at hq
    obtain ⟨x, hx, rfl⟩ := List.mem_map.1 hq
    rw [(x.onWindowOf_fields ..).1]
    exact h x hx

/-- A capture does to the loops what its entry does from the state before the edge. -/
theorem takenMark_edgeRead_rlu : (takenMark p r w (edgeRead s)).rlu = (registerEntry w.station r.number r.coasted
    (captureReading s w.station p r.origin w.target) s).rlu :=
  SameLoop.registerEntry_rlu (s := s) (t := (edgeRead s).onTku (fun t => t.onWindow r.number w.station
    (fun w => { w with captured := true }))) ⟨rfl, rfl, fun _ => rfl⟩ rfl _ _ _ _ _

/-- A station-shaped mark that one open, uncaptured window alone holds (R31, R32). -/
theorem settleMark_lone (hrun : s.running = true) (hs : s.tku.scanner ≠ .off)
    (hc : classify s.tku.params (sdiff s.wtb.wp p) = .station) (hr : r ∈ s.tku.blocks) (hw : w ∈ r.windows)
    (ht : w.takes r p) (hlone : ∀ x ∈ s.tku.blocks, ∀ v ∈ x.windows, (x ≠ r ∨ v ≠ w) → v.half < v.far x p) :
    ∃ t, EntriesKept (takenMark p r w s) t ∧ SameCoast s t ∧ settleMark p s = coastAfterMark p false t := by
  refine ⟨closeHeldWindows p (takenMark p r w s), takenMark_closes hrun hlone,
    takenMark_coast.trans (.of_windowsWork (.closeHeldWindows p _)), ?_⟩
  rw [settleMark_offers hs hc, offerMark_taken (takingWindow_lone hr hw ht hlone)]

end

/-- A coast that waited, or none. -/
theorem coastAfterMark_cases (p : Pos) (t : State) : coastAfterMark p false t = t ∨
    ∃ e, t.tku.scanner = .tracking ∧ coastAfterMark p false t = createCoasted e t := by
  unfold coastAfterMark
  split
  · exact .inl rfl
  next hn =>
    split
    next e _ =>
      split
      · have hs : t.running = true ∧ t.tku.scanner = .tracking := by simpa using hn
        exact .inr ⟨e, hs.2, rfl⟩
      · exact .inl rfl
    next => exact .inl rfl

theorem coastAfterMark_entries (p : Pos) (t : State) : (coastAfterMark p false t).tku.stray = t.tku.stray ∧
    ∀ q ∈ t.tku.track, ∃ x ∈ (coastAfterMark p false t).tku.track, x.entries = q.entries := by
  obtain h | ⟨e, htr, h⟩ := coastAfterMark_cases p t
  · rw [h]
    exact ⟨rfl, fun q hq => ⟨q, hq, rfl⟩⟩
  · rw [h]
    exact createCoasted_entries htr

/-! ### The edges of a mark (R22) -/

theorem State.scans_iff {s : State} : s.scans = true ↔
    s.wtb.newWeb = true ∧ s.running = true ∧ s.tku.scanner ≠ .off := by
  simp [State.scans, State.advancing, and_assoc]

theorem execMarkLeadingEdge_begins {s : State} (h : s.scans = true) (hp : s.tku.scnPrev = false) :
    execMarkLeadingEdge s = .next { s with
      pins := { s.pins with scn := !s.wtb.polarity.scn }
      tku := { s.tku with scnPrev := true, halfSeen := some s.wtb.wp } } :=
  congrArg Host.Outcome.next (if_pos ⟨h, hp⟩)

theorem execMarkLeadingEdge_noted {s : State} (h : ¬ (s.scans = true ∧ s.tku.scnPrev = false)) :
    execMarkLeadingEdge s = .next { s with pins := { s.pins with scn := !s.wtb.polarity.scn } } :=
  congrArg Host.Outcome.next (if_neg h)

theorem execMarkTrailingEdge_noted {s : State} (h : ¬ (s.scans = true ∧ s.tku.scnPrev = true)) :
    execMarkTrailingEdge s = .next { s with pins := { s.pins with scn := s.wtb.polarity.scn } } :=
  congrArg Host.Outcome.next (if_neg h)

/-- A trailing edge at the advance of P itself, or with no mark half-seen (log 43). -/
theorem execMarkTrailingEdge_unread {s : State} (h : s.scans = true) (hp : s.tku.scnPrev = true)
    (hm : s.tku.halfSeen = none ∨ s.tku.halfSeen = some s.wtb.wp) : execMarkTrailingEdge s = .next (edgeRead s) := by
  refine congrArg Host.Outcome.next ((if_pos ⟨h, hp⟩).trans ?_)
  dsimp only [State.onPins, State.onTku]
  obtain hm | hm := hm
  · rw [hm]
    rfl
  · rw [hm]
    exact if_pos rfl

/-- A stray mark, with the count written out (R33). -/
theorem strayMark_written (s : State) : strayMark s =
    { s with tku := { s.tku with stray := min 65535 (s.tku.stray + 1) } } :=
  congrArg (fun x => { s with tku := { s.tku with stray := x } }) (satInc_countLimit s.tku.stray)

/-- With no window that holds the mark none waits for it. -/
theorem closeHeldWindows_none {p : Pos} {s : State}
    (h : ∀ r ∈ s.tku.blocks, ∀ w ∈ r.windows, w.half < w.far r p) : closeHeldWindows p s = s := by
  have ho : openWindows (fun r w => windowHolds r w p && windowPassed r w s.wtb.wp) s.tku.blocks = [] := by
    refine List.flatMap_eq_nil_iff.2 fun r hr => List.map_eq_nil_iff.2 (List.filter_eq_nil_iff.2 fun w hw => ?_)
    simp [windowHolds_eq_false.2 (h r hr w hw)]
  unfold closeHeldWindows closeWindows
  rw [ho]
  exact ite_self _

/-! ### WINDOW_CLOSE (R32) -/

section
variable {n : Nat} {k : Fin 8} {r : RepeatRecord} {w : Window} {s : State}

theorem execWindowClose_none (h : s.tku.openWindow n k = none) : execWindowClose n (k.val + 1) s = .next s := by
  simp only [execWindowClose, stationIndex_val, h]

theorem execWindowClose_some (h : s.tku.openWindow n k = some (r, w)) : execWindowClose n (k.val + 1) s =
    .next (if s.advancing ∧ windowPassed r w s.wtb.wp = true ∧ s.tku.heldBy (windowHolds r w) = false then
      closeWindow n k s else s) := by
  simp only [execWindowClose, stationIndex_val, h]

theorem Tku.heldBy_eq_false {t : Tku} {q : Pos → Bool} :
    t.heldBy q = false ↔ ∀ p, t.halfSeen = some p → q p = false := by
  unfold Tku.heldBy
  cases t.halfSeen <;> simp

theorem closeWindow_missing (h : s.tku.openWindow n k = some (r, w)) (hc : w.captured = false) :
    (closeWindow n k s).tku = (writeRegEntry k n .missing
      (s.onTku (fun t => t.onWindow n k (fun w => { w with closed := true })))).tku := by
  have he : closeWindow n k s = registerEntry k n r.coasted .missing (raise .markMissing (k.val + 1) n
      (s.onTku (fun t => t.onWindow n k (fun w => { w with closed := true })))) := by
    simp only [closeWindow, h, hc]
    rfl
  rw [he, registerEntry_tku, writeRegEntry, writeRegEntry, State.onTku_tku, raise_tku]
  rfl

/-- The missing report of a window that closes without a capture (R32, R34, R56). -/
theorem closeWindow_reports (h : s.tku.openWindow n k = some (r, w)) (hc : w.captured = false) :
    ((∃ x ∈ s.tku.track, x.number = n) → ∃ q ∈ (closeWindow n k s).tku.track, q.number = n ∧
      ⟨k, .missing⟩ ∈ q.regs ∧ q.defects.register = true) ∧
    ((∀ x ∈ s.tku.track, x.number ≠ n) → (closeWindow n k s).tku.track = s.tku.track) := by
  obtain ⟨shut, hshut⟩ : ∃ shut, shut = s.onTku (fun t => t.onWindow n k (fun w => { w with closed := true })) := ⟨_, rfl⟩
  have htrack : shut.tku.track = s.tku.track.map (·.onWindowOf n k (fun w => { w with closed := true })) := by
    rw [hshut]
    rfl
  rw [closeWindow_missing h hc, ← hshut]
  refine ⟨fun ⟨x, hx, hxn⟩ => ?_, fun hleft => ?_⟩
  · obtain ⟨q, hq, hqn, hqr, hqd⟩ := writeRegEntry_writes (k := k) (rd := .missing) (s := shut)
      (htrack ▸ List.mem_map_of_mem hx) ((x.onWindowOf_fields n k _).1.trans hxn)
    exact ⟨q, hq, hqn, hqr, hqd rfl⟩
  · have hsame : shut.tku.track = s.tku.track :=
      htrack.trans ((List.map_congr_left fun x hx => if_neg (hleft x hx)).trans (List.map_id _))
    rw [writeRegEntry_discarded (s := shut) (hsame ▸ hleft), hsame]

end

end Sys2Proof.Machine
end

section
/-! Marks meet windows (R22, R23, R25 to R27, R31 to R34, R55, R56). -/

namespace Sys2Proof.Machine

/-- A mark that only strays, with nothing that waits for it (R33). -/
theorem settleMark_onlyStrays {p : Pos} {s : State} (hs : s.tku.scanner = .tracking ∨ (s.tku.scanner = .acquire ∧
      s.tku.params.widthTol < ((s.wtb.wp - p).toInt - s.tku.params.masterWidth).natAbs))
    (hw : ∀ r ∈ s.tku.blocks, ∀ w ∈ r.windows, w.half < w.far r p)
    (he : ∀ e, s.tku.expected = some e → s.tku.params.wMaster < (p - e).toInt.natAbs) :
    settleMark p s = strayMark s := by
  have hoff : s.tku.scanner ≠ .off := by rcases hs with h | ⟨h, -⟩ <;> simp [h]
  have hdone : coastAfterMark p false (closeHeldWindows p (strayMark s)) = strayMark s := by
    rw [closeHeldWindows_none (s := strayMark s) hw]
    exact coastAfterMark_waits (.inr fun e h => .inl (he e h))
  by_cases hm : ((s.wtb.wp - p).toInt - s.tku.params.masterWidth).natAbs ≤ s.tku.params.widthTol
  · have htrack : s.tku.scanner = .tracking := hs.resolve_right fun h => absurd h.2 (Nat.not_lt.2 hm)
    exact (settleMark_misplaced htrack (classify_master hm) he).trans hdone
  · by_cases hst : ((s.wtb.wp - p).toInt - s.tku.params.stationWidth).natAbs ≤ s.tku.params.widthTol
    · rw [settleMark_offers hoff (classify_station hm hst), offerMark_none (takingWindow_none fun r hr w hv =>
        not_takes_of_far (hw r hr w hv))]
      exact hdone
    · exact (settleMark_strays hoff (classify_stray hm hst)).trans hdone

/-- Settles O25. -/
theorem marksMeetWindows : Obligations.MarksMeetWindows := by
  refine ⟨fun s => ⟨fun hw hr hs hp => ?_, fun h => ?_, fun hw hr hs hp hh => ?_, fun h => ?_⟩,
    fun p s hw hr hp hh hne hs hfar he => ?_,
    fun p r w s hw hr hp hh hne hs hm hst hmem hwin hcl hca hin hlone => ?_, ?_⟩
  · exact execMarkLeadingEdge_begins (State.scans_iff.2 ⟨hw, hr, hs⟩) hp
  · refine execMarkLeadingEdge_noted fun ⟨ha, hp⟩ => ?_
    obtain ⟨hw, hr, hs⟩ := State.scans_iff.1 ha
    simp [hw, hr, hs, hp] at h
  · exact execMarkTrailingEdge_unread (State.scans_iff.2 ⟨hw, hr, hs⟩) hp hh
  · refine execMarkTrailingEdge_noted fun ⟨ha, hp⟩ => ?_
    obtain ⟨hw, hr, hs⟩ := State.scans_iff.1 ha
    simp [hw, hr, hs, hp] at h
  · have hoff : s.tku.scanner ≠ .off := by rcases hs with h | ⟨h, -⟩ <;> simp [h]
    refine (execMarkTrailingEdge_ends hw hr hoff hp hh hne).trans (congrArg _ ?_)
    exact (settleMark_onlyStrays (s := edgeRead s) hs hfar he).trans (strayMark_written _)
  · have hoff : s.tku.scanner ≠ .off := by rcases hs with h | h <;> simp [h]
    obtain ⟨t, hkept, hcoast, hset⟩ := settleMark_lone (s := edgeRead s) hr hoff
      (classify_station (Nat.not_le.2 hm) hst) hmem hwin ⟨hcl, hca, hin⟩ hlone
    obtain ⟨hstray, hafter⟩ := coastAfterMark_entries p t
    refine ⟨_, _, (execMarkTrailingEdge_ends hw hr hoff hp hh hne).trans (congrArg _ hset), rfl, fun hrt => ?_,
      hstray.trans (hkept.stray.trans (by rw [takenMark_tku]; rfl)), fun he => ?_⟩
    · obtain ⟨q, hq, hqn, hqr, hqd⟩ := takenMark_writes (p := p) (w := w) (s := edgeRead s) hrt
      obtain ⟨y, hy, hye⟩ := mem_track_of_entries hkept.entries hq
      obtain ⟨x, hx, hxe⟩ := hafter y hy
      obtain ⟨h1, h2, h3⟩ : x.number = q.number ∧ x.regs = q.regs ∧ x.defects.register = q.defects.register := by
        simpa [RepeatRecord.entries] using hxe.trans hye
      refine ⟨x, hx, h1.trans hqn, h2 ▸ hqr, fun hout => h3.trans (hqd ?_)⟩
      exact congrArg not (decide_eq_false (Nat.not_le.2 hout))
    · have hstay : coastAfterMark p false t = t := by
        refine coastAfterMark_waits (.inr fun e hx => .inl ?_)
        rw [hcoast.params]
        exact he e (hcoast.expected ▸ hx)
      rw [hstay]
      refine ⟨fun hleft => ?_, hkept.rlu.trans takenMark_edgeRead_rlu⟩
      have hregs := congrArg (List.map fun x : Nat × List RegEntry × Bool => x.2.1) hkept.entries
      rw [List.map_map, List.map_map] at hregs
      exact Eq.trans hregs (takenMark_discarded (s := edgeRead s) hleft)
  · intro onWindow close
    have hon : ∀ n k f u, onWindow n k f u = u.onTku (fun t => t.onWindow n k f) := fun n k f u =>
      congrArg (fun x => { u with tku := x }) (Tku.onWindow_written u.tku n k f).symm
    have hclose : close = closeWindow := by
      funext n k u
      cases h : u.tku.openWindow n k with
      | none => simp only [close, closeWindow, h]
      | some x => simp only [close, closeWindow, h, hon]
    rw [hclose]
    refine ⟨?_, fun n k r w s ho => ⟨fun hpass hw hr hfree => ?_, fun h => ?_⟩,
      fun n k s ho => execWindowClose_none ho, fun n station s h => ?_⟩
    · intro p m s hw hr hs hp hh hne master station far takes read hm
      have hread : SameCoast s (edgeRead s) := ⟨rfl, rfl, rfl, rfl, rfl⟩
      have hmark : SameCoast s m ∧
          settleMark p (edgeRead s) = coastAfterMark p false (closeHeldWindows p m) := by
        obtain ⟨hc, rfl⟩ | ⟨hnm, hst, older, r, newer, lower, w, higher, hb, hold, hws, htk, hlow, hhigh, hmeq⟩ := hm
        · refine ⟨⟨rfl, rfl, rfl, rfl, rfl⟩, Eq.trans ?_ (congrArg (fun t => coastAfterMark p false (closeHeldWindows p t))
            (strayMark_written (edgeRead s)))⟩
          obtain ⟨hnm, hns⟩ | ⟨hnm, hst, hno⟩ | ⟨hma, htr, he⟩ := hc
          · exact settleMark_strays (s := edgeRead s) hs (classify_stray hnm hns)
          · rw [← offerMark_none (s := edgeRead s) (takingWindow_none hno)]
            exact settleMark_offers (s := edgeRead s) hs (classify_station hnm hst)
          · exact settleMark_misplaced (s := edgeRead s) htr (classify_master hma) he
        · have htaking : takingWindow p (edgeRead s).tku.blocks = some (r, w) := by
            rw [show (edgeRead s).tku.blocks = older ++ r :: newer from hb]
            exact takingWindow_some hold hws htk hlow hhigh
          have hoffer : offerMark p (edgeRead s) = m := by
            rw [offerMark_some htaking, hmeq, hon]
            rfl
          rw [← hoffer]
          exact ⟨hread.trans (.offerMark ..), settleMark_offers (s := edgeRead s) hs (classify_station hnm hst)⟩
      obtain ⟨hsame, hset⟩ := hmark
      have hend := hsame.trans (.of_windowsWork (.closeHeldWindows p m))
      have hx := (execMarkTrailingEdge_ends hw hr hs hp hh hne).trans (congrArg Host.Outcome.next hset)
      refine ⟨closeHeldWindows p m, ?_, fun h => hx.trans (congrArg _ (coastAfterMark_waits ?_)),
        fun e htr he hin hov => hx.trans (congrArg _ (coastAfterMark_coasts ?_ ?_ ?_ ?_ ?_))⟩
      · rw [closeHeldWindows_written (hsame.running.trans hr), hsame.wp]
      · rw [hend.scanner, hend.params, hend.expected, hend.wp]
        exact h.imp (fun h => by simp [h]) id
      · exact hend.running.trans hr
      · exact hend.scanner.trans htr
      · exact hend.expected.trans he
      · rwa [hend.params]
      · rwa [hend.params, hend.wp]
    · have ha : s.advancing = true := by simp [State.advancing, hw, hr]
      have hheld : s.tku.heldBy (windowHolds r w) = false :=
        Tku.heldBy_eq_false.2 fun p hp => windowHolds_eq_false.2 (hfree p hp)
      exact ⟨(execWindowClose_some ho).trans (congrArg _ (if_pos ⟨ha, decide_eq_true hpass, hheld⟩)),
        closeWindow_openWindow n k s, closeWindow_reports ho⟩
    · refine (execWindowClose_some ho).trans (congrArg _ (if_neg fun ⟨ha, hpass, hheld⟩ => ?_))
      have hpass : 0 < (s.wtb.wp - posPlus r.origin (w.target + w.half)).toInt := of_decide_eq_true hpass
      have ha : s.wtb.newWeb = true ∧ s.running = true := by simpa [State.advancing] using ha
      rcases h with h | h | h | ⟨p, hp, h⟩
      · omega
      · simp [h] at ha
      · simp [h] at ha
      · have := windowHolds_eq_false.1 (Tku.heldBy_eq_false.1 hheld p hp)
        exact absurd h (Nat.not_le.2 this)
    · refine congrArg Host.Outcome.next ?_
      rw [stationIndex_eq_none h]

end Sys2Proof.Machine
end
